-- ==== Sys2Proof/Word.lean ====
section
/-! DEFINITION. The word types of the HC40 model: bytes, 16-bit sequence numbers, 32-bit words.
Only what the manual treats as bits is a bit vector (spec 4.1, 4.4, 4.5, 4.6). -/

namespace Sys2Proof

/-- One byte of the exchange memory, of a frame or of the store. -/
abbrev Byte := BitVec 8

/-- A sequence number (spec 4.5) or another 16-bit field. -/
abbrev Half := BitVec 16

/-- A register, a tote ID (spec 4.4) or a CLOCK value (spec 4.6). -/
abbrev Word := BitVec 32

end Sys2Proof
end

