-- ==== Sys2Proof/Syntax.lean ====
section
/-! DEFINITION. The vocabulary of the HC40's events and `Instr`: the 79 rows of the table of operations and events,
one constructor each, with what the event carries. -/

namespace Sys2Proof

/-- The two sides of the aisle (spec 4.2). -/
inductive Side where
  | a | b
deriving DecidableEq, Repr

/-- The two ports of the level chain, and the facing of a node (8.1). -/
inductive Port where
  | bottom | top
deriving DecidableEq, Repr

/-- The four spurs, each with a count input (spec 6, R10). -/
inductive Spur where
  | entryA | entryB | exitA | exitB
deriving DecidableEq, Repr

/-- What a reader reports: a tote ID or UNREADABLE (R66, R130). -/
inductive Read where
  | tote (id : Word)
  | unreadable
deriving DecidableEq, Repr

/-- The result of a stop (6.2.1, STOP-DONE). -/
inductive StopResult where
  | ok | empty | blocked | jam
deriving DecidableEq, Repr

/-- The four lane counts of a level in place order (R144, R151). -/
structure LaneCounts where
  outA : Byte
  inA : Byte
  outB : Byte
  inB : Byte
deriving DecidableEq, Repr

/-- The shuttle's last dialogue event in a RESYNC-REPORT (R151). -/
inductive LastEvent where
  | none
  | dropAsk (tote : Word)
  | dropGrant (side : Side) (tote : Word)
  | dropDone (side : Side) (tote : Word)
  | dropAbort (side : Side) (tote : Word)
  | takeAsk (side : Side)
  | takeGrant (side : Side)
  | takeDone (side : Side)
  | takeAbort (side : Side)
deriving DecidableEq, Repr

/-- A retirement slot: its four bytes (10.2). -/
structure Slot where
  b0 : Byte
  b1 : Byte
  b2 : Byte
  b3 : Byte
deriving DecidableEq, Repr

/-- The commands of the block: one constructor for each row of the table. A chain frame carries the port it arrives
at, the level byte it names and its number field (R143, R154); a lift frame carries the side of its link. -/
inductive Instr where
  -- system (R171, R177, R178)
  | powerOn (aisle : BitVec 6)
  | reset (aisle : BitVec 6)
  | initEnd
  | noProfile
  | eStopAssert
  | eStopRelease
  -- the aisle computer at the exchange memory and the registers (R155, R158, R164, R165, R168, R176, R180)
  | exchangeWrite (offset : BitVec 15) (bytes : List Byte)
  | postedWrite (card : Nat) (value : Byte)
  | freeWrite (card : Nat)
  | acknowledge (index : Nat)
  | clearEntry (index : Nat)
  | requestConfig
  | requestRun
  | requestHold
  | causeWrite (value : Word)
  | causeEnableWrite (value : Word)
  | registerWrite (offset : Nat) (width : Nat) (value : Word)
  -- the examiner (R160)
  | badKind
  | retrieve
  | store
  | cancel
  | flush
  | skip
  | renumber
  | bar
  | unbarKeep
  | unbarClear
  | retire
  | commit
  | erase
  -- the profile store reports the end of its operation (R173–R175)
  | commitEnd (completed : Bool) (readBack : List Byte)
  | eraseEnd (profile : List Byte) (slots : Vector Slot 32)
  | retireEnd (readBack : Slot)
  -- the level chain (R72–R89, R139–R154)
  | dropAsk (port : Port) (level : Byte) (number : BitVec 4) (tote : Word)
  | dropDone (port : Port) (level : Byte) (number : BitVec 4) (side : Side) (tote : Word)
  | dropAbort (port : Port) (level : Byte) (number : BitVec 4) (side : Side) (tote : Word)
  | takeAsk (port : Port) (level : Byte) (number : BitVec 4) (side : Side)
  | takeDone (port : Port) (level : Byte) (number : BitVec 4) (side : Side) (tote : Word)
  | takeAbort (port : Port) (level : Byte) (number : BitVec 4) (side : Side)
  | grantTimerExpiry (level : Nat)
  | laneCount (port : Port) (level : Byte) (number : BitVec 4) (counts : LaneCounts)
  | nothing (port : Port) (level : Byte)
  | overflow (port : Port) (level : Byte)
  | restarted (port : Port) (level : Byte)
  | resyncReport (port : Port) (level : Byte) (number : BitVec 4) (next : BitVec 4) (counts : LaneCounts)
      (held : Word) (last : LastEvent)
  | ack (port : Port) (level : Byte) (number : BitVec 4)
  | visit (port : Port)
  | exchangeUnanswered (port : Port)
  | hello (port : Port)
  | checkError (port : Port)
  | relayedFrame (port : Port)
  -- the lift links (R108–R128)
  | status (lift : Side) (level : Nat) (accepted : BitVec 4)
  | arrived (lift : Side) (trip : Byte) (stop : Nat)
  | stopDone (lift : Side) (trip : Byte) (stop : Nat) (result : StopResult)
  | tripEnd (lift : Side) (trip : Byte)
  | ready (lift : Side)
  | parkedAck (lift : Side)
  | state (lift : Side) (level : Nat) (front : Bool) (rear : Bool) (trip : Byte) (last : Nat) (fault : Byte)
  | fault (lift : Side) (code : Byte)
  | liftFrameDiscard (lift : Side)
  | unknownKindFrame (lift : Side)
  | silenceTimerExpiry (lift : Side)
  | commandResend (lift : Side)
  | stateAskRepeat (lift : Side)
  | parkTimerExpiry (lift : Side)
  | wakeTimerExpiry (lift : Side)
  | deadlineExpiry (lift : Side)
  -- the entry divert (R129–R138)
  | entryReaderResult (read : Read)
  | entryArrive
  | divertDone
  | entryArriveDeassert
  | rejectFullChange (full : Bool)
  -- the place map's sensors (R10, R13)
  | spurCountChange (spur : Spur) (count : Nat)
  | mismatchTimerExpiry (place : Nat)
  -- the merge and the release unit (R62–R70)
  | exitReadyChange (ready : Bool)
  | exitReaderResult (read : Read)
  | pass
  | overdueTimerExpiry
  | stallTimerExpiry
deriving DecidableEq, Repr

end Sys2Proof
end

