-- ==== Sys2Proof/Decode.lean ====
section
/-! DEFINITION. The table of operations and events gives no row any bits: no word spells a command. -/

namespace Sys2Proof

/-- The command a word spells by the table's bits: none, since no row of the table gives bits. -/
def decodeTableWord (_nbits _w : Nat) : Option Instr := none

end Sys2Proof
end

