-- ==== Sys2Proof/Config.lean ====
section
/-! DEFINITION. What the manual leaves open: constants with no body, so nothing can evaluate them and every
statement holds whatever they are. -/

namespace Sys2Proof

/-- The module's hardware revision, shown in IDENT bits 8–15 (R163); the manual gives no value (log 10). -/
opaque Config.hardwareRevision : Byte

/-- The order in which neighbours told of changes in one event act (R7, R9, R51, R176 give none): applied to
the free-value counter it picks one of the neighbours that can act (log 5). -/
opaque Config.freeOrder : Nat → Nat

/-- Byte `i` of the profile area after a COMMIT or ERASE cut short by a reset (R171), for the `k`-th free value (log 11). -/
opaque Config.cutProfileByte : Nat → Nat → Byte

/-- Byte `i` of retirement slot `j` after an ERASE or RETIRE cut short by a reset (R171), for the `k`-th free value (log 11). -/
opaque Config.cutSlotByte : Nat → Nat → Nat → Byte

end Sys2Proof
end

