-- ==== Sys2Proof/Machine/Memory.lean ====
section
/-! DEFINITION. The exchange memory's cells (9.1): the bytes that have no other home, as a list of (address, byte) pairs
in one canonical form, with the byte-order helpers. -/

namespace Sys2Proof.Machine

/-- The addresses whose byte lives in the cell list: everything the aisle computer may store into and the place mirror
(9.1). The header, finish list, condition table, active profile and retirement list view are views of other state. -/
def Memory.home (a : Nat) : Bool :=
  decide (0x00C0 ≤ a ∧ a < 0x0100) || decide (0x0400 ≤ a ∧ a < 0x0A00) || decide (0x0C80 ≤ a ∧ a < 0x8000)

/-- What an unlisted address reads as: the contents INIT leaves where no profile is active, every spur is empty and
nothing was kept (R22, R155): 00h, and in the place mirror the records of R21. The 01h of a spur's status byte is
log 13. -/
def Memory.blank (a : Nat) : Byte :=
  if 0x3000 ≤ a ∧ a < 0x3548 then
    let p := (a - 0x3000) / 8
    match (a - 0x3000) % 8 with
    | 0 => if p < 160 then 0x00 else if p < 164 then 0xC1 else 0x01
    | 5 => 0xFE
    | 6 => 0xFE
    | 7 => 0xFE
    | _ => 0x00
  else 0x00

/-- Read one byte. -/
def Memory.read : List Host.Cell → Nat → Byte
  | [], a => Memory.blank a
  | (k, v) :: m, a => if k = a then v else Memory.read m a

/-- The cells of a block of bytes from address `a`: those at home addresses that differ from what an unlisted address
reads as. -/
def Memory.cells : Nat → List Byte → List Host.Cell
  | _, [] => []
  | a, b :: bs =>
    if Memory.home a ∧ b ≠ Memory.blank a then (a, b) :: Memory.cells (a + 1) bs else Memory.cells (a + 1) bs

/-- Write a block of bytes from address `a`. -/
def Memory.write (m : List Host.Cell) (a : Nat) (bs : List Byte) : List Host.Cell :=
  m.filter (fun c => decide (c.1 < a)) ++ Memory.cells a bs ++ m.filter (fun c => decide (a + bs.length ≤ c.1))

/-- The canonical form: addresses strictly rising, each of them a home address, no cell equal to its blank byte. -/
def Memory.wf (m : List Host.Cell) : Bool :=
  decide (m.Pairwise (fun c d => c.1 < d.1)) && m.all (fun c => Memory.home c.1 && c.2 != Memory.blank c.1)

/-- Least significant byte first (4.1). -/
def bytes16 (h : Half) : List Byte := [h.extractLsb' 0 8, h.extractLsb' 8 8]

/-- Least significant byte first (4.1). -/
def bytes32 (w : Word) : List Byte :=
  [w.extractLsb' 0 8, w.extractLsb' 8 8, w.extractLsb' 16 8, w.extractLsb' 24 8]

/-- A 16-bit field from its two bytes, low byte first (4.1). -/
def half (lo hi : Byte) : Half := hi ++ lo

/-- A 32-bit field from its four bytes, low byte first (4.1). -/
def word (b0 b1 b2 b3 : Byte) : Word := ((b3 ++ b2) ++ b1) ++ b0

/-- The byte of a number below 256. -/
def byteOf (n : Nat) : Byte := BitVec.ofNat 8 n

/-- One bit of the check word's computation (R154): polynomial 1021h, most significant bit first. -/
def crcBit (c : Half) : Half := if c.getLsbD 15 then (c <<< 1) ^^^ 0x1021 else c <<< 1

/-- One byte of the check word's computation (R154). -/
def crcByte (c : Half) (b : Byte) : Half :=
  crcBit (crcBit (crcBit (crcBit (crcBit (crcBit (crcBit (crcBit (c ^^^ (b ++ (0 : Byte))))))))))

/-- The check word's computation over the bytes left, from the value so far. (The value is matched on, so that an
evaluation works it out at each byte.) -/
def crcFold : Nat → List Byte → Nat
  | c, [] => c
  | c, b :: bs =>
    match (crcByte (BitVec.ofNat 16 c) b).toNat with
    | 0 => crcFold 0 bs
    | n + 1 => crcFold (n + 1) bs

/-- The CRC-16 of R154: initial value FFFFh, no final inversion. -/
def crc16 (bs : List Byte) : Half := BitVec.ofNat 16 (crcFold 0xFFFF bs)

end Sys2Proof.Machine
end

