-- ==== Sys2Proof/Machine/State.lean ====
section
/-! DEFINITION. The state of the HC40 as plain data, one structure for each block of spec 3.1, and the machine
right after power-on. INVENTORY.md lists every field with the rule that names it. -/

namespace Sys2Proof.Machine

/-! ### Vocabulary of the state -/

/-- A timer: `none` stopped, `some r` running with `r` milliseconds left; `some 0` has run out and its expiry is due. -/
abbrev Timer := Option Nat

/-- One value for each side of the aisle. -/
structure PerSide (α : Type) where
  a : α
  b : α
deriving DecidableEq, Repr

/-- The operating modes (10.4). -/
inductive Mode where
  | init | config | run | hold
deriving DecidableEq, Repr

/-- Why a place is frozen (R12). -/
inductive Freeze where
  | sense | loadEmpty | unloadBlocked
deriving DecidableEq, Repr

/-- A lane lock (R8); a LIFT lock is the lock of the lift of the lane's side. -/
inductive Lock where
  | none | shuttle | lift
deriving DecidableEq, Repr

/-- An entry of a place's contents (R2): a card number or the FOREIGN marker. -/
inductive Entry where
  | card (n : Nat)
  | foreign
deriving DecidableEq, Repr

/-- A place record (R1–R11). Decks and the divert use the contents alone. -/
structure Place where
  /-- contents, head first (R2) -/
  entries : List Entry := []
  /-- reservations (R4) -/
  res : Nat := 0
  lock : Lock := .none
  fitted : Bool := false
  retired : Bool := false
  /-- the retired flag is set "as retiring" (R20) -/
  retiring : Bool := false
  frozen : Option Freeze := none
  barred : Bool := false
  /-- the awaiting rebuild mark (R5, R15) -/
  awaiting : Bool := false
  /-- sensed count (R10) -/
  sensed : Option Nat := none
  /-- mismatch timer (R11) -/
  mismatch : Timer := none
deriving DecidableEq, Repr

/-- The kind of an order (R24). -/
inductive OrderKind where
  | retrieve | store
deriving DecidableEq, Repr

/-- Side preference of a card (R24). -/
inductive Pref where
  | a | b | any
deriving DecidableEq, Repr

/-- The phases of 2.3 and 2.4. -/
inductive Phase where
  | pending | held | granted | awaited | atDivert | inSpur | onCar | inLane | taking | returning | released
deriving DecidableEq, Repr

/-- Sequence state (R25). -/
inductive SeqState where
  | absent | live | givenUp | consumed
deriving DecidableEq, Repr

/-- Reason codes of card byte 32 (9.4). -/
inductive ReasonCode where
  | none | badKind | badField | wrongMode | dupTote | dupSeq | staleSeq | noTarget | inTransit | voidFull | zoneBusy
  | levelClosed | placeBusy | storeBusy | storeFull | badProfile | flushed | blocked | lost | storeFault
deriving DecidableEq, Repr

/-- An order context (R24–R27). -/
structure Context where
  kind : OrderKind
  tote : Word
  level : Nat
  pref : Pref
  seq : Option Half
  phase : Phase
  /-- side in use -/
  side : Option Side
  /-- current place -/
  place : Option Nat
  demoted : Bool
  cancelRequested : Bool
  seqState : SeqState
  /-- pending failure with its detail -/
  failure : Option (ReasonCode × Byte)
  trip : Byte
  accepted : Word
  bound : Word
  loaded : Word
  finished : Word
  sideChanged : Bool
  demotedFlag : Bool
  overrun : Bool
  idMismatch : Bool
  returned : Bool
  delivered : Bool
deriving DecidableEq, Repr

/-- The merge state (R61). -/
inductive Merge where
  | idle
  | releasing (side : Side) (entry : Entry) (overdue : Timer)
deriving DecidableEq, Repr

/-- The release unit (R48). -/
structure Release where
  n : Half
  voids : List Half
  bound : PerSide (List Nat)
  stall : Timer
  stallReported : Bool
  merge : Merge
  exitRead : Option Read
  lastSide : Side
deriving DecidableEq, Repr

/-- An entry of the held-ask list (R84). -/
inductive HeldAsk where
  | drop (level : Nat) (card : Nat) (tote : Word)
  | take (level : Nat) (side : Side)
deriving DecidableEq, Repr

/-- The kind of a grant (R72). -/
inductive GrantKind where
  | drop | take
deriving DecidableEq, Repr

/-- A grant record (R72); its level is its index, its lane follows from level, kind and side. -/
structure Grant where
  kind : GrantKind
  side : Side
  entry : Entry
  tote : Word
  timer : Timer
deriving DecidableEq, Repr

/-- The shuttle handover unit (R72). -/
structure Handover where
  held : List HeldAsk
  grants : Vector (Option Grant) 40
deriving DecidableEq, Repr

/-- The two decks of a lift. -/
inductive Deck where
  | front | rear
deriving DecidableEq, Repr

/-- The action of a stop (R90). -/
inductive Action where
  | load | unload
deriving DecidableEq, Repr

/-- A load claim (R102): a card, or a FOREIGN entry by its position in its place. -/
inductive Claim where
  | card (n : Nat)
  | foreign (position : Nat)
deriving DecidableEq, Repr

/-- The outcome of a stop (6.3.1). -/
inductive StopOutcome where
  | stillOpen
  | done (result : StopResult)
  | passed
  | settled
deriving DecidableEq, Repr

/-- A stop of a plan or trip (R90, 6.3.1); its index is its position in the list, from 1. -/
structure Stop where
  level : Nat
  place : Nat
  action : Action
  deck : Deck
  /-- a load's claim; `none` once it has ended -/
  claim : Option Claim
  /-- the entry a load claims or an unload expects to carry -/
  expected : Entry
  /-- an unload's reservation still stands -/
  reserved : Bool
  /-- the order guard of R104 -/
  guarded : Bool
  outcome : StopOutcome
deriving DecidableEq, Repr

/-- The kind of a plan (R90). -/
inductive PlanKind where
  | carryBack | turnBack | normal
deriving DecidableEq, Repr

/-- A plan (R90): kind, start level, stops, estimate and deadline in ticks. -/
structure Plan where
  kind : PlanKind
  start : Nat
  stops : List Stop
  estimate : Nat
  deadline : Nat
deriving DecidableEq, Repr

/-- The phase of the current stop (6.3.1). -/
inductive StopPhase where
  | moving | waitingMode | waitingLane | transferring
deriving DecidableEq, Repr

/-- A trip record (6.3.1); the current stop is the first OPEN one. `left` is the deadline's time in ms. -/
structure Trip where
  number : Byte
  plan : Plan
  phase : StopPhase
  left : Nat
  expired : Bool
  /-- the index of a stop that reported JAM -/
  jammed : Option Nat
deriving DecidableEq, Repr

/-- A command to a lift (6.2.1). -/
inductive LiftCmd where
  | trip (number : Byte) (stops : List (Nat × Nat))
  | proceed (trip : Byte) (stop : Nat)
  | pass (trip : Byte) (stop : Nat)
  | park
  | wake
  | stateAsk
  | clear (trip : Byte)
deriving DecidableEq, Repr

/-- Lift states (R107). -/
inductive LiftState where
  | offline | syncing | idle | parking | parked | waking | onTrip | faulted
deriving DecidableEq, Repr

/-- A lift unit (R107, R109–R111, R125). -/
structure Lift where
  state : LiftState := .offline
  counter : Byte := 0
  trip : Option Trip := none
  pending : Option Plan := none
  queue : List LiftCmd := []
  /-- how often the first command has been sent (R110) -/
  sends : Nat := 0
  /-- the 250 ms of R110 -/
  echo : Timer := none
  number : BitVec 4 := 0
  stray : Nat := 0
  park : Timer := none
  wake : Timer := none
  silence : Timer := none
  /-- no command before a STATUS has been taken (R109) -/
  needStatus : Bool := false
  /-- the 300 ms of the repeated STATE-ASK (R125) -/
  ask : Timer := none
  /-- in SYNCING: CLEAR has been queued and READY is awaited (R128) -/
  awaitReady : Bool := false
deriving DecidableEq, Repr

/-- Reasons of a DROP-REFUSE (4.1). -/
inductive RefuseReason where
  | noCard | duplicate | cancelled | levelClosed
deriving DecidableEq, Repr

/-- A command to a level node (8.5). -/
inductive ChainCmd where
  | face (toward : Port)
  | resyncAsk
  | dropGrant (side : Side) (tote : Word)
  | dropRefuse (reason : RefuseReason)
  | takeGrant (side : Side) (tote : Word)
  | takeWait (side : Side)
deriving DecidableEq, Repr

/-- Node states (R139). -/
inductive NodeState where
  | off | seeking | alive | dead | cut
deriving DecidableEq, Repr

/-- A node record (R139); `sends` counts the sends of its first command (R146). -/
structure Node where
  state : NodeState := .off
  port : Option Port := none
  queue : List ChainCmd := []
  sends : Nat := 0
  frame : BitVec 4 := 0
  unanswered : Nat := 0
  expected : Option (BitVec 4) := none
deriving DecidableEq, Repr

/-- The frame an exchange sent (R142, R149). -/
inductive Sending where
  | poll
  | hello
  | command (cmd : ChainCmd) (number : BitVec 4)
deriving DecidableEq, Repr

/-- An exchange in progress (R142, R143), with the rest of its 2 ms. -/
structure Exchange where
  level : Nat
  what : Sending
  left : Nat
deriving DecidableEq, Repr

/-- What a port does next at the level it is visiting (R142). -/
inductive VisitNext where
  | advance | resend | poll
deriving DecidableEq, Repr

/-- A port record (R139, R142, R149). -/
structure ChainPort where
  checkErrors : Nat := 0
  exchange : Option Exchange := none
  /-- the level visited last, 0 before the first visit -/
  level : Nat := 0
  next : VisitNext := .advance
  /-- levels still to be probed in this second's round -/
  probes : List Nat := []
  probeTimer : Timer := none
deriving DecidableEq, Repr

/-- The level chain unit (R139). -/
structure Chain where
  nodes : Vector Node 40
  bottom : ChainPort
  top : ChainPort
deriving DecidableEq, Repr

/-- The divert's motion (R129). -/
inductive Motion where
  | idle | toSpur (side : Side) | toReject
deriving DecidableEq, Repr

/-- The entry unit (R129); the divert's contents are place 168. -/
structure EntryUnit where
  motion : Motion
  read : Option Read
  rejectReported : Bool
deriving DecidableEq, Repr

/-- What a store operation does (10.3). -/
inductive StoreWork where
  | commit (copy : List Byte)
  | erase
  | retire (place : Nat) (slot : Nat)
deriving DecidableEq, Repr

/-- A store operation in flight (10.3), with its card and the card's time of examination (R161). -/
structure StoreOp where
  work : StoreWork
  card : Nat
  examined : Word
deriving DecidableEq, Repr

/-- The profile store (10.1–10.3): the two nonvolatile areas, the active profile and the operation in flight. -/
structure Store where
  profile : List Byte
  slots : Vector Slot 32
  /-- the slots whose RETIRE failed: each stays spoiled, and used, until ERASE, whatever it reads (R175, log 55) -/
  failed : Vector Bool 32
  active : Option (List Byte)
  op : Option StoreOp
  /-- INIT ended without a profile and NO_PROFILE has not been raised yet (R171) -/
  noProfileDue : Bool
deriving DecidableEq, Repr

/-- Condition codes (9.7). -/
inductive Cond where
  | stall | overdue | idMismatch | foreignOut | unreadable | noCard | levelClosed | rejectFull | overrun | fault
  | lostLock | wakeFail | reconciled | checkErrors | nodeDead | nodeCut | storeFault | noProfile | frozen
  | grantOverdue | overflow | reportGap | noCardAsk | foreignStored
deriving DecidableEq, Repr

/-- An entry of the condition table (9.7); a clear entry has no code. -/
structure CondEntry where
  code : Option Cond := none
  changed : Bool := false
  count : Nat := 0
  detail1 : Byte := 0
  detail2 : Byte := 0
  first : Word := 0
  last : Word := 0
deriving DecidableEq, Repr

/-- The memory port and card examiner (chapter 9). -/
structure Board where
  /-- exchange memory bytes with no other home, in canonical form (Machine/Memory.lean) -/
  mem : List Host.Cell
  postQueue : List Nat
  finishList : List Nat
  changeCount : Half
  latchMode : Bool
  latchMisuse : Bool
  latchRefused : Bool
  enable : BitVec 5
  clock : Word
  aisle : BitVec 6
deriving DecidableEq, Repr

/-- The levels of the input lines. -/
structure Lines where
  eStop : Bool
  entryArrive : Bool
  rejectFull : Bool
  exitReady : Bool
  spurCounts : Vector Nat 4
deriving DecidableEq, Repr

/-- The serial links of the module (spec 6). -/
inductive Link where
  | chain (port : Port)
  | lift (side : Side)
deriving DecidableEq, Repr

/-- A frame sent by the HC40 (R154). -/
structure Frame where
  link : Link
  address : Byte
  kind : Byte
  number : BitVec 4
  payload : List Byte
deriving DecidableEq, Repr

/-- The events that test a WAITING stop again (R116). -/
inductive Prompt where
  /-- the mode became RUN -/
  | running
  /-- the lock of lane `p` was released, or the status of place `p` changed -/
  | place (p : Nat)
  /-- the entry at the head of place `p` changed: for a load -/
  | head (p : Nat)
deriving DecidableEq, Repr

/-- The neighbours a change is handed to (R7, R51, R57, R62, R91, R116, R123, R133, R135, R176). -/
inductive Retry where
  | walk
  | merge
  | plan (lift : Side)
  | stop (lift : Side) (prompt : Prompt)
  | send (lift : Side)
  | divert
  | reject
deriving DecidableEq, Repr

/-- The state of the machine. -/
structure State where
  /-- the commands waiting, first in first out -/
  pending : List Instr
  /-- neighbours told of a change within the event being taken; empty between events (log 5) -/
  wake : List Retry
  /-- the counter the free values are applied to (log 5) -/
  freeCount : Nat
  /-- frames sent in the latest event (log 15) -/
  sent : List Frame
  mode : Mode
  lines : Lines
  board : Board
  conditions : Vector CondEntry 48
  contexts : Vector (Option Context) 128
  places : Vector Place 169
  release : Release
  handover : Handover
  lifts : PerSide Lift
  chain : Chain
  entry : EntryUnit
  store : Store
deriving DecidableEq, Repr

/-- Why the machine stops: never. No event of the spec stops this block, so the type has no constructor. -/
inductive Fault where
deriving DecidableEq, Repr

/-- Why the model gives a command no meaning. -/
inductive Refusal where
  /-- raised by an arm of `exec` that has no meaning yet; safe: nothing can be proved of the command's effect -/
  | notModelled (mnemonic : String)
deriving DecidableEq, Repr

/-- A lane after INIT without a profile: empty, unfitted, awaiting rebuild (R1, R15). -/
def Place.initLane : Place := { awaiting := true }

/-- A spur whose count input reads 0 (R10, R15). -/
def Place.initSpur : Place := { sensed := some 0 }

/-- An erased retirement slot (10.2). -/
def slotErased : Slot := ⟨0xFF, 0xFF, 0xFF, 0xFF⟩

/-- The machine right after power-on: mode INIT with INIT's work done (R178, log 8); the inputs deasserted and the
nonvolatile areas erased (log 6, log 7). -/
def State.reset : State where
  pending := []
  wake := []
  freeCount := 0
  sent := []
  mode := .init
  lines :=
    { eStop := false, entryArrive := false, rejectFull := false, exitReady := false,
      spurCounts := Vector.replicate 4 0 }
  board :=
    { mem := [], postQueue := [], finishList := [], changeCount := 0, latchMode := false, latchMisuse := false,
      latchRefused := false, enable := 0, clock := 0, aisle := 0 }
  conditions := Vector.replicate 48 {}
  contexts := Vector.replicate 128 none
  places := Vector.replicate 160 Place.initLane ++ Vector.replicate 4 Place.initSpur ++ Vector.replicate 5 ({} : Place)
  release :=
    { n := 0, voids := [], bound := ⟨[], []⟩, stall := none, stallReported := false, merge := .idle,
      exitRead := none, lastSide := .b }
  handover := { held := [], grants := Vector.replicate 40 none }
  lifts := ⟨{}, {}⟩
  chain := { nodes := Vector.replicate 40 {}, bottom := {}, top := {} }
  entry := { motion := .idle, read := none, rejectReported := false }
  store :=
    { profile := List.replicate 138 0xFF, slots := Vector.replicate 32 slotErased, failed := Vector.replicate 32 false, active := none, op := none,
      noProfileDue := false }

end Sys2Proof.Machine
end

