-- ==== Sys2Proof/Machine/Profile.lean ====
section
/-! DEFINITION. The profile record (10.1), its check (R170), the retirement slots (10.2) and what the other blocks read
from the active profile. -/

namespace Sys2Proof.Machine

/-- A byte of a record. -/
def recByte (r : List Byte) (i : Nat) : Nat := (r.getD i 0).toNat

/-- A two-byte field of a record, least significant byte first. -/
def recHalf (r : List Byte) (i : Nat) : Nat := recByte r i + 256 * recByte r (i + 1)

/-- TT[d] of a record; TT[0] is 0 (R90). -/
def recTravel (r : List Byte) : Nat → Nat
  | 0 => 0
  | d + 1 => recHalf r (0x10 + 2 * d)

/-- The fit map byte of a level (10.1). -/
def recFit (r : List Byte) (level : Nat) : Nat := recByte r (0x60 + (level - 1))

/-- The items of R170 in their order, each with whether it holds. -/
def recordItems (r : List Byte) : List (Nat × Bool) :=
  [ (1, half (r.getD 0x88 0) (r.getD 0x89 0) == crc16 (r.take 0x88)),
    (2, recHalf r 0x00 == 0x0A01),
    (3, decide (2 ≤ recByte r 0x02 ∧ recByte r 0x02 ≤ 40)),
    (4, decide (recByte r 0x03 ≤ recByte r 0x02)),
    (5, decide (1 ≤ recByte r 0x04)),
    (6, decide (1 ≤ recByte r 0x05)),
    (7, decide (recByte r 0x08 ≤ 64)),
    (8, decide (1 ≤ recByte r 0x09 ∧ recByte r 0x09 ≤ 64)),
    (9, decide (1 ≤ recByte r 0x0C)),
    (10, decide (1 ≤ recByte r 0x0D)),
    (11, decide (1 ≤ recByte r 0x0E)) ] ++
  (List.range (min 40 (recByte r 0x02))).map (fun d =>
    (20 + (d + 1), decide (1 ≤ recTravel r (d + 1) ∧ (d = 0 ∨ recTravel r d ≤ recTravel r (d + 1))))) ++
  (List.range (min 40 (recByte r 0x02))).map (fun k => (100 + (k + 1), decide (recFit r (k + 1) < 16)))

/-- R170: the number of the first item that fails; `none` for a valid record. -/
def checkRecord (r : List Byte) : Option Nat := ((recordItems r).find? (fun i => !i.2)).map (·.1)

/-- A record of every erased byte (10.1, R170). -/
def erasedRecord : List Byte := List.replicate 138 0xFF

/-- The 138 bytes of a profile area as read (10.1). -/
def areaOf (bs : List Byte) : List Byte := (bs ++ erasedRecord).take 138

/-- A slot is erased: FFh in all four bytes (10.2). -/
def slotIsErased (x : Slot) : Bool := x == slotErased

/-- A valid entry (10.2): level 1 to 40, lane 0 to 3, 00h, and the check byte. -/
def slotIsValid (x : Slot) : Bool :=
  decide (1 ≤ x.b0.toNat ∧ x.b0.toNat ≤ 40) && decide (x.b1.toNat ≤ 3) && x.b2 == 0 && x.b3 == 0xFF - (x.b0 + x.b1)

/-- A spoiled slot is neither erased nor valid (10.2). -/
def slotIsSpoiled (x : Slot) : Bool := !slotIsErased x && !slotIsValid x

/-- Bytes of a spoiled slot. -/
def slotSpoiled : Slot := ⟨0x00, 0x00, 0x00, 0x00⟩

/-- The slots as 10.2 and R175 judge them: one whose RETIRE failed is spoiled, whatever it reads, and any other is what it
reads. -/
def Store.judged (st : Store) : Vector Slot 32 := Vector.zipWith (fun x f => if f then slotSpoiled else x) st.slots st.failed

/-- The slot that retires lane `place` (10.2, R175). -/
def slotRetiring (place : Nat) : Slot :=
  ⟨byteOf (place / 4 + 1), byteOf (place % 4), 0, 0xFF - (byteOf (place / 4 + 1) + byteOf (place % 4))⟩

/-- The lane a valid slot names, by place number (10.2). -/
def slotLane (x : Slot) : Nat := (x.b0.toNat - 1) * 4 + x.b1.toNat

/-- The retirement list retires lane `place` under LEVELS (R171): a valid slot whose level is at most LEVELS names it. -/
def slotsRetire (slots : Vector Slot 32) (levels place : Nat) : Bool :=
  slots.toList.any (fun x => slotIsValid x && decide (x.b0.toNat ≤ levels) && slotLane x == place)

/-- The fit map of a profile fits lane `place` (R1): its level is at most LEVELS and its bit is set. -/
def recordFits (r : List Byte) (place : Nat) : Bool :=
  decide (place / 4 + 1 ≤ recByte r 0x02) && (recFit r (place / 4 + 1)).testBit (place % 4)

/-! ### What the other blocks read from the active profile -/

/-- A byte field of the active profile; 0 while there is none. -/
def State.profileByte (s : State) (i : Nat) : Nat := (s.store.active.map (recByte · i)).getD 0

/-- A two-byte field of the active profile; 0 while there is none. -/
def State.profileHalf (s : State) (i : Nat) : Nat := (s.store.active.map (recHalf · i)).getD 0

def State.hasProfile (s : State) : Bool := s.store.active.isSome
def State.levels (s : State) : Nat := s.profileByte 0x02
def State.split (s : State) : Nat := s.profileByte 0x03
def State.tLoad (s : State) : Nat := s.profileByte 0x04
def State.tUnload (s : State) : Nat := s.profileByte 0x05
def State.detour (s : State) : Nat := s.profileHalf 0x06
def State.marginM (s : State) : Nat := s.profileByte 0x08
/-- W; 0 stands for "none" while there is no active profile (R48): no distance is less than it. -/
def State.window (s : State) : Nat := s.profileByte 0x09
def State.marginF (s : State) : Nat := s.profileHalf 0x0A
def State.stallLimit (s : State) : Nat := s.profileByte 0x0C
def State.senseGrace (s : State) : Nat := s.profileByte 0x0D
def State.grantLimit (s : State) : Nat := s.profileByte 0x0E
def State.parkIdle (s : State) : Nat := s.profileByte 0x0F
/-- TT[d] of the active profile. A distance above LEVELS, which only a STATE that reports such a level can ask for, takes the
record's bytes as they stand (log 44, DESIGN CHOICE). -/
def State.travel (s : State) (d : Nat) : Nat := (s.store.active.map (recTravel · d)).getD 0

/-- Lane `place` is fitted under the active profile (R1). -/
def State.fits (s : State) (place : Nat) : Bool := (s.store.active.map (recordFits · place)).getD false

end Sys2Proof.Machine
end

