-- ==== Sys2Proof/Machine/Operands.lean ====
section
/-! DEFINITION. What names what: sides, place numbers (1.1.1), the records a number names, the fields of a card (9.3),
and the place a card's level and selector name (1.5). -/

namespace Sys2Proof.Machine

/-! ### Sides -/

def PerSide.get {α : Type} (p : PerSide α) : Side → α
  | .a => p.a
  | .b => p.b

def PerSide.set {α : Type} (p : PerSide α) (x : Side) (v : α) : PerSide α :=
  match x with
  | .a => { p with a := v }
  | .b => { p with b := v }

def otherSide : Side → Side
  | .a => .b
  | .b => .a

def otherPort : Port → Port
  | .bottom => .top
  | .top => .bottom

/-- 01h A, 02h B (card byte 34, frames, OVERDUE). -/
def sideCode : Side → Byte
  | .a => 0x01
  | .b => 0x02

def otherDeck : Deck → Deck
  | .front => .rear
  | .rear => .front

/-! ### Place numbers (1.1.1) -/

/-- A lane's place number: (level − 1) × 4 + k. -/
def laneOf (level : Nat) (side : Side) (outbound : Bool) : Nat :=
  (level - 1) * 4 + (match side with | .a => 0 | .b => 2) + (if outbound then 0 else 1)

def outLane (level : Nat) (side : Side) : Nat := laneOf level side true
def inLaneOf (level : Nat) (side : Side) : Nat := laneOf level side false

def entrySpur : Side → Nat
  | .a => 160
  | .b => 161

def exitSpur : Side → Nat
  | .a => 162
  | .b => 163

def deckPlace : Side → Deck → Nat
  | .a, .front => 164
  | .a, .rear => 165
  | .b, .front => 166
  | .b, .rear => 167

/-- The divert is place 168. -/
def divert : Nat := 168

def spurPlace : Spur → Nat
  | .entryA => 160
  | .entryB => 161
  | .exitA => 162
  | .exitB => 163

def isLane (p : Nat) : Bool := decide (p < 160)
def isSpur (p : Nat) : Bool := decide (160 ≤ p ∧ p < 164)
def isEntrySpur (p : Nat) : Bool := p == 160 || p == 161
def isExitSpur (p : Nat) : Bool := p == 162 || p == 163
def isInbound (p : Nat) : Bool := isLane p && p % 2 == 1
def isOutbound (p : Nat) : Bool := isLane p && p % 2 == 0
def laneLevel (p : Nat) : Nat := p / 4 + 1

/-- The side of a lane or spur. -/
def placeSide (p : Nat) : Side :=
  if p < 160 then (if p % 4 < 2 then .a else .b) else (if p % 2 = 0 then .a else .b)

/-- Capacities (4.3, R4). -/
def capacity (p : Nat) : Nat := if p < 160 then 2 else if p < 164 then 3 else 1

/-! ### Records -/

def State.place (s : State) (p : Nat) : Place := (s.places[p]?).getD {}
def State.entries (s : State) (p : Nat) : List Entry := (s.place p).entries

/-- The head of a place (R2). -/
def State.head (s : State) (p : Nat) : Option Entry := (s.entries p).head?

def State.node (s : State) : Nat → Node
  | 0 => {}
  | k + 1 => (s.chain.nodes[k]?).getD {}

def State.alive (s : State) (level : Nat) : Bool := (s.node level).state == .alive

def State.ctx (s : State) (n : Nat) : Option Context := (s.contexts[n]?).join

def State.grant (s : State) : Nat → Option Grant
  | 0 => none
  | k + 1 => (s.handover.grants[k]?).join

def State.lift (s : State) (x : Side) : Lift := s.lifts.get x

def State.chainPort (s : State) : Port → ChainPort
  | .bottom => s.chain.bottom
  | .top => s.chain.top

/-- The contents of a deck: at most one entry (R2). -/
def State.deck (s : State) (x : Side) (d : Deck) : Option Entry := s.head (deckPlace x d)

/-- The CLOCK value an event is stamped with: 1 instead of 0 (R161). -/
def State.stamp (s : State) : Word := if s.board.clock = 0 then 1 else s.board.clock

/-- The open cards that satisfy a test, in ascending card number (R23). -/
def State.openWhere (s : State) (p : Context → Bool) : List Nat :=
  (List.range 128).filter (fun n => ((s.ctx n).map p).getD false)

/-- The lowest open card that satisfies a test. -/
def State.findOpen (s : State) (p : Context → Bool) : Option Nat :=
  (List.range 128).find? (fun n => ((s.ctx n).map p).getD false)

/-! ### Card fields (9.3) -/

/-- The address of a card's byte. -/
def cardAddr (n i : Nat) : Nat := 0x1000 + 64 * n + i

def State.cardByte (s : State) (n i : Nat) : Byte := Memory.read s.board.mem (cardAddr n i)

def State.cardKind (s : State) (n : Nat) : Byte := s.cardByte n 1
def State.cardFlags (s : State) (n : Nat) : Byte := s.cardByte n 2
def State.cardPref (s : State) (n : Nat) : Byte := s.cardByte n 3
def State.cardTote (s : State) (n : Nat) : Word :=
  word (s.cardByte n 8) (s.cardByte n 9) (s.cardByte n 10) (s.cardByte n 11)
def State.cardLevel (s : State) (n : Nat) : Nat := (s.cardByte n 12).toNat
def State.cardSelector (s : State) (n : Nat) : Nat := (s.cardByte n 13).toNat
def State.cardSeq (s : State) (n : Nat) : Half := half (s.cardByte n 14) (s.cardByte n 15)
def State.cardTarget (s : State) (n : Nat) : Nat := (s.cardByte n 16).toNat

/-- A side preference byte (R24). -/
def prefOf (b : Byte) : Option Pref :=
  match b.toNat with
  | 1 => some .a
  | 2 => some .b
  | 3 => some .any
  | _ => none

/-- The place a level field and a selector name (1.5); `none` where they form no row of the table. Selectors 00h–03h
name the level's lanes, 04h–07h the spurs with level 0. -/
def selectPlace (levels level selector : Nat) : Option Nat :=
  if selector < 4 then
    if 1 ≤ level ∧ level ≤ levels then some ((level - 1) * 4 + selector) else none
  else if selector < 8 then
    if level = 0 then some (160 + (selector - 4)) else none
  else none

/-! ### The release order (4.5, R49) -/

/-- The serial distance of a number from N. -/
def State.distance (s : State) (x : Half) : Nat := (x - s.release.n).toNat

def State.ahead (s : State) (x : Half) : Bool := decide (s.distance x < 32768)

/-- The live sequence number of a card (R25, R52): live and not demoted. -/
def Context.liveSeq (c : Context) : Option Half :=
  if c.seqState = .live ∧ c.demoted = false then c.seq else none

/-- A card holds `x` as its live number. -/
def Context.holds (c : Context) (x : Half) : Bool := c.seqState == .live && c.seq == some x

/-- Card `n` holds a live number and is not demoted: it is sequenced (R24, R52). -/
def State.sequenced (s : State) (n : Nat) : Bool := (((s.ctx n).bind (·.liveSeq)).isSome)

/-- An entry is a sequenced, not demoted card (R3). -/
def State.seqEntry (s : State) : Entry → Bool
  | .card n => s.sequenced n
  | .foreign => false

/-- An open card holds a live number (R69). -/
def State.anyLive (s : State) : Bool := (s.findOpen (fun c => c.seqState == .live)).isSome

/-- The entries ahead of card `n` in bound list X (R92, R104). -/
def State.aheadInBound (s : State) (x : Side) (n : Nat) : List Nat :=
  (s.release.bound.get x).takeWhile (fun m => m != n)

/-- A card's phase. -/
def State.inPhase (s : State) (n : Nat) (p : Phase) : Bool := ((s.ctx n).map (fun c => c.phase == p)).getD false

end Sys2Proof.Machine
end

