-- ==== Sys2Proof/Machine/Flags.lean ====
section
/-! DEFINITION. Codes and flag computations: card states and reason codes (9.3, 9.4), condition codes (9.7), result flags
(9.3), admissions (R6), the mirror record (1.6, R21), CAUSE and the interrupt output (R165, R166). -/

namespace Sys2Proof.Machine

/-! ### Codes -/

/-- Card states (R157). -/
def cardFree : Byte := 0x00
def cardPosted : Byte := 0x01
def cardTaken : Byte := 0x02
def cardDone : Byte := 0x10
def cardRefused : Byte := 0x11
def cardFailed : Byte := 0x12
def cardCancelled : Byte := 0x13

/-- DONE, REFUSED, FAILED and CANCELLED are the final states (R157). -/
def cardFinal (b : Byte) : Bool := b == cardDone || b == cardRefused || b == cardFailed || b == cardCancelled

/-- Reason codes (9.4). -/
def reasonByte : ReasonCode → Byte
  | .none => 0x00
  | .badKind => 0x01
  | .badField => 0x02
  | .wrongMode => 0x03
  | .dupTote => 0x04
  | .dupSeq => 0x05
  | .staleSeq => 0x06
  | .noTarget => 0x07
  | .inTransit => 0x08
  | .voidFull => 0x09
  | .zoneBusy => 0x0A
  | .levelClosed => 0x0B
  | .placeBusy => 0x0C
  | .storeBusy => 0x0D
  | .storeFull => 0x0E
  | .badProfile => 0x0F
  | .flushed => 0x10
  | .blocked => 0x11
  | .lost => 0x12
  | .storeFault => 0x13

/-- Condition codes (9.7). -/
def condByte : Cond → Byte
  | .stall => 0x01
  | .overdue => 0x02
  | .idMismatch => 0x03
  | .foreignOut => 0x04
  | .unreadable => 0x05
  | .noCard => 0x06
  | .levelClosed => 0x07
  | .rejectFull => 0x08
  | .overrun => 0x09
  | .fault => 0x0A
  | .lostLock => 0x0B
  | .wakeFail => 0x0C
  | .reconciled => 0x0D
  | .checkErrors => 0x0E
  | .nodeDead => 0x0F
  | .nodeCut => 0x10
  | .storeFault => 0x11
  | .noProfile => 0x12
  | .frozen => 0x13
  | .grantOverdue => 0x14
  | .overflow => 0x15
  | .reportGap => 0x16
  | .noCardAsk => 0x17
  | .foreignStored => 0x18

/-- Condition sources (9.7). -/
def srcRelease : Nat := 0
def srcMerge : Nat := 1
def srcEntry : Nat := 2
def srcLift : Side → Nat
  | .a => 3
  | .b => 4
def srcPort : Port → Nat
  | .bottom => 5
  | .top => 6
def srcStore : Nat := 7
def srcLevel (level : Nat) : Nat := 7 + level

/-- The source at which a lane or spur reports FROZEN (R12). -/
def srcPlace (p : Nat) : Nat := if isLane p then srcLevel (laneLevel p) else if isEntrySpur p then srcEntry else srcMerge

/-- The mode's value in MODE and the mode echo (R156, R164). -/
def modeByte : Mode → Byte
  | .init => 0x00
  | .config => 0x01
  | .run => 0x02
  | .hold => 0x03

/-- Freeze reasons (R12). -/
def freezeByte : Freeze → Byte
  | .sense => 0x01
  | .loadEmpty => 0x02
  | .unloadBlocked => 0x03

/-- A card number, or FFh for FOREIGN (R67, R70, 1.6). -/
def entryByte : Entry → Byte
  | .card n => byteOf n
  | .foreign => 0xFF

/-- 01h for a drop, 02h for a take (R86). -/
def grantByte : GrantKind → Byte
  | .drop => 0x01
  | .take => 0x02

/-- A bit of a flags byte. -/
def bit (b : Bool) (v : Byte) : Byte := if b then v else 0

/-- The result flags of card byte 35 (9.3). -/
def resultFlags (c : Context) : Byte :=
  bit c.sideChanged 0x01 ||| bit c.demotedFlag 0x02 ||| bit c.overrun 0x04 ||| bit c.idMismatch 0x08 |||
    bit c.returned 0x10 ||| bit c.delivered 0x20

/-! ### Admissions (R6) -/

/-- A lane or spur admits departures. -/
def State.admitsDepartures (s : State) (p : Nat) : Bool :=
  if isLane p then
    (s.place p).fitted && !(s.place p).retired && (s.place p).frozen.isNone && !(s.place p).awaiting &&
      s.alive (laneLevel p)
  else isSpur p && (s.place p).frozen.isNone

/-- A lane or spur admits arrivals. -/
def State.admitsArrivals (s : State) (p : Nat) : Bool := s.admitsDepartures p && !(s.place p).barred

/-- A lane "can ever admit" arrivals: fitted and not retired (R6). -/
def State.canEverAdmit (s : State) (p : Nat) : Bool := (s.place p).fitted && !(s.place p).retired

/-- A place has room (R4). -/
def State.hasRoom (s : State) (p : Nat) : Bool := decide ((s.entries p).length + (s.place p).res < capacity p)

/-! ### The place mirror (1.6, R21) -/

/-- Byte 0 of a mirror record. A retiring lane shows 02h and 04h (log 14); a spur shows 01h (log 13). -/
def State.statusByte (s : State) (p : Nat) : Byte :=
  if isLane p && !(s.place p).fitted then 0x00
  else if isLane p || isSpur p then
    0x01 ||| bit (s.place p).retired 0x02 ||| bit (s.place p).retiring 0x04 ||| bit (s.place p).frozen.isSome 0x08 |||
      bit (s.place p).barred 0x10 ||| bit (s.place p).awaiting 0x20 ||| bit (s.admitsDepartures p) 0x40 |||
      bit (s.admitsArrivals p) 0x80
  else 0x01

/-- Byte 2 of a mirror record. -/
def lockByte (p : Nat) : Lock → Byte
  | .none => 0x00
  | .shuttle => 0x01
  | .lift => match placeSide p with | .a => 0x02 | .b => 0x03

/-- Byte `5 + i` of a mirror record. -/
def State.entryAt (s : State) (p i : Nat) : Byte := (((s.entries p)[i]?).map entryByte).getD 0xFE

/-- The eight bytes of a place's mirror record. -/
def State.mirrorRecord (s : State) (p : Nat) : List Byte :=
  if isLane p && !(s.place p).fitted then [0x00, 0x00, 0x00, 0x00, 0x00, 0xFE, 0xFE, 0xFE]
  else
    [ s.statusByte p, ((s.place p).frozen.map freezeByte).getD 0x00, lockByte p (s.place p).lock, byteOf (s.place p).res,
      byteOf (s.entries p).length, s.entryAt p 0, s.entryAt p 1, s.entryAt p 2 ]

/-- The parts of a place record that the mirror follows: all but the sensed count and the mismatch timer (R21). -/
def Place.mirrored (q : Place) : Place := { q with sensed := none, mismatch := none }

/-- Place `p`'s contents, reservations, lock, flags, awaiting rebuild mark or admissions differ from those in `old` (R21). An
unfitted lane's flags count too, although its record does not show them. -/
def State.mirrorChanged (s old : State) (p : Nat) : Bool :=
  (s.place p).mirrored != (old.place p).mirrored || s.mirrorRecord p != old.mirrorRecord p

/-! ### CAUSE and the interrupt output (R165, R166) -/

/-- FINISHED: the finish list is not empty. -/
def State.causeFinished (s : State) : Bool := !s.board.finishList.isEmpty

/-- CONDITION: some entry has its changed flag set. -/
def State.causeCondition (s : State) : Bool := s.conditions.toList.any (·.changed)

/-- The five causes; all 0 while the mode is INIT (R179). -/
def State.cause (s : State) : BitVec 5 :=
  if s.mode = .init then 0
  else
    (bit s.causeFinished 0x01 ||| bit s.causeCondition 0x02 ||| bit s.board.latchMode 0x04 |||
      bit s.board.latchMisuse 0x08 ||| bit s.board.latchRefused 0x10).setWidth 5

/-- The interrupt output: an enabled cause is set; deasserted during INIT (R166). -/
def State.interruptLine (s : State) : Bool := s.cause &&& s.board.enable != 0

/-! ### Output lines -/

/-- GATE-A and GATE-B (R61). -/
def State.gateDriven (s : State) (x : Side) : Bool :=
  match s.release.merge with
  | .idle => false
  | .releasing y _ _ => y == x

/-- DIVERT-A and DIVERT-B (R129). -/
def State.divertDriven (s : State) (x : Side) : Bool := s.entry.motion == .toSpur x

/-- REJECT (R129). -/
def State.rejectDriven (s : State) : Bool := s.entry.motion == .toReject

end Sys2Proof.Machine
end

