-- ==== Sys2Proof/Machine/Ops.lean ====
section
/-! DEFINITION. The operations every event is built from: record updates, telling neighbours (R7), the serial outputs
(R154), conditions (R167), the place map's changes (R2–R15), the release unit's changes (R50–R57) and the end of cards
(R40, R161, R162). -/

namespace Sys2Proof.Machine

/-! ### Record updates -/

def State.setContext (s : State) (n : Nat) (c : Option Context) : State :=
  { s with contexts := s.contexts.setIfInBounds n c }

def State.updateContext (s : State) (n : Nat) (f : Context → Context) : State :=
  match s.ctx n with
  | none => s
  | some c => s.setContext n (some (f c))

def State.setGrant (s : State) (level : Nat) (g : Option Grant) : State :=
  match level with
  | 0 => s
  | k + 1 => { s with handover := { s.handover with grants := s.handover.grants.setIfInBounds k g } }

def State.setHeld (s : State) (asks : List HeldAsk) : State := { s with handover := { s.handover with held := asks } }

def State.setNode (s : State) (level : Nat) (nd : Node) : State :=
  match level with
  | 0 => s
  | k + 1 => { s with chain := { s.chain with nodes := s.chain.nodes.setIfInBounds k nd } }

def State.updateNode (s : State) (level : Nat) (f : Node → Node) : State := s.setNode level (f (s.node level))

def State.setPort (s : State) (p : Port) (v : ChainPort) : State :=
  match p with
  | .bottom => { s with chain := { s.chain with bottom := v } }
  | .top => { s with chain := { s.chain with top := v } }

def State.updatePort (s : State) (p : Port) (f : ChainPort → ChainPort) : State := s.setPort p (f (s.chainPort p))

def State.setLift (s : State) (x : Side) (l : Lift) : State := { s with lifts := s.lifts.set x l }

def State.updateLift (s : State) (x : Side) (f : Lift → Lift) : State := s.setLift x (f (s.lift x))

def State.setRelease (s : State) (r : Release) : State := { s with release := r }

def State.setBoard (s : State) (b : Board) : State := { s with board := b }

def State.setEntry (s : State) (e : EntryUnit) : State := { s with entry := e }

def State.setStore (s : State) (st : Store) : State := { s with store := st }

def State.setMem (s : State) (m : List Host.Cell) : State := s.setBoard { s.board with mem := m }

/-! ### Telling neighbours (R7, R51, R57) -/

/-- Hand a change to a neighbour: it acts before the event ends (R7). -/
def State.tell (s : State) (r : Retry) : State := if r ∈ s.wake then s else { s with wake := s.wake ++ [r] }

def State.tellAll (s : State) (rs : List Retry) : State := rs.foldl State.tell s

/-- Who is told of an arrival at a lane or spur (R7, R62, R91). The held-ask walk is not: no rule lists an arrival among its
triggers (R85; log 48, DEDUCED). -/
def toldArrival (p : Nat) : List Retry :=
  if isLane p || isSpur p then .plan (placeSide p) :: (if isExitSpur p then [.merge] else []) else []

/-- Who is told of room freed at a lane or spur (R7, R85, R91, R133). -/
def toldRoom (p : Nat) : List Retry :=
  if isLane p || isSpur p then
    [.plan (placeSide p), .walk] ++ (if isEntrySpur p || isInbound p then [.divert] else [])
  else []

/-- A load that waits at a lane or spur is told that the entry at its head has changed (R116). -/
def toldHead (p : Nat) : List Retry := if isLane p || isSpur p then [.stop (placeSide p) (.head p)] else []

/-- A stop that waits at a lane or spur is told that its status has changed (R116). -/
def toldStop (p : Nat) : List Retry := if isLane p || isSpur p then [.stop (placeSide p) (.place p)] else []

/-- Who else is told of a status change of a lane or spur (R7, R62, R85, R91, R133). -/
def toldStatus (p : Nat) : List Retry :=
  if isLane p || isSpur p then
    [.plan (placeSide p), .walk] ++ (if isEntrySpur p || isInbound p then [.divert] else []) ++
      (if isExitSpur p then [.merge] else [])
  else []

/-- Who is told of a lane lock released (R7, R9, R116). -/
def toldUnlock (p : Nat) : List Retry := [.walk, .stop (placeSide p) (.place p)]

/-! ### Frames sent (R154, 6.2.1, 8.8) -/

def State.transmit (s : State) (f : Frame) : State := { s with sent := s.sent ++ [f] }

/-- The bytes of a frame on its link (R154): address, kind, number, length, payload, check word high byte first. -/
def frameBytes (f : Frame) : List Byte :=
  let body := [f.address, f.kind, f.number.setWidth 8, byteOf f.payload.length] ++ f.payload
  let check := crc16 body
  body ++ [check.extractLsb' 8 8, check.extractLsb' 0 8]

def facingByte : Port → Byte
  | .bottom => 0x00
  | .top => 0x01

def refuseByte : RefuseReason → Byte
  | .noCard => 0x01
  | .duplicate => 0x02
  | .cancelled => 0x03
  | .levelClosed => 0x04

/-- Kind and payload of a chain command (8.8). -/
def chainCmdFrame : ChainCmd → Byte × List Byte
  | .face p => (0x03, [facingByte p])
  | .resyncAsk => (0x04, [])
  | .dropGrant x t => (0x05, sideCode x :: bytes32 t)
  | .dropRefuse r => (0x06, [refuseByte r])
  | .takeGrant x t => (0x07, sideCode x :: bytes32 t)
  | .takeWait x => (0x08, [sideCode x])

/-- The frame an exchange sends to a level through a port (8.8). -/
def exchangeFrame (p : Port) (level : Nat) : Sending → Frame
  | .poll => ⟨.chain p, byteOf level, 0x01, 0, []⟩
  | .hello => ⟨.chain p, byteOf level, 0x02, 0, []⟩
  | .command c n => ⟨.chain p, byteOf level, (chainCmdFrame c).1, n, (chainCmdFrame c).2⟩

/-- Kind and payload of a lift command (6.2.1). -/
def liftCmdFrame : LiftCmd → Byte × List Byte
  | .trip n stops =>
    (0x41, n :: byteOf stops.length :: stops.flatMap (fun x => [byteOf x.1, byteOf x.2]))
  | .proceed n i => (0x42, [n, byteOf i])
  | .pass n i => (0x43, [n, byteOf i])
  | .park => (0x44, [])
  | .wake => (0x45, [])
  | .stateAsk => (0x46, [])
  | .clear n => (0x47, [n])

/-- Queue a command for a level's node (8.5); a node out of reach has no queue (log 31). -/
def State.queueNode (s : State) (level : Nat) (c : ChainCmd) : State :=
  if (s.node level).state = .alive ∨ (s.node level).state = .seeking then
    s.updateNode level (fun nd => { nd with queue := nd.queue ++ [c] })
  else s

/-- Queue RESYNC-ASK unless the queue already holds one (R145). -/
def State.queueResync (s : State) (level : Nat) : State :=
  if ChainCmd.resyncAsk ∈ (s.node level).queue then s else s.queueNode level .resyncAsk

/-! ### Conditions (R167, R168) -/

/-- An entry after a condition is raised at it (R167). -/
def CondEntry.raised (e : CondEntry) (c : Cond) (d1 d2 : Byte) (t : Word) : CondEntry :=
  match e.code with
  | none => { code := some c, changed := true, count := 1, detail1 := d1, detail2 := d2, first := t, last := t }
  | some _ =>
    { e with code := some c, changed := true, count := min 255 (e.count + 1), detail1 := d1, detail2 := d2, last := t }

def State.cond (s : State) (src : Nat) : CondEntry := (s.conditions[src]?).getD {}

def State.setCond (s : State) (src : Nat) (e : CondEntry) : State :=
  { s with conditions := s.conditions.setIfInBounds src e }

/-- Raise a condition at its source (R167). -/
def State.raise (s : State) (src : Nat) (c : Cond) (d1 d2 : Byte) : State :=
  s.setCond src ((s.cond src).raised c d1 d2 s.stamp)

/-- NO_PROFILE, due since INIT ended without a valid stored profile, is raised at the profile store source (R171). -/
def State.raiseDue (s : State) : State :=
  if s.mode ≠ .init ∧ s.store.noProfileDue = true then
    (s.setStore { s.store with noProfileDue := false }).raise srcStore .noProfile 0x00 0x00
  else s

/-- How every event starts: a NO_PROFILE that is due is raised in the first event after INIT's end, whatever that event is
(R171, R178; log 4), and no frame has been sent yet (log 15). -/
def State.begin (s : State) : State := { s.raiseDue with sent := [] }

/-! ### The place map -/

/-- The mismatch timer may run at place `p` holding record `q` (R11). -/
def State.mismatchEligible (s : State) (p : Nat) (q : Place) : Bool :=
  s.hasProfile && (if isLane p then q.fitted && s.alive (laneLevel p) else isSpur p) && q.frozen.isNone &&
    q.lock == .none && (match q.sensed with | none => false | some c => c != q.entries.length)

/-- The record with its mismatch timer started, kept or stopped (R11). -/
def State.retimed (s : State) (p : Nat) (q : Place) : Place :=
  if s.mismatchEligible p q then
    { q with mismatch := match q.mismatch with | none => some (100 * s.senseGrace) | some r => some r }
  else { q with mismatch := none }

/-- Write a place's mirror record (R21). -/
def State.writeMirror (s : State) (p : Nat) : State :=
  s.setMem (Memory.write s.board.mem (0x3000 + 8 * p) (s.mirrorRecord p))

/-- Copy to the mirror what has changed at place `p` since `old` (R21). -/
def State.copyMirror (s old : State) (p : Nat) : State := if s.mirrorChanged old p then s.writeMirror p else s

/-- Replace a place's record: the mismatch timer follows (R11) and a change is copied to the mirror (R21). -/
def State.setPlace (s : State) (p : Nat) (q : Place) : State :=
  State.copyMirror { s with places := s.places.setIfInBounds p (s.retimed p q) } s p

/-- Test a place's mismatch timer again (R11). -/
def State.retime (s : State) (p : Nat) : State := s.setPlace p (s.place p)

/-- A lane's last reservation has ended while it awaits rebuild: RESYNC-ASK is queued if its node is ALIVE (R153). -/
def State.afterReservation (s : State) (p : Nat) : State :=
  if isLane p && (s.place p).awaiting && (s.place p).res == 0 && s.alive (laneLevel p) then s.queueResync (laneLevel p)
  else s

/-- Who is told of an arrival at place `p`: at an empty place the head changes (R7, R116). -/
def State.toldArriving (s : State) (p : Nat) : List Retry :=
  toldArrival p ++ (if s.entries p = [] then toldHead p else [])

/-- An arrival: the entry is appended at the tail (R2). -/
def State.arrive (s : State) (p : Nat) (e : Entry) : State :=
  (s.setPlace p { s.place p with entries := s.entries p ++ [e] }).tellAll (s.toldArriving p)

/-- An arrival that consumes a reservation, in one step (R4). -/
def State.arriveReserved (s : State) (p : Nat) (e : Entry) : State :=
  ((s.setPlace p { s.place p with entries := s.entries p ++ [e], res := (s.place p).res - 1 }).tellAll
    (s.toldArriving p)).afterReservation p

/-- Change the stops of a plan. -/
def Plan.mapStops (p : Plan) (f : Stop → Stop) : Plan := { p with stops := p.stops.map f }

/-- Change every stop a lift holds, planned or under way. -/
def Lift.mapStops (l : Lift) (f : Stop → Stop) : Lift :=
  { l with
    trip := l.trip.map (fun t => { t with plan := t.plan.mapStops f })
    pending := l.pending.map (fun p => p.mapStops f) }

/-- A FOREIGN claim follows its entry when the head leaves (R102). -/
def Stop.headLeft (st : Stop) (p : Nat) : Stop :=
  match st.claim with
  | some (.foreign (k + 1)) => if st.place = p ∧ st.action = .load then { st with claim := some (.foreign k) } else st
  | _ => st

/-- A departure: the head entry is removed (R2); room is freed (R7) and the head changes (R116). -/
def State.depart (s : State) (p : Nat) : State :=
  let t := (s.setPlace p { s.place p with entries := (s.entries p).tail }).tellAll (toldRoom p ++ toldHead p)
  if isLane p || isSpur p then t.updateLift (placeSide p) (fun l => l.mapStops (fun st => st.headLeft p)) else t

/-- Replace the entries of a deck or of the divert, or card entries by FOREIGN in place (R2). -/
def State.setEntries (s : State) (p : Nat) (es : List Entry) : State := s.setPlace p { s.place p with entries := es }

/-- Make a reservation; room has been tested in the same event (R4). -/
def State.reserve (s : State) (p : Nat) : State := s.setPlace p { s.place p with res := (s.place p).res + 1 }

/-- Release a reservation: room is freed (R4, R7). -/
def State.unreserve (s : State) (p : Nat) : State :=
  ((s.setPlace p { s.place p with res := (s.place p).res - 1 }).tellAll (toldRoom p)).afterReservation p

/-- Take a lane's lock (R8). -/
def State.lockLane (s : State) (p : Nat) (l : Lock) : State := s.setPlace p { s.place p with lock := l }

/-- Release a lane's lock (R8, R9). -/
def State.unlockLane (s : State) (p : Nat) : State :=
  (s.setPlace p { s.place p with lock := .none }).tellAll (toldUnlock p)

/-- A status change of a place: its record is replaced and the neighbours are told (R7), a stop that waits there among them
(R116). -/
def State.setStatus (s : State) (p : Nat) (q : Place) : State := (s.setPlace p q).tellAll (toldStatus p ++ toldStop p)

/-- Freeze a place with a reason, in one event (R12). -/
def State.freeze (s : State) (p : Nat) (r : Freeze) : State :=
  (s.setStatus p { s.place p with frozen := some r }).raise (srcPlace p) .frozen (byteOf p) (freezeByte r)

/-- A rebuilt record (R14): as many FOREIGN entries as the count, no reservations, no lock, no freeze. -/
def Place.rebuilt (q : Place) (count : Nat) : Place :=
  { q with entries := List.replicate count .foreign, res := 0, lock := .none, frozen := none, mismatch := none }

/-- A lane emptied and marked awaiting rebuild (R15): no entries, reservations, lock or sensed count; its frozen and
barred flags stand until the rebuild (log 27). -/
def Place.emptied (q : Place) : Place :=
  { q with entries := [], res := 0, lock := .none, mismatch := none, sensed := none, awaiting := true }

/-- A card entry turned into FOREIGN in the same position (R2). -/
def Entry.toForeign (_ : Entry) : Entry := .foreign

/-! ### The release unit -/

/-- Step over the void entries equal to N (R50, step 2). -/
def stepOver : Half → List Half → Half × List Half
  | n, [] => (n, [])
  | n, v :: vs => if v = n then stepOver (n + 1) vs else (n, v :: vs)

/-- Advance N (R50, R51). -/
def State.advance (s : State) : State :=
  let st := stepOver (s.release.n + 1) s.release.voids
  (s.setRelease
    { s.release with
      n := st.1, voids := st.2, stallReported := false,
      stall := if s.anyLive then some (1000 * s.stallLimit) else none }).tellAll [.walk, .merge]

/-- Insert a number before the first void entry that lies further from N (R56). -/
def insertVoid (n x : Half) : List Half → List Half
  | [] => [x]
  | v :: vs => if (x - n).toNat < (v - n).toNat then x :: v :: vs else v :: insertVoid n x vs

/-- The voiding step (R56). -/
def State.voiding (s : State) (x : Half) : State :=
  if x = s.release.n then s.advance
  else if s.release.voids.length < 32 then
    s.setRelease { s.release with voids := insertVoid s.release.n x s.release.voids }
  else s

/-- The bound list a card stands in, if any (R52). -/
def State.boundSide (s : State) (n : Nat) : Option Side :=
  if n ∈ s.release.bound.a then some .a else if n ∈ s.release.bound.b then some .b else none

/-- Remove a card from the bound lists, keeping the order of the others (R52). -/
def State.unlist (s : State) (n : Nat) : State :=
  s.setRelease
    { s.release with
      bound := ⟨s.release.bound.a.filter (fun m => m != n), s.release.bound.b.filter (fun m => m != n)⟩ }

/-- Who is told of a demotion or unbinding of a card of bound list `x` (R57). -/
def toldUnbound (x : Option Side) : List Retry :=
  [.walk, .merge] ++ (match x with | none => [] | some y => [.plan y])

/-- A card is unbound with its number still live (R31, R57). -/
def State.unbind (s : State) (n : Nat) : State := (s.unlist n).tellAll (toldUnbound (s.boundSide n))

/-- The stall timer stops when no open card holds a live number (R69). -/
def State.restStall (s : State) : State :=
  if s.anyLive then s else s.setRelease { s.release with stall := none }

/-- Give up a card's live sequence number (R39); with `stays` the card is demoted and travels on. -/
def State.giveUp (s : State) (n : Nat) (stays : Bool) : State :=
  match s.ctx n with
  | none => s
  | some c =>
    match c.seqState, c.seq with
    | .live, some x =>
      let told := toldUnbound (s.boundSide n)
      let s1 := (s.unlist n).setContext n
        (some { c with seqState := .givenUp, demoted := c.demoted || stays, demotedFlag := c.demotedFlag || stays })
      ((s1.voiding x).restStall).tellAll told
    | _, _ => s

/-! ### Cards (R157–R162) -/

def State.writeCard (s : State) (n i : Nat) (bs : List Byte) : State :=
  s.setMem (Memory.write s.board.mem (cardAddr n i) bs)

def State.cardState (s : State) (n : Nat) : Byte := s.cardByte n 0

def State.setCardState (s : State) (n : Nat) (b : Byte) : State := s.writeCard n 0 [b]

/-- Append a finished card to the finish list, between the two increments of the change count (R156, R162). -/
def State.appendFinish (s : State) (n : Nat) : State :=
  s.setBoard { s.board with finishList := s.board.finishList ++ [n], changeCount := s.board.changeCount + 2 }

/-- Finish a card that has no order context (R161). -/
def State.finishCard (s : State) (n : Nat) (final : Byte) (r : ReasonCode) (detail : Byte) (examined : Word) : State :=
  let s1 := s.writeCard n 32
    ([reasonByte r, detail, 0x00, 0x00] ++ bytes32 examined ++ bytes32 0 ++ bytes32 s.stamp ++ [0x00])
  let s2 := (s1.setCardState n final).appendFinish n
  if final = cardRefused then s2.setBoard { s2.board with latchRefused := true } else s2

/-- Finish a card in the event of its examination (R161). -/
def State.finishNow (s : State) (n : Nat) (final : Byte) (r : ReasonCode) (detail : Byte) : State :=
  s.finishCard n final r detail s.stamp

/-- Refuse a card at examination (R160, R161). -/
def State.refuse (s : State) (n : Nat) (r : ReasonCode) (detail : Byte) : State := s.finishNow n cardRefused r detail

/-- The held ask is a drop ask of card `n`. -/
def HeldAsk.ofCard (h : HeldAsk) (n : Nat) : Bool :=
  match h with
  | .drop _ m _ => m == n
  | .take _ _ => false

/-- The outcome bytes of an order (R40, step 5): reason, detail, side used, result flags, three stamps, trip number. -/
def outcomeBytes (c : Context) (r : ReasonCode) (detail : Byte) : List Byte :=
  [reasonByte r, detail, (c.side.map sideCode).getD 0x00, resultFlags c] ++ bytes32 c.accepted ++ bytes32 c.bound ++
    bytes32 c.finished ++ [c.trip]

/-- End an order's context: steps 2 to 8 of R40; the owner of the event has dealt with its entry (step 1).
`gives` is false at FLUSH alone, which skips step 3. -/
def State.finishOrder (s : State) (n : Nat) (final : Byte) (r : ReasonCode) (detail : Byte) (gives : Bool := true) :
    State :=
  let s1 := s.setHeld (s.handover.held.filter (fun h => !h.ofCard n))
  let s2 := if gives then s1.giveUp n false else s1
  match s2.ctx n with
  | none => s2
  | some c =>
    let s3 := s2.writeCard n 32 (outcomeBytes { c with finished := s.stamp } r detail)
    ((s3.setCardState n final).appendFinish n).setContext n none

/-- The level of a held ask. -/
def HeldAsk.level : HeldAsk → Nat
  | .drop k _ _ => k
  | .take k _ => k

/-- Remove a level's held entry; a held drop card returns to PENDING (R84). -/
def State.dropHeld (s : State) (level : Nat) : State :=
  let gone := s.handover.held.filter (fun h => h.level == level)
  let s1 := s.setHeld (s.handover.held.filter (fun h => h.level != level))
  gone.foldl (fun t h => match h with
    | .drop _ n _ => t.updateContext n (fun c => if c.phase = .held then { c with phase := .pending } else c)
    | .take _ _ => t) s1

end Sys2Proof.Machine
end

