-- ==== Sys2Proof/Machine/Handover.lean ====
section
/-! DEFINITION. The shuttle handover unit (chapter 4): the side choice, grants, the held-ask walk, and the effect of a
DONE or ABORT, from a report or from a settlement at resync. -/

namespace Sys2Proof.Machine

/-- The candidate sides of a preference, each with its "substituted" mark (R75, R132). -/
def candidates (p : Pref) (ok : Side → Bool) : List (Side × Bool) :=
  match p with
  | .a => if ok .a then [(.a, false)] else if ok .b then [(.b, true)] else []
  | .b => if ok .b then [(.b, false)] else if ok .a then [(.a, true)] else []
  | .any => (if ok .a then [(.a, false)] else []) ++ (if ok .b then [(.b, false)] else [])

/-- Conditions 1 and 2 of the binding test (R53). -/
def State.bindable (s : State) (x : Side) (q : Half) : Bool :=
  decide (s.distance q < s.window) &&
    (match (s.release.bound.get x).getLast?.bind (fun m => (s.ctx m).bind (·.seq)) with
      | none => true
      | some last => decide (s.distance last < s.distance q))

/-- Condition 3 of the binding test (R53): the lane admits arrivals, has room and holds no lock. -/
def State.laneTakesDrop (s : State) (p : Nat) : Bool :=
  s.admitsArrivals p && s.hasRoom p && (s.place p).lock == .none

/-- A side passes now (R76). -/
def State.passesNow (s : State) (c : Context) (level : Nat) (x : Side) : Bool :=
  s.mode == .run && (s.grant level).isNone && (match c.liveSeq with | none => true | some q => s.bindable x q) &&
    s.laneTakesDrop (outLane level x)

/-- An entry of an open RETRIEVE card (R77). -/
def State.isRetrieve (s : State) : Entry → Bool
  | .card n => ((s.ctx n).map (fun c => c.kind == .retrieve)).getD false
  | .foreign => false

/-- The places of a side's zone (R77): its outbound lanes, its lift's decks, its exit spur. -/
def zonePlaces (x : Side) : List Nat :=
  (List.range 40).map (fun k => outLane (k + 1) x) ++ [deckPlace x .front, deckPlace x .rear, exitSpur x]

/-- The zone count of a side (R77). -/
def State.zoneCount (s : State) (x : Side) : Nat :=
  ((zonePlaces x).map (fun p => ((s.entries p).filter s.isRetrieve).length)).sum

/-- What the side choice settles on (R75, R77). -/
inductive DropChoice where
  | closed
  | hold
  | grant (side : Side) (substituted : Bool)
deriving DecidableEq, Repr

/-- The side choice for a drop of card `c` at a level (R75–R77). -/
def State.dropChoice (s : State) (c : Context) (level : Nat) : DropChoice :=
  match candidates c.pref (fun x => s.canEverAdmit (outLane level x)) with
  | [] => .closed
  | cs =>
    match cs.filter (fun x => s.passesNow c level x.1) with
    | [] => .hold
    | [x] => .grant x.1 x.2
    | _ => if s.zoneCount .b < s.zoneCount .a then .grant .b false else .grant .a false

/-- The low 16 bits of a tote ID as two detail bytes. -/
def low1 (t : Word) : Byte := t.extractLsb' 0 8
def low2 (t : Word) : Byte := t.extractLsb' 8 8

/-- A DROP-GRANT of card `n` on a side (R31, R78). -/
def State.grantDrop (s : State) (n : Nat) (c : Context) (level : Nat) (x : Side) (substituted : Bool) : State :=
  let p := outLane level x
  let s1 := (s.reserve p).lockLane p .shuttle
  let s2 := s1.setContext n
    (some { c with phase := .granted, side := some x, sideChanged := substituted, bound := s.stamp })
  let s3 := if c.liveSeq.isSome then
      s2.setRelease { s2.release with bound := s2.release.bound.set x (s2.release.bound.get x ++ [n]) }
    else s2
  let s4 := s3.setGrant level
    (some { kind := .drop, side := x, entry := .card n, tote := c.tote, timer := some (1000 * s.grantLimit) })
  (s4.setHeld (s4.handover.held.filter (fun h => !h.ofCard n))).queueNode level (.dropGrant x c.tote)

/-- Neither outbound lane of the level can ever admit: the card fails and the ask is refused (R75). -/
def State.closeDrop (s : State) (n : Nat) (level : Nat) : State :=
  (s.finishOrder n cardFailed .levelClosed (byteOf level)).queueNode level (.dropRefuse .levelClosed)

/-- A TAKE-ASK is granted (R81). -/
def State.takePasses (s : State) (level : Nat) (x : Side) : Bool :=
  s.mode == .run && (s.grant level).isNone && s.admitsDepartures (inLaneOf level x) &&
    (s.place (inLaneOf level x)).lock == .none && !(s.entries (inLaneOf level x)).isEmpty

/-- The tote ID of an entry's card; 0 for FOREIGN (R81). -/
def State.toteOf (s : State) : Entry → Word
  | .card n => ((s.ctx n).map (·.tote)).getD 0
  | .foreign => 0

/-- A TAKE-GRANT of the head entry of the level's inbound lane (R36, R81). -/
def State.grantTake (s : State) (level : Nat) (x : Side) (e : Entry) : State :=
  let s1 := s.lockLane (inLaneOf level x) .shuttle
  let s2 := match e with
    | .card n => s1.updateContext n (fun c => { c with phase := .taking })
    | .foreign => s1
  let s3 := s2.setGrant level
    (some { kind := .take, side := x, entry := e, tote := s.toteOf e, timer := some (1000 * s.grantLimit) })
  (s3.dropHeld level).queueNode level (.takeGrant x (s.toteOf e))

/-! ### Asks -/

/-- A DROP-ASK from a level (R74–R77). -/
def State.askDrop (s : State) (level : Nat) (tote : Word) : State :=
  let s1 := s.dropHeld level
  match s1.findOpen (fun c => c.kind == .retrieve && c.tote == tote && c.level == level) with
  | none =>
    (s1.queueNode level (.dropRefuse .noCard)).raise (srcLevel level) .noCardAsk (low1 tote) (low2 tote)
  | some n =>
    match s1.ctx n with
    | none => s1
    | some c =>
      if c.phase = .pending ∨ c.phase = .held then
        match s1.dropChoice c level with
        | .closed => s1.closeDrop n level
        | .grant x sub => s1.grantDrop n c level x sub
        | .hold =>
          (s1.setHeld (s1.handover.held ++ [.drop level n tote])).setContext n (some { c with phase := .held })
      else s1.queueNode level (.dropRefuse .duplicate)

/-- A TAKE-ASK from a level (R81, R84). -/
def State.askTake (s : State) (level : Nat) (x : Side) : State :=
  let s1 := s.dropHeld level
  match s1.takePasses level x, s1.head (inLaneOf level x) with
  | true, some e => s1.grantTake level x e
  | _, _ => (s1.setHeld (s1.handover.held ++ [.take level x])).queueNode level (.takeWait x)

/-! ### The held-ask walk (R85) -/

/-- Try one held ask; `none` leaves it where it stands. -/
def State.tryHeld (s : State) (h : HeldAsk) : Option State :=
  match h with
  | .drop level n _ =>
    match s.ctx n with
    | none => none
    | some c =>
      match s.dropChoice c level with
      | .closed => some (s.closeDrop n level)
      | .grant x sub => some (s.grantDrop n c level x sub)
      | .hold => none
  | .take level x =>
    match s.takePasses level x, s.head (inLaneOf level x) with
    | true, some e => some (s.grantTake level x e)
    | _, _ => none

/-- Try the asks of a list from the oldest; the mark says whether any was granted or failed. -/
def State.walkOver : List HeldAsk → State → State × Bool
  | [], s => (s, false)
  | h :: hs, s =>
    match s.tryHeld h with
    | none => State.walkOver hs s
    | some t => ((State.walkOver hs t).1, true)

/-- The held-ask walk (R85): only in RUN, oldest to newest; `none` where no ask can be granted or failed. -/
def State.walk (s : State) : Option State :=
  if s.mode = .run then
    match State.walkOver s.handover.held s with
    | (t, true) => some t
    | (_, false) => none
  else none

/-! ### The end of a grant -/

/-- The lane of a grant. -/
def Grant.lane (g : Grant) (level : Nat) : Nat :=
  match g.kind with
  | .drop => outLane level g.side
  | .take => inLaneOf level g.side

/-- A drop reported or settled as done (R31, R79). -/
def State.dropDone (s : State) (level : Nat) (g : Grant) : State :=
  let p := g.lane level
  let s1 := ((s.arriveReserved p g.entry).unlockLane p).setGrant level none
  match g.entry with
  | .foreign => s1
  | .card n =>
    let s2 := s1.updateContext n (fun c => { c with phase := .inLane, place := some p, loaded := s.stamp })
    match s2.ctx n with
    | none => s2
    | some c => if c.cancelRequested then s2.giveUp n true else s2

/-- A drop reported or settled as aborted (R31, R80). -/
def State.dropAbort (s : State) (level : Nat) (g : Grant) : State :=
  let p := g.lane level
  let s1 := ((s.unreserve p).unlockLane p).setGrant level none
  match g.entry with
  | .foreign => s1
  | .card n =>
    match s1.ctx n with
    | none => s1
    | some c =>
      if c.cancelRequested then s1.finishOrder n cardCancelled .none 0x00
      else
        (s1.unbind n).setContext n
          (some { c with phase := .pending, side := none, sideChanged := false, bound := 0 })

/-- A take reported or settled as done, with the tote ID read (R36, R82). -/
def State.takeDone (s : State) (level : Nat) (g : Grant) (read : Word) : State :=
  let p := g.lane level
  let s1 := ((s.depart p).unlockLane p).setGrant level none
  match g.entry with
  | .foreign => s1.raise (srcLevel level) .foreignStored (byteOf p) (low1 read)
  | .card n =>
    (s1.updateContext n (fun c => { c with place := none, idMismatch := c.idMismatch || read != c.tote })).finishOrder n
      cardDone .none 0x00

/-- A take reported or settled as aborted (R36, R83). -/
def State.takeAbort (s : State) (level : Nat) (g : Grant) : State :=
  let s1 := (s.unlockLane (g.lane level)).setGrant level none
  match g.entry with
  | .foreign => s1
  | .card n => s1.updateContext n (fun c => { c with phase := .inLane })

end Sys2Proof.Machine
end

