-- ==== Sys2Proof/Machine/Divert.lean ====
section
/-! DEFINITION. The entry unit (chapter 7): arrivals, the side choice at the divert, the reject try. -/

namespace Sys2Proof.Machine

/-- Change the divert's motion: place 168's mirror record is written in the same event (R129, R22). -/
def State.setMotion (s : State) (m : Motion) : State := (s.setEntry { s.entry with motion := m }).writeMirror divert

/-- The divert comes to hold `e`; FOREIGN brings a reject try (R135). -/
def State.setDivert (s : State) (e : Entry) : State :=
  let t := s.setEntries divert [e]
  match e with
  | .foreign => t.tell .reject
  | .card _ => t

/-- No side qualifies: the waiting card fails and its tote becomes FOREIGN (R132). -/
def State.closeDivert (s : State) (n : Nat) (c : Context) : State :=
  ((s.setDivert .foreign).finishOrder n cardFailed .levelClosed (byteOf c.level)).raise srcEntry .levelClosed
    (byteOf c.level) (byteOf n)

/-- The divert moves toward a side (R34, R134). -/
def State.moveDivert (s : State) (n : Nat) (c : Context) (x : Side) (substituted : Bool) : State :=
  ((s.reserve (entrySpur x)).setMotion (.toSpur x)).setContext n
    (some { c with phase := .atDivert, side := some x, sideChanged := substituted, bound := s.stamp })

/-- A candidate side is kept (R132, second step). -/
def State.spurTakes (s : State) (x : Side) : Bool :=
  s.admitsArrivals (entrySpur x) && s.hasRoom (entrySpur x) && s.mode == .run && s.entry.motion == .idle

/-- The side choice for the STORE card whose tote stands in the divert (R132, R133); `none` where it waits. -/
def State.divertChoice (s : State) : Option State :=
  match s.head divert, s.entry.motion with
  | some (.card n), .idle =>
    match s.ctx n with
    | none => none
    | some c =>
      match candidates c.pref (fun x => s.canEverAdmit (inLaneOf c.level x)) with
      | [] => some (s.closeDivert n c)
      | cs =>
        match cs.filter (fun x => s.spurTakes x.1) with
        | [] => none
        | [x] => some (s.moveDivert n c x.1 x.2)
        | _ =>
          if (s.entries (entrySpur .b)).length < (s.entries (entrySpur .a)).length then
            some (s.moveDivert n c .b false)
          else some (s.moveDivert n c .a false)
  | _, _ => none

/-- A reject try (R135); `none` where nothing happens. -/
def State.tryReject (s : State) : Option State :=
  match s.head divert, s.entry.motion, s.mode with
  | some .foreign, .idle, .run =>
    if s.lines.rejectFull then
      if s.entry.rejectReported then none
      else some ((s.setEntry { s.entry with rejectReported := true }).raise srcEntry .rejectFull 0x00 0x00)
    else some ((s.setEntry { s.entry with rejectReported := false }).setMotion .toReject)
  | _, _, _ => none

/-- A tote that no order stores: FOREIGN, with its condition (R131). -/
def State.foreignArrival (s : State) (c : Cond) (d1 d2 : Byte) : State :=
  (s.setDivert .foreign).raise srcEntry c d1 d2

/-- An arrival at the divert: the held read is taken and matched (R130, R131). -/
def State.arrival (s : State) : State :=
  let s1 := s.setEntry { s.entry with read := none }
  match s.entry.read with
  | some (.tote t) =>
    match s1.findOpen (fun c => c.kind == .store && c.phase == .awaited && c.tote == t) with
    | none => s1.foreignArrival .noCard (low1 t) (low2 t)
    | some n => ((s1.setDivert (.card n)).updateContext n (fun c => { c with place := some divert })).tell .divert
  | _ => s1.foreignArrival .unreadable 0x00 0x00

/-- The divert's room is freed: an arrival is taken if ENTRY-ARRIVE is still asserted (R130). -/
def State.divertFreed (s : State) : State := if s.lines.entryArrive then s.arrival else s

end Sys2Proof.Machine
end

