-- ==== Sys2Proof/Machine/Merge.lean ====
section
/-! DEFINITION. The merge gate (3.7): which head is released and what a release does. -/

namespace Sys2Proof.Machine

/-- The head an exit spur offers (R63). -/
def State.offered (s : State) (x : Side) : Option Entry :=
  if s.admitsDepartures (exitSpur x) then s.head (exitSpur x) else none

/-- The live, not demoted number of a RETRIEVE head (R63). -/
def State.headNumber (s : State) : Entry → Option Half
  | .foreign => none
  | .card n =>
    match s.ctx n with
    | none => none
    | some c => if c.kind = .retrieve then c.liveSeq else none

/-- Side `x` offers the sequenced head whose number is N (R64, rule 1). -/
def State.offersN (s : State) (x : Side) : Bool :=
  match s.offered x with
  | none => false
  | some e => s.headNumber e == some s.release.n

/-- Side `x` offers an unsequenced head (R64, rule 2). -/
def State.offersUnsequenced (s : State) (x : Side) : Bool :=
  match s.offered x with
  | none => false
  | some e => (s.headNumber e).isNone

/-- The choice among the offered heads (R64). -/
def State.mergeChoice (s : State) : Option Side :=
  if s.offersN .a then some .a
  else if s.offersN .b then some .b
  else if s.offersUnsequenced (otherSide s.release.lastSide) then some (otherSide s.release.lastSide)
  else if s.offersUnsequenced s.release.lastSide then some s.release.lastSide
  else none

/-- The length of the overdue timer (R61). -/
def overdueLimit : Nat := 10000

/-- The card of a released head becomes RELEASED; a live number is consumed and N advances (R33, R65 step 2). -/
def State.releaseCard (s : State) (n : Nat) : State :=
  match s.ctx n with
  | none => s
  | some c =>
    match c.liveSeq with
    | none => s.setContext n (some { c with phase := .released, place := none })
    | some _ =>
      (((s.unlist n).setContext n
        (some { c with phase := .released, place := none, seqState := .consumed })).advance).tell .walk

/-- The release of the head `e` of exit spur `x` (R65). -/
def State.releaseHead (s : State) (x : Side) (e : Entry) : State :=
  let s1 := s.depart (exitSpur x)
  let s2 := match e with
    | .card n => s1.releaseCard n
    | .foreign => s1
  s2.setRelease
    { s2.release with merge := .releasing x e (some overdueLimit), exitRead := none, lastSide := x }

/-- The merge tries a release (R62); `none` where nothing starts. -/
def State.tryMerge (s : State) : Option State :=
  if s.mode = .run ∧ s.release.merge = .idle ∧ s.lines.exitReady = true then
    match s.mergeChoice with
    | none => none
    | some x =>
      match s.offered x with
      | none => none
      | some e => some (s.releaseHead x e)
  else none

end Sys2Proof.Machine
end

