-- ==== Sys2Proof/Machine/ChainOps.lean ====
section
/-! DEFINITION. The level chain unit (chapter 8): assignment, visits, probes, exchanges and their answers, dead and revived
nodes, resync. -/

namespace Sys2Proof.Machine

/-- The levels 1 to 40. -/
def allLevels : List Nat := (List.range 40).map (fun k => k + 1)

/-- A node is served: SEEKING or ALIVE (R139). -/
def Node.served (nd : Node) : Bool := nd.state == .seeking || nd.state == .alive

/-- A port's served list: the levels assigned to it that are SEEKING or ALIVE, ascending (R139). -/
def State.served (s : State) (p : Port) : List Nat :=
  allLevels.filter (fun k => (s.node k).served && (s.node k).port == some p)

/-- The levels to be probed: DEAD or CUT, ascending (R149). -/
def State.lostLevels (s : State) : List Nat :=
  allLevels.filter (fun k => (s.node k).state == .dead || (s.node k).state == .cut)

/-- The profile side of a level (R139). -/
def State.profileSide (s : State) (level : Nat) : Port := if level ≤ s.split then .bottom else .top

/-- A level is reachable from a port: no node between them is DEAD, every DEAD node being a break in the chain (R140, R148). -/
def State.reachable (s : State) (level : Nat) : Port → Bool
  | .bottom => allLevels.all (fun k => decide (level ≤ k) || (s.node k).state != .dead)
  | .top => allLevels.all (fun k => decide (k ≤ level) || (s.node k).state != .dead)

/-- The port R148 assigns to a level. -/
def State.assigned (s : State) (level : Nat) : Option Port :=
  let p := s.profileSide level
  if s.reachable level p then some p
  else if s.reachable level (otherPort p) then some (otherPort p)
  else none

/-- The four lanes of a level. -/
def levelLanes (level : Nat) : List Nat :=
  [outLane level .a, inLaneOf level .a, outLane level .b, inLaneOf level .b]

/-- A lane after its node became or ceased to be ALIVE: its mismatch timer and its mirror record follow (R11, R21), `old`
being the state before. -/
def State.syncLane (s old : State) (p : Nat) : State :=
  State.copyMirror { s with places := s.places.setIfInBounds p (s.retimed p (s.place p)) } old p

/-- Change a node record. A node's becoming or ceasing to be ALIVE is handed to the place map and the handover unit
(R7, R89, R139): the level's lanes change their status, and a held ask of a level that ceased is removed. -/
def State.changeNode (s : State) (level : Nat) (f : Node → Node) : State :=
  let t := s.updateNode level f
  if s.alive level = t.alive level then t
  else
    let u := (levelLanes level).foldl (fun v p => (v.syncLane s p).tellAll (toldStatus p ++ toldStop p)) t
    if t.alive level then u else u.dropHeld level

/-- The queue of a node assigned anew (R148): FACE first; a command sent and unanswered is discarded and RESYNC-ASK is
queued at the end. -/
def Node.movedQueue (nd : Node) (q : Port) : List ChainCmd :=
  if nd.sends = 0 then .face q :: nd.queue
  else
    .face q :: nd.queue.tail ++ (if ChainCmd.resyncAsk ∈ nd.queue.tail then [] else [.resyncAsk])

/-- Give one node the port of the new assignment (R148). -/
def State.reassign (s : State) (level : Nat) : State :=
  let nd := s.node level
  match nd.state, s.assigned level with
  | .off, _ => s
  | .dead, _ => s
  | .cut, none => s
  | .cut, some q => s.changeNode level (fun nd => { nd with state := .seeking, port := some q, queue := [.face q], sends := 0 })
  | _, none =>
    s.changeNode level (fun nd => { nd with state := .cut, port := none, queue := [], sends := 0, expected := none })
  | _, some q =>
    if nd.port = some q then s
    else s.changeNode level (fun nd => { nd with port := some q, queue := nd.movedQueue q, sends := 0 })

/-- The CUT levels, ascending. -/
def State.cutLevels (s : State) : List Nat := allLevels.filter (fun k => (s.node k).state == .cut)

/-- Recompute the assignment of every node (R148). -/
def State.recompute (s : State) : State := allLevels.foldl State.reassign s

/-- The recomputation after a node's death (R148): NODE_CUT is raised once if it makes any level CUT. -/
def State.recomputeAfterDeath (s : State) (p : Port) : State :=
  let t := s.recompute
  if t.cutLevels.any (fun k => !(s.cutLevels).contains k) then
    t.raise (srcPort p) .nodeCut (byteOf (t.cutLevels.head?.getD 0)) (byteOf (t.cutLevels.getLast?.getD 0))
  else t

/-- A node becomes DEAD (R147). That it then has no assigned port, and that its unanswered count and its command frame number stand,
is the model's choice (log 56, DESIGN CHOICE). -/
def State.nodeDies (s : State) (level : Nat) : State :=
  let p := ((s.node level).port).getD .bottom
  let s1 := s.raise (srcPort p) .nodeDead (byteOf level) 0x00
  (s1.changeNode level (fun nd =>
    { nd with state := .dead, port := none, queue := [], sends := 0, expected := none })).recomputeAfterDeath p

/-- A DEAD or CUT node answers HELLO at a port: its revival (R150). -/
def State.revive (s : State) (level : Nat) (p : Port) : State :=
  ((s.changeNode level (fun nd => { nd with state := .alive, port := some p, unanswered := 0, sends := 0 })).recompute).queueResync
    level

/-- A SEEKING node answers its first exchange (R150). -/
def State.firstAnswer (s : State) (level : Nat) : State :=
  (s.changeNode level (fun nd => { nd with state := .alive })).queueResync level

/-! ### Exchanges (R142, R143) -/

/-- The time of an exchange (R143). -/
def exchangeLimit : Nat := 2

/-- Send a frame and wait for its answer. -/
def State.startExchange (s : State) (p : Port) (level : Nat) (what : Sending) : State :=
  (s.updatePort p (fun r => { r with exchange := some ⟨level, what, exchangeLimit⟩ })).transmit (exchangeFrame p level what)

/-- Send the first command of a node's queue (R142, R146): a new command takes the next number, a resend keeps it. -/
def State.sendCommand (s : State) (p : Port) (level : Nat) : State :=
  match (s.node level).queue with
  | [] => s
  | c :: _ =>
    let nd := s.node level
    let n := if nd.sends = 0 then nd.frame + 1 else nd.frame
    (s.setNode level { nd with frame := n, sends := nd.sends + 1 }).startExchange p level (.command c n)

/-- The level visited after `k`: the next of the served list, or its lowest (R142). -/
def nextVisit (served : List Nat) (k : Nat) : Option Nat :=
  match served.find? (fun l => decide (k < l)) with
  | some l => some l
  | none => served.head?

/-- Begin the visit of the next level (R142). -/
def State.advanceVisit (s : State) (p : Port) : State :=
  match nextVisit (s.served p) (s.chainPort p).level with
  | none => s
  | some k =>
    let s1 := s.updatePort p (fun r => { r with level := k, next := .advance })
    if (s1.node k).queue.isEmpty then s1.startExchange p k .poll else s1.sendCommand p k

/-- A port starts its next exchange (R142); nothing while one is in progress or probes are still to be made (R149). -/
def State.visitPort (s : State) (p : Port) : State :=
  let r := s.chainPort p
  if r.exchange.isSome || !r.probes.isEmpty then s
  else
    match r.next with
    | .resend =>
      if r.level ∈ s.served p ∧ (s.node r.level).sends ≠ 0 then s.sendCommand p r.level else s.advanceVisit p
    | .poll =>
      if r.level ∈ s.served p ∧ ((s.node r.level).state = .alive ∨ (s.node r.level).queue = []) then
        (s.updatePort p (fun r => { r with next := .advance })).startExchange p r.level .poll
      else s.advanceVisit p
    | .advance => s.advanceVisit p

/-- The time between two probe rounds (R149). -/
def probeInterval : Nat := 1000

/-- HELLO (R149): once each second a round of probes is due; each HELLO is one exchange, after the one in progress. The levels of a
round are those DEAD or CUT at the moment it begins: one lost later waits for the next round. The second to the next round
counts from this row, so a round that fell due during an exchange puts the later ones back by what it waited (log 19, DESIGN CHOICE
in both points). -/
def State.helloPort (s : State) (p : Port) : State :=
  let s1 := if (s.chainPort p).probeTimer = some 0 then
      s.updatePort p (fun r => { r with probes := s.lostLevels, probeTimer := some probeInterval })
    else s
  if (s1.chainPort p).exchange.isSome then s1
  else
    match (s1.chainPort p).probes.dropWhile (fun k => !(s1.lostLevels).contains k) with
    | [] => s1.updatePort p (fun r => { r with probes := [] })
    | k :: ks => (s1.updatePort p (fun r => { r with probes := ks })).startExchange p k .hello

/-- An exchange has been answered (R143): it ends and the node's unanswered count becomes 0. -/
def State.answered (s : State) (p : Port) (level : Nat) (next : VisitNext) : State :=
  (s.updatePort p (fun r => { r with exchange := none, next := next })).updateNode level
    (fun nd => { nd with unanswered := 0 })

/-- A POLL answer at a port from a level (R143, R145): taken from an ALIVE node; a SEEKING node's first answer counts for
liveness alone (R150); without a POLL to that level in progress it is discarded. -/
def State.pollAnswer (s : State) (p : Port) (level : Byte) (take : State → Nat → State) : State :=
  match (s.chainPort p).exchange with
  | some ⟨k, .poll, _⟩ =>
    if level.toNat = k then
      let s1 := s.answered p k .advance
      match (s.node k).state with
      | .alive => take s1 k
      | .seeking => s1.firstAnswer k
      | _ => s1
    else s
  | _ => s

/-- A numbered report from an ALIVE node (R145). -/
def State.numberedReport (s : State) (level : Nat) (number : BitVec 4) (hand : State → State) : State :=
  let e := (s.node level).expected
  let s1 := hand (s.updateNode level (fun nd => { nd with expected := some (number + 1) }))
  match e with
  | none => s1
  | some x =>
    if x = number then s1
    else
      (s1.raise (srcLevel level) .reportGap (x.setWidth 8) (number.setWidth 8)).queueResync level

/-- A shuttle or lane report as a POLL answer. -/
def State.report (s : State) (p : Port) (level : Byte) (number : BitVec 4) (hand : State → Nat → State) : State :=
  s.pollAnswer p level (fun t k => t.numberedReport k number (fun u => hand u k))

/-- The open grant of a level ends by its DONE or ABORT where it matches; a report that matches none is discarded (R80). -/
def State.grantReport (s : State) (level : Nat) (matchesGrant : Grant → Bool) (act : State → Grant → State) : State :=
  match s.grant level with
  | none => s
  | some g => if matchesGrant g then act s g else s

/-- A command's valid answer (R146): the command leaves the queue if it is still its first; a SEEKING node becomes
ALIVE and what came with the answer is discarded (R150). -/
def State.commandAnswer (s : State) (p : Port) (level : Nat) (number : BitVec 4) (take : State → State) : State :=
  let s1 := s.answered p level .poll
  let s2 := s1.updateNode level (fun nd =>
    if nd.sends ≠ 0 ∧ nd.frame = number then { nd with queue := nd.queue.tail, sends := 0 } else nd)
  match (s.node level).state with
  | .seeking => s2.firstAnswer level
  | .alive => take s2
  | _ => s2

/-! ### Resync (R151–R153) -/

/-- How an open grant is settled at a RESYNC-REPORT (R152). -/
inductive Settlement where
  | done
  | aborted
  | leftOpen
deriving DecidableEq, Repr

/-- The table of R152, with the lane's recorded count before settlement and the count reported. -/
def settlement (g : Grant) (recorded count : Nat) (held : Word) (last : LastEvent) : Settlement :=
  match g.kind with
  | .drop =>
    let byCount := if recorded < count then Settlement.done else .aborted
    match last with
    | .dropDone x t => if x = g.side ∧ t = g.tote then .done else byCount
    | .dropAbort x t => if x = g.side ∧ t = g.tote then .aborted else byCount
    | .dropAsk t => if t = g.tote then .aborted else byCount
    | .dropGrant x t =>
      if x = g.side ∧ t = g.tote then (if held = g.tote then .leftOpen else byCount) else byCount
    | _ => byCount
  | .take =>
    let byCount := if count < recorded then Settlement.done else .aborted
    match last with
    | .takeDone x => if x = g.side then .done else byCount
    | .takeAbort x => if x = g.side then .aborted else byCount
    | .takeAsk x => if x = g.side then .aborted else byCount
    | .takeGrant x =>
      if x = g.side then (if held ≠ 0 ∧ count < recorded then .done else .leftOpen) else byCount
    | _ => byCount

/-- The full effect of a settlement (R89, R152). -/
def State.settleGrant (s : State) (level : Nat) (g : Grant) : Settlement → State
  | .leftOpen => s
  | .done => match g.kind with | .drop => s.dropDone level g | .take => s.takeDone level g 0
  | .aborted => match g.kind with | .drop => s.dropAbort level g | .take => s.takeAbort level g

/-- A lane count, taken as the capacity where it is above it (R10). -/
def laneCountOf (p : Nat) (c : LaneCounts) : Nat :=
  min (capacity p) (match p % 4 with | 0 => c.outA.toNat | 1 => c.inA.toNat | 2 => c.outB.toNat | _ => c.inB.toNat)

/-- A lane takes the count of a RESYNC-REPORT (R153). R14 makes the contents of a rebuilt lane FOREIGN and does not say what becomes
of a card that stood there: its order stays open as it is (log 58, DESIGN CHOICE). -/
def State.resyncLane (s : State) (p count : Nat) : State :=
  let q := s.place p
  if !q.fitted then s
  else if q.awaiting then
    if q.res = 0 then s.setStatus p { q.rebuilt count with awaiting := false, sensed := some count } else s
  else s.setPlace p { q with sensed := some count }

/-- A RESYNC-REPORT is taken in one event (R151–R153). -/
def State.resync (s : State) (level : Nat) (next : BitVec 4) (counts : LaneCounts) (held : Word) (last : LastEvent) :
    State :=
  let s1 := s.updateNode level (fun nd => { nd with expected := some next })
  let s2 := match s1.grant level with
    | none => s1
    | some g =>
      let p := g.lane level
      s1.settleGrant level g (settlement g (s1.entries p).length (laneCountOf p counts) held last)
  (levelLanes level).foldl (fun t p => t.resyncLane p (laneCountOf p counts)) s2

/-- A LANE-COUNT report: the sensed counts of the level's lanes, except an unfitted or awaiting one (R145). -/
def State.laneCounts (s : State) (level : Nat) (counts : LaneCounts) : State :=
  (levelLanes level).foldl (fun t p =>
    if (t.place p).fitted && !(t.place p).awaiting then
      t.setPlace p { t.place p with sensed := some (laneCountOf p counts) }
    else t) s

/-! ### Start of the chain (R141) and its silence (R139) -/

/-- A node record at the start of the chain (R141). Its command frame number stands, at COMMIT too (log 52, DEDUCED). -/
def State.startNode (s : State) (level : Nat) (nd : Node) : Node :=
  if level ≤ s.levels then
    { nd with state := .seeking, port := some (s.profileSide level),
              queue := if s.split < level then [.face .top] else [], sends := 0, unanswered := 0, expected := none }
  else { nd with state := .off, port := none, queue := [], sends := 0, unanswered := 0, expected := none }

/-- A port record at the start of the chain; the check-error count is kept (R139). An exchange in progress is dropped and counts
nowhere (log 53, DESIGN CHOICE). -/
def ChainPort.started (r : ChainPort) : ChainPort := { checkErrors := r.checkErrors, probeTimer := some probeInterval }

/-- FACE BOTTOM addressed to 3Fh through a port (R141). -/
def faceAll (p : Port) : Frame := ⟨.chain p, 0x3F, 0x03, 0, [facingByte .bottom]⟩

/-- The chain starts under the active profile (R141). -/
def State.startChain (s : State) : State :=
  let nodes := s.chain.nodes.mapIdx (fun k nd => s.startNode (k + 1) nd)
  (({ s with
      chain := { nodes := nodes, bottom := s.chain.bottom.started, top := s.chain.top.started } }).transmit
    (faceAll .bottom)).transmit (faceAll .top)

/-- A silent port (R139): no visits and no probes. -/
def ChainPort.silent (r : ChainPort) : ChainPort := { checkErrors := r.checkErrors }

/-- Every node record becomes OFF with an empty queue and both ports fall silent (R139, R173, R174). The other items of a node
record are the model's choice: no assigned port, and the unanswered count, the expected number and the command frame number as they
stood (log 57, DESIGN CHOICE). -/
def State.silenceChain (s : State) : State :=
  { s with
    chain :=
      { nodes := s.chain.nodes.map (fun nd => { nd with state := .off, port := none, queue := [], sends := 0 }),
        bottom := s.chain.bottom.silent, top := s.chain.top.silent } }

end Sys2Proof.Machine
end

