-- ==== Sys2Proof/Machine/LiftOps.lean ====
section
/-! DEFINITION. The lift unit's operations (chapter 6): the command queue, trips, stops and their results, park and wake,
loss of the link, and the estimate and deadline of 5.4. -/

namespace Sys2Proof.Machine

/-! ### Estimate and deadline (5.4) -/

/-- |a − b| of two levels. -/
def levelDist (a b : Nat) : Nat := (a - b) + (b - a)

/-- The travel time along a path of levels (R100). -/
def State.pathTime (s : State) : List Nat → Nat
  | a :: b :: ls => s.travel (levelDist a b) + s.pathTime (b :: ls)
  | _ => 0

/-- The transfer time of a stop (R100). -/
def State.transferTime (s : State) (st : Stop) : Nat :=
  match st.action with
  | .load => s.tLoad
  | .unload => s.tUnload

/-- The estimate E of a path from a start level over stops and back to level 0 (R100). -/
def State.estimate (s : State) (start : Nat) (stops : List Stop) : Nat :=
  s.pathTime (start :: stops.map (·.level) ++ [0]) + (stops.map s.transferTime).sum

/-- The deadline D = E + ⌈E × MARGIN_M / 16⌉ + MARGIN_F (R101). -/
def State.deadlineOf (s : State) (e : Nat) : Nat := e + (e * s.marginM + 15) / 16 + s.marginF

/-- A plan over stops, with its estimate and deadline (R90, R100, R101). -/
def State.planOf (s : State) (k : PlanKind) (start : Nat) (stops : List Stop) : Plan :=
  { kind := k, start := start, stops := stops, estimate := s.estimate start stops,
    deadline := s.deadlineOf (s.estimate start stops) }

/-! ### The command queue (R110) -/

/-- The frame of a lift command with the lift's command frame number (6.2.1). -/
def liftFrame (x : Side) (n : BitVec 4) (c : LiftCmd) : Frame :=
  ⟨.lift x, 0x01, (liftCmdFrame c).1, n, (liftCmdFrame c).2⟩

/-- The time a command may wait for its echo (R110). -/
def echoLimit : Nat := 250

/-- Send the first command of the queue for the first time, with the next command frame number (R109, R110). -/
def State.pump (s : State) (x : Side) : State :=
  let l := s.lift x
  match l.queue with
  | [] => s
  | c :: _ =>
    if l.sends = 0 ∧ l.needStatus = false ∧ l.state ≠ .offline then
      (s.setLift x { l with number := l.number + 1, sends := 1, echo := some echoLimit }).transmit
        (liftFrame x (l.number + 1) c)
    else s

/-- Queue a command for a lift (R110). -/
def State.queueLift (s : State) (x : Side) (c : LiftCmd) : State :=
  (s.updateLift x (fun l => { l with queue := l.queue ++ [c] })).pump x

/-- The first command has been echoed: it leaves the queue and the next is sent (R110). -/
def State.echoed (s : State) (x : Side) : State :=
  (s.updateLift x (fun l => { l with queue := l.queue.tail, sends := 0, echo := none })).pump x

/-- The command queue emptied. -/
def Lift.noQueue (l : Lift) : Lift := { l with queue := [], sends := 0, echo := none }

/-- Raise a condition at a lift source; the second detail byte is the stray frame count (6.7). -/
def State.raiseLift (s : State) (x : Side) (c : Cond) (d : Byte) : State :=
  s.raise (srcLift x) c d (byteOf (s.lift x).stray)

/-- A stray frame (R111). -/
def State.strayFrame (s : State) (x : Side) : State :=
  s.updateLift x (fun l => { l with stray := min 255 (l.stray + 1) })

/-! ### Plans held by the lift unit -/

/-- Release the reservations of a list of stops (R102). -/
def State.releaseStops (s : State) (stops : List Stop) : State :=
  stops.foldl (fun t st => if st.reserved then t.unreserve st.place else t) s

/-- Discard a plan not yet sent: its reservations are released and its claims end (R102). -/
def State.discardPlan (s : State) (x : Side) : State :=
  match (s.lift x).pending with
  | none => s
  | some p => (s.updateLift x (fun l => { l with pending := none })).releaseStops p.stops

/-- The length of the wake timer (R107). -/
def wakeLimit : Nat := 5000

/-- Queue PARK: the lift enters PARKING (R122), which brings a planning try (R91). -/
def State.parkLift (s : State) (x : Side) : State :=
  ((s.updateLift x (fun l => { l with state := .parking, park := none, wake := some wakeLimit })).queueLift x
    .park).tell (.plan x)

/-- Queue WAKE: the lift enters WAKING (R122, R123). -/
def State.wakeLift (s : State) (x : Side) : State :=
  (s.updateLift x (fun l => { l with state := .waking, park := none, wake := some wakeLimit })).queueLift x .wake

/-- The lift becomes IDLE (R120, R122, R123, R128): a planning try; without a plan the park timer starts in RUN and HOLD,
and in CONFIG the lift is parked at once. -/
def State.becomeIdle (s : State) (x : Side) : State :=
  let timed := (s.lift x).pending.isNone && (s.mode == .run || s.mode == .hold) && s.parkIdle != 0
  let s1 := (s.updateLift x (fun l =>
    { l with state := .idle, wake := none, ask := none, awaitReady := false,
             park := if timed then some (10000 * s.parkIdle) else none })).tell (.plan x)
  if s.mode = .config ∧ (s.lift x).pending = none then s1.parkLift x else s1

/-- The next trip number: after 255 it is 1 (R107). -/
def nextTrip (c : Byte) : Byte := if c = 0xFF then 0x01 else c + 1

/-- The second byte of a stop in a TRIP frame (6.2.1). -/
def stopFlags (st : Stop) : Nat :=
  (if st.action = .unload then 1 else 0) + (if st.deck = .rear then 2 else 0) +
    (if isInbound st.place || isExitSpur st.place then 4 else 0)

/-- Send a plan as a trip (R112). -/
def State.sendTrip (s : State) (x : Side) (p : Plan) : State :=
  let n := nextTrip (s.lift x).counter
  let t : Trip :=
    { number := n, plan := p.mapStops (fun st => { st with outcome := .stillOpen }), phase := .moving,
      left := 10 * p.deadline, expired := false, jammed := none }
  (s.updateLift x (fun l =>
    { l with state := .onTrip, counter := n, trip := some t, pending := none, park := none, wake := none, ask := none,
             awaitReady := false })).queueLift x
    (.trip n (p.stops.map (fun st => (st.level, stopFlags st))))

/-- The pending plan of an IDLE lift is sent in RUN (R112, R123, R176); `none` where there is nothing to send. -/
def State.trySend (s : State) (x : Side) : Option State :=
  match (s.lift x).pending with
  | none => none
  | some p => if s.mode = .run ∧ (s.lift x).state = .idle then some (s.sendTrip x p) else none

/-- A plan is handed to the lift unit (R112, R122, R123). -/
def State.handPlan (s : State) (x : Side) (p : Plan) : State :=
  match (s.lift x).state with
  | .idle => s.sendTrip x p
  | .parked => (s.updateLift x (fun l => { l with pending := some p })).wakeLift x
  | _ => s.updateLift x (fun l => { l with pending := some p })

/-! ### The trip record (6.3.1) -/

/-- The index, from 0, of the current stop: the first OPEN one. -/
def Trip.current (t : Trip) : Option Nat := t.plan.stops.findIdx? (fun st => st.outcome == .stillOpen)

def Trip.stop (t : Trip) (i : Nat) : Option Stop := t.plan.stops[i]?

/-- End a stop: its claim and reservation are gone and the next OPEN stop is current and MOVING. -/
def Trip.endStop (t : Trip) (i : Nat) (o : StopOutcome) : Trip :=
  { t with
    phase := .moving
    plan := { t.plan with
      stops := t.plan.stops.modify i (fun st => { st with outcome := o, claim := none, reserved := false }) } }

def Lift.endStop (l : Lift) (i : Nat) (o : StopOutcome) : Lift :=
  { l with trip := l.trip.map (fun t => t.endStop i o) }

def State.endStop (s : State) (x : Side) (i : Nat) (o : StopOutcome) : State :=
  s.updateLift x (fun l => l.endStop i o)

def Lift.setPhase (l : Lift) (ph : StopPhase) : Lift := { l with trip := l.trip.map (fun t => { t with phase := ph }) }

/-- The deadline runs (R121): the trip is under way and its stop is not withheld for the mode. -/
def Lift.deadlineRuns (l : Lift) : Bool :=
  l.state == .onTrip && (match l.trip with | none => false | some t => !t.expired && t.phase != .waitingMode)

/-- The entry at position `k` of a place is the one a claim names, after `k` entries of it have been taken (R103). -/
def State.claimAt (s : State) (p k : Nat) : Option Claim → Bool
  | none => false
  | some (.card n) => (s.entries p)[k]? == some (.card n)
  | some (.foreign j) => j == k && (s.entries p)[k]? == some .foreign

/-- The head of the stop's place is the entry the stop claims (R103). -/
def State.claimHeads (s : State) (st : Stop) : Bool := s.claimAt st.place 0 st.claim

/-- The order guard of an exit unload is met (R104). -/
def State.guardMet (s : State) (x : Side) (st : Stop) : Bool :=
  match st.expected with
  | .foreign => true
  | .card n =>
    if st.guarded && s.sequenced n then (s.aheadInBound x n).all (fun m => s.inPhase m .inSpur) else true

/-- How a stop is decided (R113). -/
inductive Decision where
  | pass
  | waitMode
  | waitLane
  | proceed
deriving DecidableEq, Repr

/-- The tests of R113 in their order. -/
def State.decideStop (s : State) (x : Side) (st : Stop) : Decision :=
  match st.action with
  | .load =>
    if !s.admitsDepartures st.place then .pass
    else if (s.deck x st.deck).isSome || !s.claimHeads st then .pass
    else if s.mode ≠ .run then .waitMode
    else if isLane st.place ∧ (s.place st.place).lock = .shuttle then .waitLane
    else .proceed
  | .unload =>
    if !s.admitsArrivals st.place then .pass
    else if s.deck x st.deck ≠ some st.expected then .pass
    else if isExitSpur st.place && !s.guardMet x st then .pass
    else if s.mode ≠ .run then .waitMode
    else if isLane st.place ∧ (s.place st.place).lock = .shuttle then .waitLane
    else .proceed

/-- A STORE card on its way to its inbound lane turns back (R37, R115, R118). -/
def State.turnBack (s : State) (n p : Nat) (r : ReasonCode) : State :=
  s.updateContext n (fun c =>
    if c.kind = .store ∧ c.phase = .onCar then { c with phase := .returning, failure := some (r, byteOf p) } else c)

/-- What a passed stop held ends (R115). -/
def State.passHoldings (s : State) (x : Side) (st : Stop) : State :=
  match st.action with
  | .load => s
  | .unload =>
    let s1 := if st.reserved then s.unreserve st.place else s
    match st.expected with
    | .foreign => s1
    | .card n =>
      if isInbound st.place && s.deck x st.deck == some (.card n) then s1.turnBack n st.place .levelClosed else s1

/-- A stop ends PASSED with no PASS queued (R115, R128). -/
def State.passQuiet (s : State) (x : Side) (i : Nat) (st : Stop) : State :=
  (s.passHoldings x st).endStop x i .passed

/-- The number of a lift's trip record. -/
def State.tripNumber (s : State) (x : Side) : Byte := ((s.lift x).trip.map (·.number)).getD 0

/-- A stop decided PASS (R115). -/
def State.passStop (s : State) (x : Side) (i : Nat) (st : Stop) : State :=
  (s.passQuiet x i st).queueLift x (.pass (s.tripNumber x) (i + 1))

/-- A stop decided PROCEED (R114). -/
def State.proceedStop (s : State) (x : Side) (i : Nat) (st : Stop) : State :=
  ((if isLane st.place then s.lockLane st.place .lift else s).updateLift x (fun l => l.setPhase .transferring)).queueLift
    x (.proceed (s.tripNumber x) (i + 1))

/-- Take the decision on the current stop (R113). -/
def State.takeDecision (s : State) (x : Side) (i : Nat) (st : Stop) : Decision → State
  | .pass => s.passStop x i st
  | .waitMode => s.updateLift x (fun l => l.setPhase .waitingMode)
  | .waitLane => s.updateLift x (fun l => l.setPhase .waitingLane)
  | .proceed => s.proceedStop x i st

/-- An event that R116 names concerns a stop: at its own place, and for a change of the head a load. -/
def Prompt.concerns : Prompt → Stop → Bool
  | .running, _ => true
  | .place p, st => st.place == p
  | .head p, st => st.place == p && st.action == .load

/-- A WAITING stop is tested again at an event that concerns it (R116), while its lift is ON_TRIP (log 20); `none` where it goes
on waiting as it was. -/
def State.retest (s : State) (x : Side) (w : Prompt) : Option State :=
  match (s.lift x).state, (s.lift x).trip with
  | .onTrip, some t =>
    match t.current with
    | none => none
    | some i =>
      match t.stop i with
      | none => none
      | some st =>
        if !w.concerns st then none
        else
        match t.phase, s.decideStop x st with
        | .moving, _ => none
        | .transferring, _ => none
        | .waitingMode, .waitMode => none
        | .waitingLane, .waitLane => none
        | _, d => some (s.takeDecision x i st d)
  | _, _ => none

/-! ### Results of a stop (R117, R118) -/

/-- A card moved by a trip: its place, loaded stamp and trip number (R25, R26, R32, R35–R37). -/
def Context.moved (c : Context) (ph : Phase) (p : Nat) (t : Word) (trip : Byte) : Context :=
  { c with phase := if c.phase = .returning then .returning else ph, place := some p, loaded := t, trip := trip }

/-- Load OK (R117, R126): the claimed head goes to the deck. A load whose claim has ended or whose entry is no longer the
head puts FOREIGN on the deck (R126; log 22); a deck recorded occupied takes nothing more (log 23). -/
def State.loadOk (s : State) (x : Side) (st : Stop) (trip : Byte) : State :=
  let d := deckPlace x st.deck
  if (s.deck x st.deck).isSome then s
  else
    match s.claimHeads st, s.head st.place with
    | true, some e =>
      let s1 := (s.depart st.place).setEntries d [e]
      match e with
      | .foreign => s1
      | .card n => s1.updateContext n (fun c => c.moved .onCar d s.stamp trip)
    | _, _ => s.setEntries d [.foreign]

/-- Unload OK (R118): the deck's entry joins the place's tail. From a deck recorded empty nothing arrives, and a reservation that
stands is released (log 49, DESIGN CHOICE). -/
def State.unloadOk (s : State) (x : Side) (st : Stop) (trip : Byte) : State :=
  match s.deck x st.deck with
  | none => if st.reserved then s.unreserve st.place else s
  | some e =>
    let s1 := s.setEntries (deckPlace x st.deck) []
    let s2 := if st.reserved then s1.arriveReserved st.place e else s1.arrive st.place e
    match e with
    | .foreign => s2
    | .card n =>
      s2.updateContext n (fun c => c.moved (if c.kind = .store then .inLane else .inSpur) st.place s.stamp trip)

/-- The deck is found empty: its entry is removed and a card there fails LOST (R38, R118, R127). -/
def State.deckLost (s : State) (x : Side) (d : Deck) : State :=
  match s.deck x d with
  | none => s
  | some .foreign => s.setEntries (deckPlace x d) []
  | some (.card n) =>
    (s.setEntries (deckPlace x d) []).finishOrder n cardFailed .lost (byteOf (deckPlace x d))

/-- Unload BLOCKED (R118): the place is frozen and the tote stays on its deck. -/
def State.unloadBlocked (s : State) (x : Side) (st : Stop) : State :=
  let s1 := s.freeze st.place .unloadBlocked
  let s2 := if st.reserved then s1.unreserve st.place else s1
  match s.deck x st.deck with
  | some (.card n) => if isInbound st.place then s2.turnBack n st.place .blocked else s2
  | _ => s2

/-- The change that the result of a stop makes (R117, R118); JAM is taken by the caller. -/
def State.stopEffect (s : State) (x : Side) (st : Stop) (trip : Byte) : StopResult → State
  | .ok => match st.action with | .load => s.loadOk x st trip | .unload => s.unloadOk x st trip
  | .empty =>
    match st.action with
    | .load => s.freeze st.place .loadEmpty
    | .unload =>
      let s1 := s.deckLost x st.deck
      if st.reserved then s1.unreserve st.place else s1
  | .blocked =>
    match st.action with
    | .load => s.freeze st.place .loadEmpty
    | .unload => s.unloadBlocked x st
  | .jam => s

/-- The result of a stop acts, and the records of its deck and place are rewritten in the place mirror, changed or not (R117,
R118, R22). -/
def State.stopResult (s : State) (x : Side) (st : Stop) (trip : Byte) (r : StopResult) : State :=
  ((s.stopEffect x st trip r).writeMirror (deckPlace x st.deck)).writeMirror st.place

/-- Release the LIFT lock of a stop's lane (R8, R117). -/
def State.unlockStop (s : State) (st : Stop) : State :=
  if isLane st.place ∧ (s.place st.place).lock = .lift then s.unlockLane st.place else s

/-! ### Faults and loss of the link (R119, R124) -/

/-- The lift becomes FAULTED (R119): its trip record stays, a pending plan is discarded, timers stop, the queue empties. -/
def State.enterFaulted (s : State) (x : Side) : State :=
  (s.updateLift x (fun l =>
    { l.noQueue with state := .faulted, park := none, wake := none, ask := none, awaitReady := false })).discardPlan x

/-- The lift unit enters SYNCING (R125); from IDLE, PARKING, PARKED and WAKING a pending plan is discarded. -/
def State.enterSyncing (s : State) (x : Side) : State :=
  (s.updateLift x (fun l =>
    { l with state := .syncing, park := none, wake := none, ask := some 300, awaitReady := false })).discardPlan x

/-- A WAITING stop returns to MOVING (R124). -/
def Lift.unwait (l : Lift) : Lift :=
  { l with trip := l.trip.map (fun t =>
      if t.phase = .waitingMode ∨ t.phase = .waitingLane then { t with phase := .moving } else t) }

/-- The link lock is lost (R109, R124). -/
def State.loseLink (s : State) (x : Side) (detail : Byte) : State :=
  let wasOnTrip := (s.lift x).state == .onTrip
  ((s.raiseLift x .lostLock detail).updateLift x (fun l =>
    { (if wasOnTrip then l.unwait else l).noQueue with
      state := .offline, park := none, wake := none, silence := none, ask := none, awaitReady := false,
      needStatus := false })).discardPlan x

/-- The silence timer (R109). -/
def silenceLimit : Nat := 300

/-- A valid frame is heard: it keeps the link lock, or gains it, which enters SYNCING and queues STATE-ASK (R108, R109). -/
def State.hear (s : State) (x : Side) : State :=
  if (s.lift x).state = .offline then
    (((s.updateLift x (fun l => { l with silence := some silenceLimit, needStatus := true })).enterSyncing x)).queueLift x
      .stateAsk
  else s.updateLift x (fun l => { l with silence := some silenceLimit })

/-! ### Reconciliation (R126–R128) -/

/-- The presence a STATE reports for a deck. -/
def presence (front rear : Bool) : Deck → Bool
  | .front => front
  | .rear => rear

/-- The result a stop is settled as, from the presence reported for its deck (R126). -/
def settledAs : Action → Bool → StopResult
  | .load, true => .ok
  | .load, false => .empty
  | .unload, false => .ok
  | .unload, true => .blocked

/-- Settle one stop from the deck's reported presence, with the full effects of the result (R126). -/
def State.settleStop (s : State) (x : Side) (i : Nat) (st : Stop) (trip : Byte) (occupied : Bool) : State :=
  (s.stopResult x st trip (settledAs st.action occupied)).endStop x i .settled

/-- Settling a stop puts a FOREIGN entry that no claim names on its deck (R126). -/
def State.settleAdds (s : State) (x : Side) (st : Stop) (occupied : Bool) : Bool :=
  st.action == .load && occupied && (s.deck x st.deck).isNone && !s.claimHeads st

/-- Settle, in index order, the stops up to the last completed one that are still OPEN (R126); the mark says whether a
FOREIGN entry was put on a deck. -/
def State.settleStops (s : State) (x : Side) (front rear : Bool) : List Nat → State × Bool
  | [] => (s, false)
  | i :: is =>
    match ((s.lift x).trip.bind (fun t => (t.stop i).map (fun st => (t.number, st)))) with
    | none => s.settleStops x front rear is
    | some (n, st) =>
      let here := presence front rear st.deck
      let r := (s.settleStop x i st n here).settleStops x front rear is
      (r.1, s.settleAdds x st here || r.2)

/-- The stops that R126 settles: the STATE names the trip record's number, and they are OPEN and completed. -/
def State.settled (s : State) (x : Side) (trip : Byte) (last : Nat) : List Nat :=
  match (s.lift x).trip with
  | none => []
  | some t =>
    if t.number = trip then
      (List.range last).filter (fun i => ((t.stop i).map (fun st => st.outcome == .stillOpen)).getD false)
    else []

/-- Release every LIFT lock held by the trip (R126). -/
def State.unlockTrip (s : State) (x : Side) : State :=
  match (s.lift x).trip with
  | none => s
  | some t => t.plan.stops.foldl (fun u st => u.unlockStop st) s

/-- Check one deck against the presence reported, and write its mirror record, changed or not (R127, R22). -/
def State.checkDeck (s : State) (x : Side) (d : Deck) (occupied : Bool) : State :=
  let t := match s.deck x d, occupied with
    | some _, false => s.deckLost x d
    | none, true => s.setEntries (deckPlace x d) [.foreign]
    | _, _ => s
  t.writeMirror (deckPlace x d)

/-- The deck check adds a FOREIGN entry (R127). -/
def State.checkAdds (s : State) (x : Side) (d : Deck) (occupied : Bool) : Bool := (s.deck x d).isNone && occupied

/-- The deck check fails a card (R127). -/
def State.checkFails (s : State) (x : Side) (d : Deck) (occupied : Bool) : Bool :=
  match s.deck x d with
  | some (.card _) => !occupied
  | _ => false

/-- The remaining stops that are not impossible (R105, R128): a load is, where its deck is now occupied. Unloads and the claims
of loads are judged in order from the level reported: with the decks `front` and `rear` as the kept stops before leave them, and
the places as the kept loads before leave them (log 24). -/
def State.keptStops (s : State) (x : Side) (level : Nat) :
    List (Nat × Stop) → Option Entry → Option Entry → List Nat → List Nat
  | [], _, _, _ => []
  | (i, st) :: rest, front, rear, taken =>
    let with' (e : Option Entry) : Option Entry × Option Entry :=
      match st.deck with | .front => (e, rear) | .rear => (front, e)
    match st.action with
    | .load =>
      let k := (taken.filter (fun p => p == st.place)).length
      if (s.deck x st.deck).isSome || !s.claimAt st.place k st.claim || (isEntrySpur st.place && level != 0) then
        s.keptStops x level rest front rear taken
      else
        i :: s.keptStops x level rest (with' (some st.expected)).1 (with' (some st.expected)).2 (st.place :: taken)
    | .unload =>
      if (match st.deck with | .front => front | .rear => rear) ≠ some st.expected then
        s.keptStops x level rest front rear taken
      else i :: s.keptStops x level rest (with' none).1 (with' none).2 taken

/-- The OPEN stops of a trip with their indexes. -/
def Trip.openStops (t : Trip) : List (Nat × Stop) :=
  (t.plan.stops.zipIdx.filter (fun p => p.1.outcome == .stillOpen)).map (fun p => (p.2, p.1))

/-- End as passed, with no PASS queued, the OPEN stops whose index is not kept (R128). -/
def State.passOthers (s : State) (x : Side) (kept : List Nat) : List (Nat × Stop) → State
  | [] => s
  | (i, st) :: rest =>
    (if i ∈ kept then s else s.passQuiet x i st).passOthers x kept rest

/-- The trip record becomes none and READY is awaited (R128). -/
def State.endTripAwaitReady (s : State) (x : Side) : State :=
  s.updateLift x (fun l => { l with trip := none, awaitReady := true, ask := none })

/-- What follows the deck check (R128); the mark says whether a remainder trip was issued. The remainder keeps the kind of the
interrupted trip (log 46, DESIGN CHOICE), and a CLEAR for a lift that stands above level 0 with no trip at all names 00h
(log 47, DESIGN CHOICE). -/
def State.afterCheck (s : State) (x : Side) (level : Nat) (trip : Byte) : State × Bool :=
  match (s.lift x).trip with
  | none =>
    if trip ≠ 0 ∨ level ≠ 0 then ((s.endTripAwaitReady x).queueLift x (.clear trip), false)
    else (s.becomeIdle x, false)
  | some t =>
    let named := if trip = 0 then t.number else trip
    if s.mode = .run then
      let kept := s.keptStops x level t.openStops (s.deck x .front) (s.deck x .rear) []
      let s1 := (s.passOthers x kept t.openStops).queueLift x (.clear named)
      let left := (((s1.lift x).trip.map (·.plan.stops)).getD []).filter (fun (st : Stop) => st.outcome == .stillOpen)
      if left.isEmpty then (s1.endTripAwaitReady x, false)
      else (s1.sendTrip x (s1.planOf t.plan.kind level left), true)
    else (((s.passOthers x [] t.openStops).endTripAwaitReady x).queueLift x (.clear named), false)

/-- Reconcile a STATE without a fault code: R126, R127, R128 in one event. -/
def State.reconcile (s : State) (x : Side) (level : Nat) (front rear : Bool) (trip : Byte) (last : Nat) : State :=
  let idx := s.settled x trip last
  let r0 := s.settleStops x front rear idx
  let s1 := r0.1.unlockTrip x
  let added := r0.2 || s1.checkAdds x .front front || s1.checkAdds x .rear rear
  let failed := s1.checkFails x .front front || s1.checkFails x .rear rear
  let s2 := (s1.checkDeck x .front front).checkDeck x .rear rear
  let r := s2.afterCheck x level trip
  let d := bit (!idx.isEmpty) 0x01 ||| bit failed 0x02 ||| bit added 0x04 ||| bit r.2 0x08
  if d = 0 then r.1 else r.1.raiseLift x .reconciled d

end Sys2Proof.Machine
end

