-- ==== Sys2Proof/Machine/PlaceMap.lean ====
section
/-! DEFINITION. Changes of the whole place map: its contents at INIT, FLUSH, COMMIT and the loss of the profile
(R1, R14, R15, R22). -/

namespace Sys2Proof.Machine

/-- The sensed count of a spur: its count input, at most the capacity (R10). -/
def State.spurSensed (s : State) (p : Nat) : Nat := min 3 ((s.lines.spurCounts[p - 160]?).getD 0)

/-- A spur rebuilt from its count input (R14, R15). -/
def State.rebuiltSpur (s : State) (p : Nat) (q : Place) : Place :=
  { q.rebuilt (s.spurSensed p) with sensed := some (s.spurSensed p) }

/-- Replace every place record by a function of its number and old record. -/
def State.mapPlaces (s : State) (f : Nat → Place → Place) : State := { s with places := s.places.mapIdx f }

/-- The mirror records of places `from` to `from + n - 1`, one after another. -/
def State.mirrorBlock (s : State) (first n : Nat) : List Byte :=
  (List.range n).flatMap (fun k => s.mirrorRecord (first + k))

/-- Write the mirror records of `n` places from `first` on, changed or not (R22). -/
def State.writeMirrors (s : State) (first n : Nat) : State :=
  s.setMem (Memory.write s.board.mem (0x3000 + 8 * first) (s.mirrorBlock first n))

/-- Copy to the mirror what has changed at the lanes and spurs since `old` (R21). -/
def State.syncMirrors (s old : State) : State := (List.range 164).foldl (fun t p => t.copyMirror old p) s

/-! ### INIT (R1, R15, R129, R171) -/

/-- The record of place `p` as INIT leaves it. -/
def State.initPlace (s : State) (p : Nat) : Place :=
  if isLane p then
    { fitted := s.fits p, retired := s.hasProfile && slotsRetire s.store.judged s.levels p, awaiting := true }
  else if isSpur p then s.rebuiltSpur p {}
  else if p = divert then { entries := if s.lines.entryArrive then [.foreign] else [] }
  else {}

/-- The place map as INIT leaves it, with every mirror record written (R22). -/
def State.initPlaces (s : State) : State := (s.mapPlaces (fun p _ => s.initPlace p)).writeMirrors 0 169

/-- At the end of INIT the spurs and the divert are taken from their inputs (R15, R129; log 9). -/
def State.rereadInputs (s : State) : State :=
  (List.range 9).foldl (fun t k => if isSpur (160 + k) ∨ 160 + k = divert then t.setPlace (160 + k) (t.initPlace (160 + k)) else t) s

/-! ### FLUSH (R15) -/

/-- A card entry becomes FOREIGN in place (R2). -/
def Place.noCards (q : Place) : Place := { q with entries := q.entries.map Entry.toForeign }

/-- The record of place `p` after FLUSH (R15, R47). Where only some lanes of an ALIVE level await rebuild, each lane is decided by
its own mark (log 42, DESIGN CHOICE). -/
def State.flushedPlace (s : State) (p : Nat) (q : Place) : Place :=
  if isLane p then
    if s.alive (laneLevel p) && !q.awaiting then q.rebuilt (q.sensed.getD 0) else q.emptied
  else if isSpur p then s.rebuiltSpur p q
  else q.noCards

/-- FLUSH rebuilds or empties every place, the decks and the divert among them (R15), and rewrites its record (R22). -/
def State.flushPlaces (s : State) : State := (s.mapPlaces s.flushedPlace).writeMirrors 0 169

/-! ### COMMIT and ERASE (R1, R15, R173, R174) -/

/-- The record of place `p` when the new profile has become active (R173). -/
def State.committedPlace (s : State) (p : Nat) (q : Place) : Place :=
  if isLane p then
    { q.emptied with fitted := s.fits p, retired := slotsRetire s.store.judged s.levels p, retiring := false }
  else if isSpur p then s.rebuiltSpur p q
  else q

def State.commitPlaces (s : State) : State := (s.mapPlaces s.committedPlace).writeMirrors 0 164

/-- The record of place `p` when there is no active profile any more (R1, R11). With `clears` the retired flag is
cleared too (R174). -/
def lostPlace (clears : Bool) (p : Nat) (q : Place) : Place :=
  if isLane p then
    { q with entries := [], res := 0, lock := .none, fitted := false, mismatch := none,
             retired := if clears then false else q.retired, retiring := if clears then false else q.retiring }
  else { q with mismatch := none }

def State.losePlaces (s : State) (clears : Bool) : State := (s.mapPlaces (lostPlace clears)).syncMirrors s

/-- Plans not yet sent are discarded, and every held ask and open grant goes (R72, R90, R173). A lift left IDLE without its plan
is neither parked nor timed for it (log 51, DESIGN CHOICE). -/
def State.dropWork (s : State) : State :=
  let t := (s.discardPlan .a).discardPlan .b
  { t with handover := { held := [], grants := Vector.replicate 40 none } }

/-- A profile becomes active by COMMIT (R173). -/
def State.adoptProfile (s : State) (record : List Byte) : State :=
  let t := s.dropWork
  ((t.setStore { t.store with active := some record }).commitPlaces).startChain

/-- There is no active profile any more (R173, R174). -/
def State.loseProfile (s : State) (clears : Bool) : State :=
  let t := s.dropWork
  ((t.setStore { t.store with active := none }).losePlaces clears).silenceChain

end Sys2Proof.Machine
end

