-- ==== Sys2Proof/Machine/Planner.lean ====
section
/-! DEFINITION. The trip planner (chapter 5): the three planning rules, the stop order, the detour test, and the planning
try that reserves, claims and hands the plan to the lift unit. -/

namespace Sys2Proof.Machine

/-! ### Terms (R92) -/

/-- The free decks of a lift, front first. -/
def State.freeDecks (s : State) (x : Side) : List Deck := [Deck.front, Deck.rear].filter (fun d => (s.deck x d).isNone)

/-- The exit room of a side. -/
def State.exitRoom (s : State) (x : Side) : Nat :=
  if s.admitsArrivals (exitSpur x) then 3 - (s.entries (exitSpur x)).length - (s.place (exitSpur x)).res else 0

/-- A deck's entry is order-held. -/
def State.orderHeld (s : State) (x : Side) (d : Deck) : Bool :=
  match s.deck x d with
  | some (.card n) =>
    s.sequenced n &&
      (s.aheadInBound x n).any (fun m => !s.inPhase m .inSpur && s.deck x (otherDeck d) != some (.card m))
  | _ => false

/-- The claims of the stops a lift holds, each with its place (R102). -/
def Lift.claims (l : Lift) : List (Nat × Claim) :=
  (((l.trip.map (·.plan.stops)).getD []) ++ ((l.pending.map (·.stops)).getD [])).filterMap
    (fun st => st.claim.map (fun c => (st.place, c)))

/-- The entry at position `k` of a place is claimed (R102). -/
def State.claimed (s : State) (x : Side) (p k : Nat) : Entry → Bool
  | .card n => (s.lift x).claims.any (fun c => c.2 == .card n)
  | .foreign => (s.lift x).claims.any (fun c => c == (p, .foreign k))

/-- An entry chosen for a trip: its lane, position and entry. -/
structure Pick where
  place : Nat
  position : Nat
  entry : Entry
deriving DecidableEq, Repr

/-- The offered head of an outbound lane. -/
def State.offeredHead (s : State) (x : Side) (p : Nat) : Option Entry :=
  match s.head p with
  | none => none
  | some e => if s.admitsDepartures p && !s.claimed x p 0 e then some e else none

/-- The destination lane of a STORE card (R92). -/
def destination (c : Context) (x : Side) : Nat := inLaneOf c.level x

/-! ### Stops (R90, R102) -/

/-- The claim of a load on an entry at a position (R102). -/
def claimOf (k : Nat) : Entry → Claim
  | .card n => .card n
  | .foreign => .foreign k

def loadStop (level p : Nat) (d : Deck) (k : Nat) (e : Entry) : Stop :=
  { level := level, place := p, action := .load, deck := d, claim := some (claimOf k e), expected := e,
    reserved := false, guarded := false, outcome := .stillOpen }

def unloadStop (level p : Nat) (d : Deck) (e : Entry) (guarded : Bool) : Stop :=
  { level := level, place := p, action := .unload, deck := d, claim := none, expected := e,
    reserved := true, guarded := guarded, outcome := .stillOpen }

/-- An unload at the exit spur; a sequenced, not demoted card carries an order guard (R104). -/
def State.exitUnload (s : State) (x : Side) (d : Deck) (e : Entry) : Stop :=
  unloadStop 0 (exitSpur x) d e (s.seqEntry e)

/-! ### First rule (R93) -/

/-- The carried-back totes of a lift, front deck first. -/
def State.carried (s : State) (x : Side) : List (Deck × Entry) :=
  [Deck.front, Deck.rear].filterMap (fun d =>
    match s.deck x d with
    | none => none
    | some e => if s.orderHeld x d then none else some (d, e))

/-- Card `m` stands before card `n` in bound list X. -/
def State.boundBefore (s : State) (x : Side) (m n : Nat) : Bool := (s.aheadInBound x n).contains m

/-- The order of the unloads (R93): front first, but of two sequenced cards the one earlier in the bound list. -/
def State.carriedOrder (s : State) (x : Side) : List (Deck × Entry) → List (Deck × Entry)
  | [(d1, .card m), (d2, .card n)] =>
    if s.sequenced m && s.sequenced n && s.boundBefore x n m then [(d2, .card n), (d1, .card m)]
    else [(d1, .card m), (d2, .card n)]
  | ds => ds

def State.carryBackPlan (s : State) (x : Side) : Option Plan :=
  if (s.carried x).length ≤ s.exitRoom x then
    some (s.planOf .carryBack 0 ((s.carriedOrder x (s.carried x)).map (fun p => s.exitUnload x p.1 p.2)))
  else none

/-! ### Second rule (R94) -/

/-- The head of the entry spur is to be turned back (R94). -/
def State.turnsBack (s : State) (x : Side) : Entry → Bool
  | .foreign => true
  | .card n =>
    match s.ctx n with
    | none => false
    | some c => c.kind == .store && c.phase == .inSpur && !s.admitsArrivals (destination c x)

/-- The entry head the second rule applies to. -/
def State.turnBackHead (s : State) (x : Side) : Option Entry :=
  match s.head (entrySpur x) with
  | none => none
  | some e => if s.admitsDepartures (entrySpur x) && s.turnsBack x e then some e else none

def State.turnBackPlan (s : State) (x : Side) (e : Entry) : Option Plan :=
  match s.freeDecks x with
  | [] => none
  | d :: _ =>
    if s.exitRoom x = 0 then none
    else some (s.planOf .turnBack 0 [loadStop 0 (entrySpur x) d 0 e, s.exitUnload x d e])

/-! ### Third rule: the outbound choice (R95, R96) -/

/-- n1: the first entry of bound list X that is GRANTED or IN_LANE (R95). -/
def State.n1 (s : State) (x : Side) : Option Nat :=
  (s.release.bound.get x).find? (fun n => s.inPhase n .granted || s.inPhase n .inLane)

/-- The entry after a card in bound list X (R96). -/
def State.nextBound (s : State) (x : Side) (n : Nat) : Option Nat :=
  (((s.release.bound.get x).dropWhile (fun m => m != n)).tail).head?

/-- The lane of an IN_LANE card. -/
def State.laneOfCard (s : State) (n : Nat) : Option Nat :=
  if s.inPhase n .inLane then (s.ctx n).bind (·.place) else none

/-- The sequenced part of the choice: R95 steps 1 and 2, and R96 step 1. -/
def State.sequencedPicks (s : State) (x : Side) (room : Nat) : List Pick :=
  match s.n1 x with
  | none => []
  | some n =>
    match s.laneOfCard n with
    | none => []
    | some p =>
      match s.offeredHead x p with
      | none => []
      | some h =>
        if h = .card n then
          let second : List Pick :=
            match s.nextBound x n with
            | none => []
            | some m =>
              match s.laneOfCard m with
              | none => []
              | some q =>
                if s.offeredHead x q = some (.card m) then [⟨q, 0, .card m⟩]
                else if q = p ∧ (s.entries p)[1]? = some (.card m) ∧ s.claimed x p 1 (.card m) = false then
                  [⟨p, 1, .card m⟩]
                else []
          (⟨p, 0, .card n⟩ :: second).take room
        else if (s.entries p)[1]? = some (.card n) ∧ s.seqEntry h = false then
          ([⟨p, 0, h⟩, ⟨p, 1, .card n⟩] : List Pick).take room
        else []

/-- An unsequenced entry (R96). -/
def State.unsequenced (s : State) (e : Entry) : Bool := !s.seqEntry e

/-- The unsequenced candidates of one lane (R96 step 2): its offered head, or the entry second behind a chosen head. -/
def State.laneCandidates (s : State) (x : Side) (chosen : List Pick) (p : Nat) : List Pick :=
  if s.admitsDepartures p then
    match s.entries p with
    | [] => []
    | e0 :: es =>
      if chosen.any (fun k => k.place == p && k.position == 0) then
        match es with
        | [] => []
        | e1 :: _ =>
          if chosen.any (fun k => k.place == p && k.position == 1) || s.claimed x p 1 e1 then []
          else if s.unsequenced e1 then [⟨p, 1, e1⟩] else []
      else if s.unsequenced e0 && !s.claimed x p 0 e0 then [⟨p, 0, e0⟩] else []
  else []

/-- The age of a card at the try (R96). -/
def State.age (s : State) (n : Nat) : Nat := ((s.ctx n).map (fun c => (s.board.clock - c.loaded).toNat)).getD 0

/-- Candidate `a` is taken before `b`, the two standing in this order of level (R96): FOREIGN first, then the oldest. -/
def State.before (s : State) (a b : Pick) : Bool :=
  match a.entry, b.entry with
  | .foreign, _ => true
  | .card _, .foreign => false
  | .card m, .card n => decide (s.age n ≤ s.age m)

/-- The best of the candidates, given in ascending level. -/
def State.bestPick (s : State) : List Pick → Option Pick
  | [] => none
  | p :: ps =>
    match s.bestPick ps with
    | none => some p
    | some q => if s.before p q then some p else some q

/-- Fill `k` remaining choices with unsequenced heads (R96 step 2). -/
def State.fillPicks (s : State) (x : Side) : Nat → List Pick → List Pick
  | 0, chosen => chosen
  | k + 1, chosen =>
    match s.bestPick ((List.range 40).flatMap (fun l => s.laneCandidates x chosen (outLane (l + 1) x))) with
    | none => chosen
    | some p => s.fillPicks x k (chosen ++ [p])

/-- The outbound choice (R95, R96): at most L totes, in the order chosen. -/
def State.outboundChoice (s : State) (x : Side) : List Pick :=
  let room := min (s.freeDecks x).length (s.exitRoom x)
  let first := s.sequencedPicks x room
  s.fillPicks x (room - first.length) first

/-! ### Third rule: the inbound choice (R97) -/

/-- A STORE card of the entry spur with its destination lane, if it may go there now. -/
def State.inboundCard (s : State) (x : Side) : Option Entry → Option (Nat × Nat)
  | some (.card n) =>
    match s.ctx n with
    | none => none
    | some c =>
      if c.kind = .store ∧ c.phase = .inSpur ∧ s.admitsArrivals (destination c x) = true then
        some (n, destination c x)
      else none
  | _ => none

/-- The inbound candidates e1, e2 with their destination lanes (R97). -/
def State.inboundCandidates (s : State) (x : Side) : List (Nat × Nat) :=
  if s.admitsDepartures (entrySpur x) && !(s.freeDecks x).isEmpty then
    match s.inboundCard x (s.head (entrySpur x)) with
    | none => []
    | some (n, p) =>
      if s.hasRoom p && !s.claimed x (entrySpur x) 0 (.card n) then
        match s.inboundCard x ((s.entries (entrySpur x))[1]?) with
        | none => [(n, p)]
        | some (m, q) =>
          if (s.freeDecks x).length = 2 ∧ s.claimed x (entrySpur x) 1 (.card m) = false ∧
              (s.entries q).length + (s.place q).res + (if q = p then 1 else 0) < capacity q then [(n, p), (m, q)]
          else [(n, p)]
      else []
  else []

/-! ### Stop order and the detour test (R98, R99) -/

/-- The deck of the tote chosen or loaded as number `i`: the first free deck, then the rear deck (R99). -/
def deckFor (free : List Deck) : Nat → Deck
  | 0 => free.head?.getD .front
  | _ => .rear

/-- Group 2: ascending level, e1 first at equal level (R99). -/
def inboundOrder : List (Nat × (Nat × Nat)) → List (Nat × (Nat × Nat))
  | [a, b] => if laneLevel b.2.2 < laneLevel a.2.2 then [b, a] else [a, b]
  | l => l

/-- Group 3: descending level, head first within one lane (R99). -/
def outboundOrder : List (Nat × Pick) → List (Nat × Pick)
  | [a, b] => if laneLevel a.2.place < laneLevel b.2.place then [b, a] else [a, b]
  | l => l

/-- Number the elements of a list from 0. -/
def numbered {α : Type} (l : List α) : List (Nat × α) := l.zipIdx.map (fun p => (p.2, p.1))

/-- The order-held decks whose tote a trip with these choices may take out (R98). -/
def State.heldOut (s : State) (x : Side) (picks : List Pick) : List (Deck × Entry) :=
  [Deck.front, Deck.rear].filterMap (fun d =>
    match s.deck x d with
    | some (.card n) =>
      if s.orderHeld x d && decide (picks.length < s.exitRoom x) &&
          (s.aheadInBound x n).all (fun m => s.inPhase m .inSpur || picks.any (fun k => k.entry == .card m)) then
        some (d, .card n)
      else none
    | _ => none)

/-- The stops of a NORMAL trip in the order of R99. -/
def State.normalStops (s : State) (x : Side) (picks : List Pick) (inb : List (Nat × Nat)) : List Stop :=
  let free := s.freeDecks x
  (numbered inb).map (fun p => loadStop 0 (entrySpur x) (deckFor free p.1) p.1 (.card p.2.1)) ++
  (inboundOrder (numbered inb)).map (fun p =>
    unloadStop (laneLevel p.2.2) p.2.2 (deckFor free p.1) (.card p.2.1) false) ++
  (outboundOrder (numbered picks)).map (fun p =>
    loadStop (laneLevel p.2.place) p.2.place (deckFor free p.1) p.2.position p.2.entry) ++
  (numbered picks).map (fun p => s.exitUnload x (deckFor free p.1) p.2.entry) ++
  (s.heldOut x picks).map (fun p => s.exitUnload x p.1 p.2)

/-- The detour of an inbound set is at most DETOUR; the difference is signed (R98). -/
def State.detourPasses (s : State) (x : Side) (picks : List Pick) (inb : List (Nat × Nat)) : Bool :=
  decide (s.estimate 0 (s.normalStops x picks inb) ≤ s.estimate 0 (s.normalStops x picks []) + s.detour)

/-- The inbound set a NORMAL trip carries (R98). -/
def State.inboundSet (s : State) (x : Side) (picks : List Pick) (inb : List (Nat × Nat)) : List (Nat × Nat) :=
  if picks.isEmpty || s.detourPasses x picks inb then inb
  else if s.detourPasses x picks (inb.take 1) then inb.take 1
  else []

def State.normalPlan (s : State) (x : Side) : Option Plan :=
  let picks := s.outboundChoice x
  let inb := s.inboundSet x picks (s.inboundCandidates x)
  if picks.isEmpty && inb.isEmpty then none else some (s.planOf .normal 0 (s.normalStops x picks inb))

/-! ### The planning try (R91) -/

/-- The plan the three rules yield, if any (R91): while a carried-back tote stands no other rule is tried (R93), and an
entry head to turn back lets no other trip be planned (R94; log 29). -/
def State.planFor (s : State) (x : Side) : Option Plan :=
  if !(s.carried x).isEmpty then s.carryBackPlan x
  else
    match s.turnBackHead x with
    | some e => s.turnBackPlan x e
    | none => s.normalPlan x

/-- A STORE card planned by the second rule enters RETURNING (R35, R37, R94). -/
def State.planReturns (s : State) (x : Side) (p : Plan) : State :=
  match p.kind, p.stops with
  | .turnBack, st :: _ =>
    match st.expected with
    | .foreign => s
    | .card n =>
      s.updateContext n (fun c =>
        { c with phase := .returning, failure := some (.levelClosed, byteOf (destination c x)) })
  | _, _ => s

/-- A plan's reservations (R102). -/
def State.reservePlan (s : State) (p : Plan) : State :=
  p.stops.foldl (fun t st => if st.reserved then t.reserve st.place else t) s

/-- The lift can take a plan (R91). -/
def Lift.plannable (l : Lift) : Bool :=
  (l.state == .idle || l.state == .parking || l.state == .parked) && l.pending.isNone && l.trip.isNone

/-- A planning try for a lift (R91); `none` where no plan is made. -/
def State.tryPlan (s : State) (x : Side) : Option State :=
  if s.mode = .run ∧ s.hasProfile = true ∧ (s.lift x).plannable = true then
    match s.planFor x with
    | none => none
    | some p => some (((s.planReturns x p).reservePlan p).handPlan x p)
  else none

end Sys2Proof.Machine
end

