-- ==== Sys2Proof/Machine/Settle.lean ====
section
/-! DEFINITION. One event: its own change, then every neighbour that was told of a change acts before the event ends, in
an order the manual does not give (R7, R9, R51, R57, R91, R176; log 5). -/

namespace Sys2Proof.Machine

/-- The try of one neighbour; `none` where it does nothing. -/
def State.runRetry (s : State) : Retry → Option State
  | .walk => s.walk
  | .merge => s.tryMerge
  | .plan x => s.tryPlan x
  | .stop x w => s.retest x w
  | .send x => s.trySend x
  | .divert => s.divertChoice
  | .reject => s.tryReject

/-- The neighbours told whose try would do something now. -/
def State.ready (s : State) : List Retry := s.wake.filter (fun r => (s.runRetry r).isSome)

/-- Let neighbour `r` act: it is no longer waiting to be told, and its own changes are told in turn. -/
def State.act (s : State) (r : Retry) : State :=
  let t := { s with wake := s.wake.filter (fun q => q != r) }
  (t.runRetry r).getD t

/-- Two or more neighbours can act: which is first is a free value (log 5). -/
def State.pick (s : State) (rs : List Retry) (r : Retry) : Retry :=
  (rs[Config.freeOrder s.freeCount % rs.length]?).getD r

/-- Let the neighbours act until none of those told can; then nobody is left waiting. An action uses up a held ask, a plan
to be made or sent, a stop's wait, the merge or the divert, so the bound is never reached (log 5). -/
def State.settle : Nat → State → State
  | 0, s => { s with wake := [] }
  | k + 1, s =>
    match s.ready with
    | [] => { s with wake := [] }
    | [r] => State.settle k (s.act r)
    | r :: q :: rs =>
      State.settle k (State.act { s with freeCount := s.freeCount + 1 } (s.pick (r :: q :: rs) r))

/-- The bound of `settle`. -/
def settleBound : Nat := 256

/-- The state after every neighbour told has acted. -/
def State.resolved (s : State) : State := State.settle settleBound s

/-- The outcome of a meaning: the machine goes on. -/
abbrev Result := Host.Outcome State Fault Refusal

/-- An event taken in every mode. -/
def State.event (s : State) (f : State → State) : Result := .next (f s.begin).resolved

/-- An event that the machine takes unless it is in INIT, where it changes nothing (R155, R178, R179; log 9). -/
def State.live (s : State) (f : State → State) : Result :=
  s.event (fun t => if t.mode = .init then t else f t)

end Sys2Proof.Machine
end

