-- ==== Sys2Proof/Machine/System.lean ====
section
/-! DEFINITION. Power-on, RESET, the end of INIT, E-STOP, and the requests to mode control (10.4, 10.5). -/

namespace Sys2Proof.Machine

/-! ### Shared operations of mode control -/

/-- A change of mode latches MODE (R165, R176); the mode echo is a view of the mode. -/
def State.changeMode (s : State) (m : Mode) : State :=
  { s with mode := m, board := { s.board with latchMode := true } }

/-- A refused request latches REFUSED (R164, R176). -/
def State.refuseRequest (s : State) : State := s.setBoard { s.board with latchRefused := true }

/-- Whoever tests the mode is told that it became RUN (R176). -/
def toldRun : List Retry :=
  [.walk, .merge, .plan .a, .plan .b, .stop .a .running, .stop .b .running, .send .a, .send .b, .divert, .reject]

def State.enterRun (s : State) : State := (s.changeMode .run).tellAll toldRun

/-- An idle lift is parked when the mode becomes CONFIG; a plan it still holds is discarded first (R122, R176). -/
def State.parkWhenIdle (s : State) (x : Side) : State :=
  if (s.lift x).state = .idle then (s.discardPlan x).parkLift x else s

def State.enterConfig (s : State) : State := ((s.changeMode .config).parkWhenIdle .a).parkWhenIdle .b

/-- A COMMIT or ERASE is in flight. -/
def State.profileBusy (s : State) : Bool :=
  match s.store.op with
  | none => false
  | some o => match o.work with | .retire _ _ => false | .commit _ => true | .erase => true

/-- A RETRIEVE or STORE card is open (R176). -/
def State.anyOpen (s : State) : Bool := (s.findOpen (fun _ => true)).isSome

/-- A request for RUN (R176). -/
def State.requestedRun (s : State) : State :=
  match s.mode with
  | .init => s
  | .run => s
  | .config => if !s.hasProfile || s.lines.eStop || s.profileBusy then s.refuseRequest else s.enterRun
  | .hold => if s.lines.eStop then s.refuseRequest else s.enterRun

/-- A request for HOLD (R176). -/
def State.requestedHold (s : State) : State :=
  match s.mode with
  | .init => s
  | .config => s.refuseRequest
  | .run => s.changeMode .hold
  | .hold => s

/-- A request for CONFIG (R176). -/
def State.requestedConfig (s : State) : State :=
  match s.mode with
  | .init => s
  | .config => s
  | .run => s.refuseRequest
  | .hold => if s.anyOpen then s.refuseRequest else s.enterConfig

/-! ### INIT (R178) -/

/-- What a store operation that was cut short leaves in the profile area: a free value that fails item 1 of its check, or the
whole record where the cut fell after its last byte (R170, R171; log 11). -/
def cutProfile (k : Nat) (whole : Option (List Byte)) : List Byte :=
  let r := (List.range 138).map (Config.cutProfileByte k)
  if checkRecord r == some 1 || some r == whole then r else erasedRecord

/-- Slot `j` after an ERASE cut short: a free value (R171; log 11). -/
def cutSlot (k j : Nat) : Slot :=
  ⟨Config.cutSlotByte k j 0, Config.cutSlotByte k j 1, Config.cutSlotByte k j 2, Config.cutSlotByte k j 3⟩

/-- A spoiled slot (10.2) in place of a value that is not spoiled. -/
def spoiled (x : Slot) : Slot := if slotIsSpoiled x then x else slotSpoiled

/-- The store when INIT begins: an operation in flight ends where it stood (R171). -/
def Store.cut (st : Store) (k : Nat) : Store :=
  match st.op with
  | none => st
  | some o =>
    match o.work with
    | .commit copy => { st with profile := cutProfile k (some copy), op := none }
    | .erase => { st with profile := cutProfile k none, slots := Vector.ofFn (fun j => cutSlot k j.val), op := none }
    | .retire _ j => { st with slots := st.slots.setIfInBounds j (spoiled (cutSlot k j)), op := none }

/-- INIT loads the stored profile where it is valid (R171). -/
def Store.loaded (st : Store) : Store :=
  { st with active := if (checkRecord st.profile).isNone then some st.profile else none, noProfileDue := false }

/-- INIT begins: everything but the queue, the input lines, the store's areas and the kept memory becomes what State.reset
holds, and the place map is written (R178). -/
def State.initialise (s : State) (aisle : BitVec 6) (kept : List Host.Cell) : State :=
  State.initPlaces
    { State.reset with
      pending := s.pending
      freeCount := if s.store.op.isSome then s.freeCount + 1 else s.freeCount
      lines := s.lines
      board := { State.reset.board with aisle := aisle, mem := kept }
      store := (s.store.cut s.freeCount).loaded }

/-! ### The meanings -/

/-- POWER_ON (R178): the whole exchange memory is cleared. -/
def execPowerOn (aisle : BitVec 6) (s : State) : Result := s.event (fun t => t.initialise aisle [])

/-- RESET (R178): 0000h–3FFFh is cleared and the free range is kept. -/
def execReset (aisle : BitVec 6) (s : State) : Result :=
  s.event (fun t => t.initialise aisle (t.board.mem.filter (fun c => decide (0x4000 ≤ c.1))))

/-- INIT_END (R178): the mode becomes CONFIG, CAUSE holds MODE alone, CAUSE ENABLE is 0, the chain starts if there is a
profile, and otherwise NO_PROFILE is due in the event that follows (R171). -/
def execInitEnd (s : State) : Result :=
  s.event (fun t =>
    if t.mode = .init then
      let u := t.rereadInputs
      let v := { u with
        mode := .config
        board := { u.board with latchMode := true, latchMisuse := false, latchRefused := false, enable := 0 } }
      if v.hasProfile then v.startChain else v.setStore { v.store with noProfileDue := true }
    else t)

/-- NO_PROFILE (R171): once, when INIT has ended without a valid stored profile. Every event starts with it where it is due
(State.begin), so this event has no more to do. -/
def execNoProfile (s : State) : Result := s.live (fun t => t)

/-- E_STOP_ASSERT (R177): RUN becomes HOLD, as by a taken request. -/
def execEStopAssert (s : State) : Result :=
  s.event (fun t =>
    let u := { t with lines := { t.lines with eStop := true } }
    if t.mode = .run then u.changeMode .hold else u)

/-- E_STOP_RELEASE (R177): no mode changes. -/
def execEStopRelease (s : State) : Result := s.event (fun t => { t with lines := { t.lines with eStop := false } })

/-- REQUEST_CONFIG (R176). -/
def execRequestConfig (s : State) : Result := s.live State.requestedConfig

/-- REQUEST_RUN (R176). -/
def execRequestRun (s : State) : Result := s.live State.requestedRun

/-- REQUEST_HOLD (R176). -/
def execRequestHold (s : State) : Result := s.live State.requestedHold

end Sys2Proof.Machine
end

