-- ==== Sys2Proof/Machine/Bus.lean ====
section
/-! DEFINITION. The memory port (chapter 9): the aisle computer's writes to the exchange memory and to the registers, and
what a read of either returns. -/

namespace Sys2Proof.Machine

/-! ### Shared operations -/

/-- A write that is not taken latches MISUSE (R155, R165). -/
def State.misuse (s : State) : State := s.setBoard { s.board with latchMisuse := true }

/-- A write to a card's state byte, by the value the byte holds (R158). A number above 127 names no card (R157). -/
def State.writeCardState (s : State) (n : Nat) (v : Byte) : State :=
  let held := s.cardState n
  if 128 ≤ n then s
  else if held = cardFree ∧ v = cardPosted then
    let t := s.setCardState n cardPosted
    t.setBoard { t.board with postQueue := t.board.postQueue ++ [n] }
  else if held = cardFree ∧ v = cardFree then s
  else if cardFinal held = true ∧ v = cardFree then
    let t := s.setCardState n cardFree
    t.setBoard
      { t.board with finishList := t.board.finishList.filter (fun m => m != n), changeCount := t.board.changeCount + 2 }
  else s.misuse

/-- A write to the acknowledge byte of a condition entry (R168). -/
def State.writeAcknowledge (s : State) (src : Nat) (v : Byte) : State :=
  if v = 0x01 then s.setCond src { s.cond src with changed := false }
  else if v = 0x02 then s.setCond src {}
  else s.misuse

/-- One byte of a write at an offset of the exchange memory (9.1, R155). -/
def State.writeByte (s : State) (a : Nat) (v : Byte) : State :=
  if a < 0x00C0 then s.misuse
  else if a < 0x0100 then s.setMem (Memory.write s.board.mem a [v])
  else if a < 0x0400 then
    if (a - 0x0100) % 16 = 2 then s.writeAcknowledge ((a - 0x0100) / 16) v else s.misuse
  else if a < 0x0A00 then s.setMem (Memory.write s.board.mem a [v])
  else if a < 0x0C80 then s.misuse
  else if 0x1000 ≤ a ∧ a < 0x3000 ∧ (a - 0x1000) % 64 = 0 then s.writeCardState ((a - 0x1000) / 64) v
  else s.setMem (Memory.write s.board.mem a [v])

/-- A write of some bytes, byte by byte in ascending offset (R155); a byte beyond the window is not there. -/
def State.writeBytes (s : State) : Nat → List Byte → State
  | _, [] => s
  | a, v :: vs => (if a < 0x8000 then s.writeByte a v else s).writeBytes (a + 1) vs

/-- CAUSE is written: each latch whose bit is 1 is cleared (R165). -/
def State.clearCauses (s : State) (v : Word) : State :=
  s.setBoard
    { s.board with
      latchMode := s.board.latchMode && !v.getLsbD 2
      latchMisuse := s.board.latchMisuse && !v.getLsbD 3
      latchRefused := s.board.latchRefused && !v.getLsbD 4 }

/-- CAUSE ENABLE is written: its bits 0–4 are stored (R165). -/
def State.setEnables (s : State) (v : Word) : State := s.setBoard { s.board with enable := v.setWidth 5 }

/-- A whole-word write to a register (R163, R164, R165, R180). -/
def State.writeRegister (s : State) (offset : Nat) (v : Word) : State :=
  if offset = 0x04 then
    if v = 1 then s.requestedConfig
    else if v = 2 then s.requestedRun
    else if v = 3 then s.requestedHold
    else s.misuse
  else if offset = 0x08 then s.clearCauses v
  else if offset = 0x0C then s.setEnables v
  else s.misuse

/-! ### Reads (R155, R163, R179, R180) -/

/-- Byte `i` of the header (9.2). -/
def State.headerByte (s : State) (i : Nat) : Byte :=
  match i with
  | 0 => s.board.changeCount.extractLsb' 0 8
  | 1 => s.board.changeCount.extractLsb' 8 8
  | 2 => byteOf s.board.finishList.length
  | 3 => byteOf s.release.voids.length
  | 4 => s.release.n.extractLsb' 0 8
  | 5 => s.release.n.extractLsb' 8 8
  | 6 => modeByte s.mode
  | _ => 0x00

/-- Byte `i` of the finish list (R162). -/
def State.finishByte (s : State) (i : Nat) : Byte := ((s.board.finishList[i]?).map byteOf).getD 0xFF

/-- Byte `i` of a condition entry (9.7). -/
def CondEntry.byte (e : CondEntry) (i : Nat) : Byte :=
  ([(e.code.map condByte).getD 0x00, bit e.changed 0x01, 0x00, byteOf e.count, e.detail1, e.detail2, 0x00, 0x00] ++
    bytes32 e.first ++ bytes32 e.last).getD i 0x00

/-- Byte `i` of a retirement slot (10.2). -/
def slotByte (x : Slot) (i : Nat) : Byte := [x.b0, x.b1, x.b2, x.b3].getD i 0x00

/-- The byte a read of the exchange memory returns (9.1, R155). -/
def State.exchangeByte (s : State) (a : Nat) : Byte :=
  if a < 0x0040 then s.headerByte a
  else if a < 0x00C0 then s.finishByte (a - 0x0040)
  else if 0x0100 ≤ a ∧ a < 0x0400 then (s.cond ((a - 0x0100) / 16)).byte ((a - 0x0100) % 16)
  else if 0x0A00 ≤ a ∧ a < 0x0C00 then ((s.store.active.getD [])[a - 0x0A00]?).getD 0x00
  else if 0x0C00 ≤ a ∧ a < 0x0C80 then
    (((s.store.slots[(a - 0x0C00) / 4]?).map (fun x => slotByte x ((a - 0x0C00) % 4))).getD 0x00)
  else Memory.read s.board.mem a

/-- IDENT (R163): the aisle number and the hardware revision. -/
def State.ident (s : State) : Word :=
  s.board.aisle.setWidth 32 ||| (Config.hardwareRevision.setWidth 32 <<< 8)

/-- The word of the register at an offset of the register window; 0 where none of the five stands (9.6, R179, R180). -/
def State.register (s : State) (offset : Nat) : Word :=
  if offset = 0x00 then s.ident
  else if offset = 0x04 then (modeByte s.mode).setWidth 32
  else if offset = 0x08 then s.cause.setWidth 32
  else if offset = 0x0C then s.board.enable.setWidth 32
  else if offset = 0x10 then s.board.clock
  else 0

/-- What a read of the register window returns, all of it taken at one moment, least significant byte first (4.1): at one of
the five offsets a word is the whole register, and a narrower read the bytes it covers (R163); a read at any other offset returns 0,
whatever its width (R180; log 41). -/
def State.registerRead (s : State) (offset width : Nat) : List Byte :=
  if width ≤ 4 then (bytes32 (s.register offset)).take width else List.replicate width 0x00

/-! ### The meanings -/

/-- EXCHANGE_WRITE (R155). -/
def execExchangeWrite (offset : BitVec 15) (bytes : List Byte) (s : State) : Result :=
  s.live (fun t => t.writeBytes offset.toNat bytes)

/-- POSTED_WRITE (R158). -/
def execPostedWrite (card : Nat) (value : Byte) (s : State) : Result := s.live (fun t => t.writeCardState card value)

/-- FREE_WRITE (R158). -/
def execFreeWrite (card : Nat) (s : State) : Result := s.live (fun t => t.writeCardState card cardFree)

/-- ACKNOWLEDGE (R168). -/
def execAcknowledge (index : Nat) (s : State) : Result := s.live (fun t => t.writeAcknowledge index 0x01)

/-- CLEAR_ENTRY (R168). -/
def execClearEntry (index : Nat) (s : State) : Result := s.live (fun t => t.writeAcknowledge index 0x02)

/-- CAUSE_WRITE (R165). -/
def execCauseWrite (value : Word) (s : State) : Result := s.live (fun t => t.clearCauses value)

/-- CAUSE_ENABLE_WRITE (R165). -/
def execCauseEnableWrite (value : Word) (s : State) : Result := s.live (fun t => t.setEnables value)

/-- REGISTER_WRITE (R163, R180): a write narrower than a word is not taken. -/
def execRegisterWrite (offset width : Nat) (value : Word) (s : State) : Result :=
  s.live (fun t => if width = 4 then t.writeRegister offset value else t.misuse)

end Sys2Proof.Machine
end

