-- ==== Sys2Proof/Machine/Entry.lean ====
section
/-! DEFINITION. The entry unit's events (chapter 7). -/

namespace Sys2Proof.Machine

/-! ### Shared operations -/

/-- The assertion of ENTRY-ARRIVE is an arrival while the divert is idle and empty (R130). -/
def State.arriveIfClear (s : State) : State :=
  if s.entry.motion = .idle ∧ s.head divert = none then s.arrival else s

/-- The divert's tote reaches entry spur `x` (R35, R134). -/
def State.divertReaches (s : State) (x : Side) : State :=
  let s1 := s.setMotion .idle
  match s.head divert with
  | none => s1
  | some e =>
    let s2 := (s1.setEntries divert []).arriveReserved (entrySpur x) e
    match e with
    | .foreign => s2
    | .card n =>
      s2.updateContext n (fun c => { c with phase := .inSpur, place := some (entrySpur x), loaded := s.stamp })

/-- DIVERT-DONE ends the motion that is open (R134, R136), and a tote that waits at the divert arrives (R130). -/
def State.divertEnds (s : State) : State :=
  match s.entry.motion with
  | .idle => s
  | .toSpur x => (s.divertReaches x).divertFreed
  | .toReject => ((s.setMotion .idle).setEntries divert []).divertFreed

/-- The tote is taken out of the divert by hand (R138). -/
def State.takenByHand (s : State) : State :=
  match s.entry.motion, s.head divert with
  | .idle, some (.card n) => (s.setEntries divert []).updateContext n (fun c => { c with place := none })
  | .idle, some .foreign => (s.setEntries divert []).setEntry { s.entry with rejectReported := false }
  | _, _ => s

/-- A tote ID of 0 is held as UNREADABLE (R130). -/
def heldRead : Read → Read
  | .tote t => if t = 0 then .unreadable else .tote t
  | .unreadable => .unreadable

/-! ### The meanings; a line's level is followed in INIT too (log 9) -/

/-- ENTRY_READER_RESULT (R130). -/
def execEntryReaderResult (read : Read) (s : State) : Result :=
  s.live (fun t => t.setEntry { t.entry with read := some (heldRead read) })

/-- ENTRY_ARRIVE (R130, R131). -/
def execEntryArrive (s : State) : Result :=
  s.event (fun t =>
    let u := { t with lines := { t.lines with entryArrive := true } }
    if u.mode = .init then u else u.arriveIfClear)

/-- DIVERT_DONE (R134, R136). -/
def execDivertDone (s : State) : Result := s.live State.divertEnds

/-- ENTRY_ARRIVE_DEASSERT (R138). -/
def execEntryArriveDeassert (s : State) : Result :=
  s.event (fun t =>
    let u := { t with lines := { t.lines with entryArrive := false } }
    if u.mode = .init then u else u.takenByHand)

/-- REJECT_FULL_CHANGE (R135): its deassertion brings a reject try. -/
def execRejectFullChange (full : Bool) (s : State) : Result :=
  s.event (fun t =>
    let u := { t with lines := { t.lines with rejectFull := full } }
    if full then u else u.tell .reject)

end Sys2Proof.Machine
end

