-- ==== Sys2Proof/Machine/Examiner.lean ====
section
/-! DEFINITION. The card examiner (R160) and what each kind of card does at its examination (chapters 1, 2, 3, 10). -/

namespace Sys2Proof.Machine

/-! ### Shared operations -/

/-- The kinds of the kind table (R160). -/
def kindRetrieve : Byte := 0x01
def kindStore : Byte := 0x02
def kindCancel : Byte := 0x03
def kindFlush : Byte := 0x04
def kindSkip : Byte := 0x05
def kindRenumber : Byte := 0x06
def kindBar : Byte := 0x07
def kindUnbar : Byte := 0x08
def kindRetire : Byte := 0x09
def kindCommit : Byte := 0x0A
def kindErase : Byte := 0x0B

/-- UNBAR's option CLEAR: 80h added to the selector (1.5). -/
def State.clearOption (s : State) (n : Nat) : Bool := decide (0x80 ≤ s.cardSelector n)

/-- A card leaves the head of the post queue (R159). -/
def State.takeHead (s : State) (rest : List Nat) : State := s.setBoard { s.board with postQueue := rest }

/-- The examiner takes the head of the post queue, if it is a card of the row that is asked for (R159, R160; log 2). -/
def State.examine (s : State) (row : Nat → Bool) (f : Nat → State → State) : Result :=
  s.live (fun t =>
    match t.board.postQueue with
    | [] => t
    | n :: rest => if row n then f n (t.takeHead rest) else t)

/-- The row of one kind. -/
def State.isKind (s : State) (k : Byte) (n : Nat) : Bool := s.cardKind n == k

/-- A card finishes DONE in the event of its examination (R161). -/
def State.done (s : State) (n : Nat) (detail : Byte) : State := s.finishNow n cardDone .none detail

/-- The first check that fails, with its code and detail. -/
abbrev Refused := Option (ReasonCode × Byte)

/-- The first failure of a list of checks in their order. -/
def firstFailure : List Refused → Refused
  | [] => none
  | none :: rs => firstFailure rs
  | some r :: _ => some r

/-- A check: it holds, or the card is refused. -/
def check (holds : Bool) (r : ReasonCode) (detail : Byte) : Refused := if holds then none else some (r, detail)

/-! ### RETRIEVE and STORE (R28, R29) -/

/-- The first field out of range, in ascending byte order (R28, check 2). -/
def State.badField (s : State) (n : Nat) (k : OrderKind) : Refused :=
  firstFailure
    [ check (s.cardFlags n == 0x00 || (k == .retrieve && s.cardFlags n == 0x01)) .badField 2,
      check (prefOf (s.cardPref n)).isSome .badField 3,
      check (s.cardTote n != 0) .badField 8,
      check (decide (1 ≤ s.cardLevel n ∧ s.cardLevel n ≤ s.levels)) .badField 12 ]

/-- An open order has the same tote (R28, check 3). -/
def State.dupTote (s : State) (t : Word) : Refused :=
  (s.findOpen (fun c => c.tote == t)).map (fun m => (.dupTote, byteOf m))

/-- The level could be served in the direction the kind needs (R28, check 4). -/
def State.levelServes (s : State) (level : Nat) (k : OrderKind) : Bool :=
  match k with
  | .retrieve => s.canEverAdmit (outLane level .a) || s.canEverAdmit (outLane level .b)
  | .store => s.canEverAdmit (inLaneOf level .a) || s.canEverAdmit (inLaneOf level .b)

/-- The card's sequence number, if it carries one (R24). -/
def State.cardNumber (s : State) (n : Nat) (k : OrderKind) : Option Half :=
  if k = .retrieve ∧ s.cardFlags n = 0x01 then some (s.cardSeq n) else none

/-- A number that is void, or the live number of an open card (R28, check 5b). -/
def State.dupSeq (s : State) (x : Half) : Refused :=
  if x ∈ s.release.voids then some (.dupSeq, 0x80)
  else (s.findOpen (fun c => c.holds x)).map (fun m => (.dupSeq, byteOf m))

/-- The checks of R28 in their order. -/
def State.orderCheck (s : State) (n : Nat) (k : OrderKind) : Refused :=
  firstFailure
    [ check (s.mode == .run || s.mode == .hold) .wrongMode 0,
      s.badField n k,
      s.dupTote (s.cardTote n),
      check (s.levelServes (s.cardLevel n) k) .levelClosed (byteOf (s.cardLevel n)),
      match s.cardNumber n k with
      | none => none
      | some x => firstFailure [check (s.ahead x) .staleSeq 0, s.dupSeq x] ]

/-- The context of an accepted card (R24, R25, R26, R27). -/
def State.newContext (s : State) (n : Nat) (k : OrderKind) : Context :=
  { kind := k, tote := s.cardTote n, level := s.cardLevel n, pref := (prefOf (s.cardPref n)).getD .any,
    seq := s.cardNumber n k, phase := match k with | .retrieve => .pending | .store => .awaited,
    side := none, place := none, demoted := false, cancelRequested := false,
    seqState := if (s.cardNumber n k).isSome then .live else .absent, failure := none, trip := 0,
    accepted := s.stamp, bound := 0, loaded := 0, finished := 0, sideChanged := false, demotedFlag := false,
    overrun := false, idMismatch := false, returned := false, delivered := false }

/-- The stall timer starts with the first sequenced card (R69). -/
def State.startStall (s : State) : State :=
  if s.release.stall = none ∧ s.release.stallReported = false then
    s.setRelease { s.release with stall := some (1000 * s.stallLimit) }
  else s

/-- A card is accepted (R29). -/
def State.accept (s : State) (n : Nat) (k : OrderKind) : State :=
  let t := (s.setCardState n cardTaken).setContext n (some (s.newContext n k))
  if (s.cardNumber n k).isSome then t.startStall else t

/-- The examination of an order card (R28, R29). -/
def State.examineOrder (s : State) (n : Nat) (k : OrderKind) : State :=
  match s.orderCheck n k with
  | some r => s.refuse n r.1 r.2
  | none => s.accept n k

/-! ### CANCEL (R41–R45) -/

/-- An awaited card whose tote stands in the divert: the entry becomes FOREIGN and NO_CARD is raised (R45, R138). -/
def State.cancelAtDivert (s : State) (c : Context) : State :=
  if c.place = some divert then (s.setDivert .foreign).raise srcEntry .noCard (low1 c.tote) (low2 c.tote) else s

/-- What CANCEL does to its target; `none` where the target's phase refuses it (R41, R42–R45). -/
def State.cancelTarget (s : State) (m : Nat) (c : Context) : Option State :=
  match c.kind, c.phase with
  | .retrieve, .pending => some (s.finishOrder m cardCancelled .none 0x00)
  | .retrieve, .held =>
    some ((s.finishOrder m cardCancelled .none 0x00).queueNode c.level (.dropRefuse .cancelled))
  | .retrieve, .granted => some (s.updateContext m (fun d => { d with cancelRequested := true }))
  | .retrieve, .inLane => some ((s.updateContext m (fun d => { d with cancelRequested := true })).giveUp m true)
  | .retrieve, .onCar => some ((s.updateContext m (fun d => { d with cancelRequested := true })).giveUp m true)
  | .retrieve, .inSpur => some ((s.updateContext m (fun d => { d with cancelRequested := true })).giveUp m true)
  | .retrieve, .released => some (s.updateContext m (fun d => { d with cancelRequested := true }))
  | .store, .awaited => some ((s.cancelAtDivert c).finishOrder m cardCancelled .none 0x00)
  | _, _ => none

/-- The examination of a CANCEL card (R41). -/
def State.examineCancel (s : State) (n : Nat) : State :=
  if 128 ≤ s.cardTarget n then s.refuse n .badField 16
  else
    match s.ctx (s.cardTarget n) with
    | none => s.refuse n .noTarget 0
    | some c =>
      match s.cancelTarget (s.cardTarget n) c with
      | none => s.refuse n .inTransit (byteOf (s.cardTarget n))
      | some t => t.done n (byteOf (s.cardTarget n))

/-! ### FLUSH (R46, R47) -/

/-- Something is moving in the zone (R46). -/
def State.zoneBusy (s : State) : Bool :=
  (List.range 160).any (fun p => (s.place p).lock != .none) || s.handover.grants.toList.any (·.isSome) ||
    (s.lift .a).trip.isSome || (s.lift .a).pending.isSome || (s.lift .b).trip.isSome || (s.lift .b).pending.isSome ||
    s.entry.motion != .idle || s.release.merge != .idle

/-- The entry of card `m` becomes FOREIGN where it stands (R2). -/
def State.makeForeign (s : State) (m p : Nat) : State :=
  s.setEntries p ((s.entries p).map (fun e => if e = .card m then .foreign else e))

/-- FLUSH ends one open order (R47, step 1). -/
def State.flushCard (s : State) (m : Nat) : State :=
  match s.ctx m with
  | none => s
  | some c =>
    let s1 := match c.place with
      | none => s
      | some p => s.makeForeign m p
    let s2 := if s.handover.held.any (fun h => h.ofCard m) then s1.queueNode c.level (.dropRefuse .cancelled) else s1
    s2.finishOrder m cardFailed .flushed 0x00 (gives := false)

/-- FLUSH ends every open order, in ascending card number (R47, step 1). -/
def State.flushCards (s : State) : State := (s.openWhere (fun _ => true)).foldl State.flushCard s

/-- FLUSH acts (R47). -/
def State.flush (s : State) (n : Nat) : State :=
  let count := (s.openWhere (fun _ => true)).length
  let t := s.flushCards
  ((t.setRelease { t.release with voids := [], bound := ⟨[], []⟩, stall := none }).flushPlaces).done n (byteOf count)

/-- The examination of a FLUSH card (R46). -/
def State.examineFlush (s : State) (n : Nat) : State :=
  if s.mode ≠ .config ∧ s.mode ≠ .hold then s.refuse n .wrongMode 0
  else if s.zoneBusy then s.refuse n .zoneBusy 0
  else s.flush n

/-! ### SKIP and RENUMBER (R58–R60) -/

/-- The checks of R58. -/
def State.skipCheck (s : State) (x : Half) : Refused :=
  firstFailure
    [ check (s.ahead x) .staleSeq 0,
      check (!(s.release.voids).contains x) .dupSeq 0x80,
      check (decide (s.release.voids.length < 32) || x == s.release.n) .voidFull 0 ]

/-- The examination of a SKIP card (R58, R59). -/
def State.examineSkip (s : State) (n : Nat) : State :=
  let x := s.cardSeq n
  match s.skipCheck x with
  | some r => s.refuse n r.1 r.2
  | none =>
    match s.findOpen (fun c => c.holds x) with
    | some m => (s.giveUp m true).done n (byteOf m)
    | none => (s.voiding x).done n 0x80

/-- The examination of a RENUMBER card (R60). -/
def State.examineRenumber (s : State) (n : Nat) : State :=
  if s.anyLive || !s.release.voids.isEmpty then s.refuse n .zoneBusy 0
  else if s.cardSeq n = s.release.n then s.done n 0x00
  else
    (s.setRelease { s.release with n := s.cardSeq n, stallReported := false, stall := none }).done n 0x00

/-! ### BAR, UNBAR and RETIRE (R16–R20) -/

/-- The place a BAR, UNBAR or RETIRE card names, where checks 2 and 3 of R16 pass. -/
def State.namedPlace (s : State) (n selector : Nat) (lanesOnly : Bool) : Option Nat :=
  match selectPlace s.levels (s.cardLevel n) selector with
  | none => none
  | some p => if (isLane p && (s.place p).fitted) || (!isLane p && !lanesOnly) then some p else none

/-- BAR sets the barred flag (R17). -/
def State.bar (s : State) (p : Nat) : State :=
  if (s.place p).barred then s else s.setStatus p { s.place p with barred := true }

/-- UNBAR KEEP clears the barred and frozen flags and keeps the records (R18). -/
def State.unbarKeep (s : State) (p : Nat) : State :=
  if (s.place p).barred || (s.place p).frozen.isSome then
    s.setStatus p { s.place p with barred := false, frozen := none }
  else s

/-- The load claims on the entries of a place end (R19). -/
def State.endClaims (s : State) (p : Nat) : State :=
  if isLane p || isSpur p then
    s.updateLift (placeSide p) (fun l =>
      l.mapStops (fun st => if st.place = p ∧ st.action = .load then { st with claim := none } else st))
  else s

/-- The card of an entry fails LOST with the place's number (R19, R38). -/
def State.loseEntry (p : Nat) (s : State) : Entry → State
  | .foreign => s
  | .card m => s.finishOrder m cardFailed .lost (byteOf p)

/-- The record that believes the sensors afresh (R19, steps 2 and 3). -/
def State.believed (s : State) (p : Nat) : Place :=
  let q := { s.place p with entries := [], barred := false, frozen := none }
  if isLane p && !s.alive (laneLevel p) then { q with awaiting := true, sensed := none }
  else
    { q with entries := List.replicate (min (q.sensed.getD 0) (capacity p - q.res)) .foreign }

/-- Who is told of an UNBAR CLEAR that leaves record `q`: a stop that waits at the place where a flag or mark of R5 has changed,
and otherwise a load where an entry has come or gone (R7, R116). -/
def State.toldCleared (s : State) (p : Nat) (q : Place) : List Retry :=
  toldStatus p ++
    (if (s.place p).barred = q.barred ∧ (s.place p).frozen.isSome = q.frozen.isSome ∧ (s.place p).awaiting = q.awaiting then
      if s.entries p = [] ∧ q.entries = [] then [] else toldHead p
    else toldStop p)

/-- UNBAR CLEAR (R19). -/
def State.unbarClear (s : State) (p : Nat) : State :=
  let gone := s.entries p
  let s1 := gone.foldl (State.loseEntry p) ((s.endClaims p).setEntries p [])
  (s1.setPlace p (s1.believed p)).tellAll (s.toldCleared p (s1.believed p))

/-- The examination of a BAR card (R16, R17). -/
def State.examineBar (s : State) (n : Nat) : State :=
  match s.namedPlace n (s.cardSelector n) true with
  | none => s.refuse n .badField 0
  | some p => (s.bar p).done n 0x00

/-- The examination of an UNBAR card with option KEEP (R16, R18). -/
def State.examineUnbarKeep (s : State) (n : Nat) : State :=
  match s.namedPlace n (s.cardSelector n) false with
  | none => s.refuse n .badField 0
  | some p => (s.unbarKeep p).done n 0x00

/-- The examination of an UNBAR card with option CLEAR (R16, R19). -/
def State.examineUnbarClear (s : State) (n : Nat) : State :=
  match s.namedPlace n (s.cardSelector n - 0x80) false with
  | none => s.refuse n .badField 0
  | some p =>
    if isLane p && (s.place p).lock != .none then s.refuse n .placeBusy 0 else (s.unbarClear p).done n 0x00

/-- The first erased slot of the retirement area (R175); a slot whose RETIRE failed is used. -/
def State.freeSlot (s : State) : Option Nat := s.store.judged.toList.findIdx? slotIsErased

/-- A store operation starts and its card is TAKEN (R160, 10.3). -/
def State.startStore (s : State) (n : Nat) (w : StoreWork) : State :=
  let t := s.setCardState n cardTaken
  t.setStore { t.store with op := some { work := w, card := n, examined := s.stamp } }

/-- A lane that RETIRE may take out of service: no card entry, no reservation, no lock (R20). -/
def State.retirable (s : State) (p : Nat) : Bool :=
  (s.entries p).all (fun e => e == .foreign) && (s.place p).res == 0 && (s.place p).lock == .none

/-- The examination of a RETIRE card (R16, R20, R175). -/
def State.examineRetire (s : State) (n : Nat) : State :=
  match s.namedPlace n (s.cardSelector n) true with
  | none => s.refuse n .badField 0
  | some p =>
    if s.store.op.isSome then s.refuse n .storeBusy 0
    else if !s.retirable p then s.refuse n .placeBusy 0
    else if (s.place p).retired then s.done n 0x00
    else
      match s.freeSlot with
      | none => s.refuse n .storeFull 0
      | some j => (s.startStore n (.retire p j)).setStatus p { s.place p with retired := true, retiring := true }

/-! ### COMMIT and ERASE (R172, R174) -/

/-- The image the aisle computer has written at 0800h–0889h (R172). -/
def State.image (s : State) : List Byte := (List.range 138).map (fun i => Memory.read s.board.mem (0x0800 + i))

/-- The first three checks of R172. -/
def State.storeCheck (s : State) : Refused :=
  firstFailure
    [ check (s.mode == .config) .wrongMode 0,
      check s.store.op.isNone .storeBusy 0,
      check ((s.lift .a).trip.isNone && (s.lift .b).trip.isNone) .zoneBusy 0 ]

/-- The examination of a COMMIT card (R172). -/
def State.examineCommit (s : State) (n : Nat) : State :=
  match s.storeCheck with
  | some r => s.refuse n r.1 r.2
  | none =>
    match checkRecord s.image with
    | some item => s.refuse n .badProfile (byteOf item)
    | none => s.startStore n (.commit s.image)

/-- The examination of an ERASE card (R174). -/
def State.examineErase (s : State) (n : Nat) : State :=
  match s.storeCheck with
  | some r => s.refuse n r.1 r.2
  | none => s.startStore n .erase

/-! ### The meanings -/

/-- BAD_KIND (R160): a kind that is not in the kind table. -/
def execBadKind (s : State) : Result :=
  s.examine (fun n => decide (s.cardKind n = 0 ∨ 0x0B < (s.cardKind n).toNat))
    (fun n t => t.refuse n .badKind (t.cardKind n))

/-- RETRIEVE (R28, R29). -/
def execRetrieve (s : State) : Result := s.examine (s.isKind kindRetrieve) (fun n t => t.examineOrder n .retrieve)

/-- STORE (R28, R29). -/
def execStore (s : State) : Result := s.examine (s.isKind kindStore) (fun n t => t.examineOrder n .store)

/-- CANCEL (R41–R45). -/
def execCancel (s : State) : Result := s.examine (s.isKind kindCancel) (fun n t => t.examineCancel n)

/-- FLUSH (R46, R47). -/
def execFlush (s : State) : Result := s.examine (s.isKind kindFlush) (fun n t => t.examineFlush n)

/-- SKIP (R58, R59). -/
def execSkip (s : State) : Result := s.examine (s.isKind kindSkip) (fun n t => t.examineSkip n)

/-- RENUMBER (R60). -/
def execRenumber (s : State) : Result := s.examine (s.isKind kindRenumber) (fun n t => t.examineRenumber n)

/-- BAR (R16, R17). -/
def execBar (s : State) : Result := s.examine (s.isKind kindBar) (fun n t => t.examineBar n)

/-- UNBAR with option KEEP (R16, R18). -/
def execUnbarKeep (s : State) : Result :=
  s.examine (fun n => s.isKind kindUnbar n && !s.clearOption n) (fun n t => t.examineUnbarKeep n)

/-- UNBAR with option CLEAR (R16, R19). -/
def execUnbarClear (s : State) : Result :=
  s.examine (fun n => s.isKind kindUnbar n && s.clearOption n) (fun n t => t.examineUnbarClear n)

/-- RETIRE (R16, R20, R175). -/
def execRetire (s : State) : Result := s.examine (s.isKind kindRetire) (fun n t => t.examineRetire n)

/-- COMMIT (R172). -/
def execCommit (s : State) : Result := s.examine (s.isKind kindCommit) (fun n t => t.examineCommit n)

/-- ERASE (R174). -/
def execErase (s : State) : Result := s.examine (s.isKind kindErase) (fun n t => t.examineErase n)

end Sys2Proof.Machine
end

