-- ==== Sys2Proof/Machine/Levels.lean ====
section
/-! DEFINITION. The level chain's events: shuttle reports (chapter 4), lane counts, answers, and the chain's own exchanges
(chapter 8). -/

namespace Sys2Proof.Machine

/-! ### Shared operations -/

/-- The open drop grant a DROP-DONE or DROP-ABORT names (R79, R80). -/
def Grant.isDrop (g : Grant) (x : Side) (t : Word) : Bool := g.kind == .drop && g.side == x && g.tote == t

/-- The open take grant a TAKE-DONE or TAKE-ABORT names (R82, R83). -/
def Grant.isTake (g : Grant) (x : Side) : Bool := g.kind == .take && g.side == x

/-- An ACK at a port (R143, R146, R150). -/
def State.ackAt (s : State) (p : Port) (level : Byte) (number : BitVec 4) : State :=
  match (s.chainPort p).exchange with
  | some ⟨k, .command c n, _⟩ =>
    if level.toNat = k ∧ n = number ∧ c ≠ .resyncAsk then s.commandAnswer p k number (fun t => t) else s
  | some ⟨k, .hello, _⟩ =>
    if level.toNat = k ∧ number = 0 then
      let s1 := (s.updatePort p (fun r => { r with exchange := none })).updateNode k
        (fun nd => { nd with unanswered := 0 })
      match (s.node k).state with
      | .dead => s1.revive k p
      | .cut => s1.revive k p
      | .seeking => s1.firstAnswer k
      | _ => s1
    else s
  | _ => s

/-- A RESYNC-REPORT at a port answers the RESYNC-ASK whose number it carries (R143, R151). -/
def State.resyncAt (s : State) (p : Port) (level : Byte) (number next : BitVec 4) (counts : LaneCounts) (held : Word)
    (last : LastEvent) : State :=
  match (s.chainPort p).exchange with
  | some ⟨k, .command c n, _⟩ =>
    if level.toNat = k ∧ n = number ∧ c = .resyncAsk then
      s.commandAnswer p k number (fun t => t.resync k next counts held last)
    else s
  | _ => s

/-- What a port does next at a level after an exchange that was not answered (R142). -/
def afterUnanswered : Sending → VisitNext
  | .command _ _ => .resend
  | _ => .advance

/-- An exchange's 2 ms have passed without an answer (R143, R147, R149). -/
def State.unansweredAt (s : State) (p : Port) : State :=
  match (s.chainPort p).exchange with
  | some ⟨_, .hello, 0⟩ => s.updatePort p (fun r => { r with exchange := none })
  | some ⟨k, what, 0⟩ =>
    let s1 := (s.updatePort p (fun r => { r with exchange := none, next := afterUnanswered what })).updateNode k
      (fun nd => { nd with unanswered := min 3 (nd.unanswered + 1) })
    if (s1.node k).unanswered = 3 ∧ (s1.node k).served = true then s1.nodeDies k else s1
  | _ => s

/-- The check-error counts at which CHECK_ERRORS is raised (R154). -/
def checkErrorReported (n : Nat) : Bool := n == 1 || n % 16 == 0 || n == 255

/-- A frame is discarded at a port (R154). -/
def State.checkErrorAt (s : State) (p : Port) : State :=
  let n := (s.chainPort p).checkErrors
  if n < 255 then
    let s1 := s.updatePort p (fun r => { r with checkErrors := n + 1 })
    if checkErrorReported (n + 1) then s1.raise (srcPort p) .checkErrors (byteOf (n + 1)) 0x00 else s1
  else s

/-- A grant timer has run out (R86). -/
def State.grantOverdue (s : State) (level : Nat) : State :=
  match s.grant level with
  | none => s
  | some g =>
    if g.timer = some 0 then
      (s.setGrant level (some { g with timer := none })).raise (srcLevel level) .grantOverdue (byteOf (g.lane level))
        (grantByte g.kind)
    else s

/-! ### The meanings -/

/-- DROP_ASK (R74–R78). -/
def execDropAsk (port : Port) (level : Byte) (number : BitVec 4) (tote : Word) (s : State) : Result :=
  s.live (fun t => t.report port level number (fun u k => u.askDrop k tote))

/-- DROP_DONE (R79). -/
def execDropDone (port : Port) (level : Byte) (number : BitVec 4) (side : Side) (tote : Word) (s : State) : Result :=
  s.live (fun t => t.report port level number (fun u k => u.grantReport k (fun g => g.isDrop side tote) (fun v g => v.dropDone k g)))

/-- DROP_ABORT (R80). -/
def execDropAbort (port : Port) (level : Byte) (number : BitVec 4) (side : Side) (tote : Word) (s : State) : Result :=
  s.live (fun t => t.report port level number (fun u k => u.grantReport k (fun g => g.isDrop side tote) (fun v g => v.dropAbort k g)))

/-- TAKE_ASK (R81). -/
def execTakeAsk (port : Port) (level : Byte) (number : BitVec 4) (side : Side) (s : State) : Result :=
  s.live (fun t => t.report port level number (fun u k => u.askTake k side))

/-- TAKE_DONE (R82). -/
def execTakeDone (port : Port) (level : Byte) (number : BitVec 4) (side : Side) (tote : Word) (s : State) : Result :=
  s.live (fun t => t.report port level number (fun u k => u.grantReport k (fun g => g.isTake side) (fun v g => v.takeDone k g tote)))

/-- TAKE_ABORT (R83). -/
def execTakeAbort (port : Port) (level : Byte) (number : BitVec 4) (side : Side) (s : State) : Result :=
  s.live (fun t => t.report port level number (fun u k => u.grantReport k (fun g => g.isTake side) (fun v g => v.takeAbort k g)))

/-- GRANT_TIMER_EXPIRY (R86). -/
def execGrantTimerExpiry (level : Nat) (s : State) : Result := s.live (fun t => t.grantOverdue level)

/-- LANE_COUNT (R10, R145). -/
def execLaneCount (port : Port) (level : Byte) (number : BitVec 4) (counts : LaneCounts) (s : State) : Result :=
  s.live (fun t => t.report port level number (fun u k => u.laneCounts k counts))

/-- NOTHING (R145). -/
def execNothing (port : Port) (level : Byte) (s : State) : Result :=
  s.live (fun t => t.pollAnswer port level (fun u _ => u))

/-- OVERFLOW (R145). -/
def execOverflow (port : Port) (level : Byte) (s : State) : Result :=
  s.live (fun t => t.pollAnswer port level (fun u k => (u.raise (srcLevel k) .overflow 0x00 0x00).queueResync k))

/-- RESTARTED (R145). -/
def execRestarted (port : Port) (level : Byte) (s : State) : Result :=
  s.live (fun t => t.pollAnswer port level (fun u k => u.queueResync k))

/-- RESYNC_REPORT (R151–R153). -/
def execResyncReport (port : Port) (level : Byte) (number next : BitVec 4) (counts : LaneCounts) (held : Word)
    (last : LastEvent) (s : State) : Result :=
  s.live (fun t => t.resyncAt port level number next counts held last)

/-- ACK (R146, R150). -/
def execAck (port : Port) (level : Byte) (number : BitVec 4) (s : State) : Result :=
  s.live (fun t => t.ackAt port level number)

/-- VISIT (R142). -/
def execVisit (port : Port) (s : State) : Result := s.live (fun t => t.visitPort port)

/-- EXCHANGE_UNANSWERED (R143). -/
def execExchangeUnanswered (port : Port) (s : State) : Result := s.live (fun t => t.unansweredAt port)

/-- HELLO (R149). -/
def execHello (port : Port) (s : State) : Result := s.live (fun t => t.helloPort port)

/-- CHECK_ERROR (R154). -/
def execCheckError (port : Port) (s : State) : Result := s.live (fun t => t.checkErrorAt port)

/-- RELAYED_FRAME (R143): discarded, uncounted. -/
def execRelayedFrame (_port : Port) (s : State) : Result := s.live (fun t => t)

end Sys2Proof.Machine
end

