-- ==== Sys2Proof/Machine/Lifts.lean ====
section
/-! DEFINITION. The lift links' events (chapter 6): the lifts' frames and the lift units' timers. -/

namespace Sys2Proof.Machine

/-! ### Shared operations -/

/-- A valid frame of a lift: it keeps or gains the link lock, and is then taken (R108, R109). -/
def State.liftFrameIn (s : State) (x : Side) (f : State → State) : Result := s.live (fun t => f (t.hear x))

/-- A STATUS (R109, R110): the first after the lock was gained sets the command frame number, a later one may echo the
command that is being sent. -/
def State.takeStatus (s : State) (x : Side) (accepted : BitVec 4) : State :=
  let l := s.lift x
  if l.needStatus then (s.setLift x { l with number := accepted, needStatus := false }).pump x
  else if l.sends ≠ 0 ∧ l.number = accepted then s.echoed x
  else s

/-- The current stop, where a frame names it by trip number and index (R111). -/
def State.namedStop (s : State) (x : Side) (trip : Byte) (stop : Nat) (ph : StopPhase) : Option (Nat × Stop) :=
  match (s.lift x).trip with
  | none => none
  | some t =>
    match t.current with
    | none => none
    | some i => if t.number = trip ∧ i + 1 = stop ∧ t.phase = ph then (t.stop i).map (fun st => (i, st)) else none

/-- An ARRIVED (R111, R113): taken while ON_TRIP, for the current stop while it is MOVING (log 20). -/
def State.takeArrived (s : State) (x : Side) (trip : Byte) (stop : Nat) : State :=
  match (s.lift x).state, s.namedStop x trip stop .moving with
  | .onTrip, some r => s.takeDecision x r.1 r.2 (s.decideStop x r.2)
  | _, _ => s.strayFrame x

/-- The lift states in which the end of a transfer is taken (R117, R119, R125). -/
def takesStopDone : LiftState → Bool
  | .onTrip => true
  | .syncing => true
  | .faulted => true
  | _ => false

/-- A FAULT, or a JAM, makes the lift FAULTED and raises FAULT (R119). -/
def State.liftFaults (s : State) (x : Side) (code : Byte) : State := (s.enterFaulted x).raiseLift x .fault code

/-- A stop reported JAM: it stays OPEN and MOVING, marked the jammed stop (R119). -/
def Lift.jam (l : Lift) (i : Nat) : Lift :=
  { l with trip := l.trip.map (fun t => { t with phase := .moving, jammed := some (i + 1) }) }

/-- A STOP-DONE (R111, R117, R118, R119). At JAM the stop keeps its claim or reservation, as R119 states; R119 is
the exception to R102's general table (log 45). -/
def State.takeStopDone (s : State) (x : Side) (trip : Byte) (stop : Nat) (result : StopResult) : State :=
  match takesStopDone (s.lift x).state, s.namedStop x trip stop .transferring with
  | true, some r =>
    let s1 := s.unlockStop r.2
    match result with
    | .jam => (s1.updateLift x (fun l => l.jam r.1)).liftFaults x 0x00
    | _ => (s1.stopResult x r.2 trip result).endStop x r.1 (.done result)
  | _, _ => s.strayFrame x

/-- A TRIP-END (R111, R120). -/
def State.takeTripEnd (s : State) (x : Side) (trip : Byte) : State :=
  match (s.lift x).state, (s.lift x).trip with
  | .onTrip, some t =>
    if t.number ≠ trip then s.strayFrame x
    else if t.current.isNone then (s.updateLift x (fun l => { l with trip := none })).becomeIdle x
    else (s.enterSyncing x).queueLift x .stateAsk
  | _, _ => s.strayFrame x

/-- A READY (R119, R123, R128). In WAKING without a pending plan, which COMMIT or ERASE has discarded, the lift becomes IDLE in RUN
too (log 54, DESIGN CHOICE). -/
def State.takeReady (s : State) (x : Side) : State :=
  match (s.lift x).state with
  | .waking =>
    match (s.lift x).pending with
    | some p => if s.mode = .run then s.sendTrip x p else s.becomeIdle x
    | none => s.becomeIdle x
  | .syncing => if (s.lift x).awaitReady then s.becomeIdle x else s.strayFrame x
  | .faulted => (s.enterSyncing x).queueLift x .stateAsk
  | _ => s.strayFrame x

/-- A PARKED-ACK (R122); becoming PARKED brings a planning try (R91). -/
def State.takeParkedAck (s : State) (x : Side) : State :=
  if (s.lift x).state = .parking then
    match (s.lift x).pending with
    | none => (s.updateLift x (fun l => { l with state := .parked, wake := none })).tell (.plan x)
    | some _ => s.wakeLift x
  else s.strayFrame x

/-- A STATE (R125–R128): outside SYNCING that state is entered first, with STATE-ASK queued as at every entry (log 21); then
the STATE is reconciled, or its fault code acts. -/
def State.takeState (s : State) (x : Side) (level : Nat) (front rear : Bool) (trip : Byte) (last : Nat) (fault : Byte) :
    State :=
  let s1 := if (s.lift x).state = .syncing then s else (s.enterSyncing x).queueLift x .stateAsk
  if fault ≠ 0 then s1.liftFaults x fault else s1.reconcile x level front rear trip last

/-- The 250 ms of a command have passed without an echo (R109, R110). -/
def State.resendCommand (s : State) (x : Side) : State :=
  let l := s.lift x
  match l.queue with
  | [] => s
  | c :: _ =>
    if l.echo = some 0 then
      if l.sends < 3 then
        (s.setLift x { l with sends := l.sends + 1, echo := some echoLimit }).transmit (liftFrame x l.number c)
      else s.loseLink x 0x02
    else s

/-- STATE-ASK is due again (R125). -/
def Lift.asksAgain (l : Lift) : Bool := l.state == .syncing && l.ask == some 0

/-- STATE-ASK is queued again (R125). Where the 300 ms run out while the command queue is not empty, it is not queued and the
300 ms start anew (log 50, DESIGN CHOICE). -/
def State.repeatStateAsk (s : State) (x : Side) : State :=
  if (s.lift x).asksAgain then
    let s1 := s.updateLift x (fun l => { l with ask := some 300 })
    if (s.lift x).queue.isEmpty then s1.queueLift x .stateAsk else s1
  else s

/-- The wake timer has run out in PARKING or WAKING (R122, R123). -/
def State.wakeFails (s : State) (x : Side) : State :=
  if (s.lift x).wake = some 0 then
    match (s.lift x).state with
    | .parking => (s.raiseLift x .wakeFail 0x01).enterFaulted x
    | .waking => (s.raiseLift x .wakeFail 0x02).enterFaulted x
    | _ => s
  else s

/-- The card of an entry gains OVERRUN (R27, R121). -/
def State.overrunEntry (s : State) : Entry → State
  | .foreign => s
  | .card n => s.updateContext n (fun c => { c with overrun := true })

/-- The entries an expired deadline marks: on the decks, and claimed by OPEN load stops (R121). -/
def State.overrunEntries (s : State) (x : Side) (t : Trip) : List Entry :=
  s.entries (deckPlace x .front) ++ s.entries (deckPlace x .rear) ++
    (t.plan.stops.filter (fun st => st.action == .load && st.outcome == .stillOpen && st.claim.isSome)).map (·.expected)

/-- The deadline of a running trip has expired (R121). -/
def State.deadlineExpires (s : State) (x : Side) : State :=
  match (s.lift x).trip with
  | none => s
  | some t =>
    if (s.lift x).deadlineRuns && t.left == 0 then
      (s.overrunEntries x t).foldl State.overrunEntry
        ((s.updateLift x (fun l => { l with trip := some { t with expired := true } })).raiseLift x .overrun t.number)
    else s

/-! ### The meanings -/

/-- STATUS (R109, R110); the level it reports is used nowhere. -/
def execStatus (lift : Side) (_level : Nat) (accepted : BitVec 4) (s : State) : Result :=
  s.liftFrameIn lift (fun t => t.takeStatus lift accepted)

/-- ARRIVED (R113). -/
def execArrived (lift : Side) (trip : Byte) (stop : Nat) (s : State) : Result :=
  s.liftFrameIn lift (fun t => t.takeArrived lift trip stop)

/-- STOP_DONE (R117, R118, R119). -/
def execStopDone (lift : Side) (trip : Byte) (stop : Nat) (result : StopResult) (s : State) : Result :=
  s.liftFrameIn lift (fun t => t.takeStopDone lift trip stop result)

/-- TRIP_END (R120). -/
def execTripEnd (lift : Side) (trip : Byte) (s : State) : Result :=
  s.liftFrameIn lift (fun t => t.takeTripEnd lift trip)

/-- READY (R119, R123, R128). -/
def execReady (lift : Side) (s : State) : Result := s.liftFrameIn lift (fun t => t.takeReady lift)

/-- PARKED_ACK (R122). -/
def execParkedAck (lift : Side) (s : State) : Result := s.liftFrameIn lift (fun t => t.takeParkedAck lift)

/-- STATE (R125–R128). -/
def execState (lift : Side) (level : Nat) (front rear : Bool) (trip : Byte) (last : Nat) (fault : Byte) (s : State) :
    Result :=
  s.liftFrameIn lift (fun t => t.takeState lift level front rear trip last fault)

/-- FAULT (R119). -/
def execFault (lift : Side) (code : Byte) (s : State) : Result := s.liftFrameIn lift (fun t => t.liftFaults lift code)

/-- LIFT_FRAME_DISCARD (R108): it counts for nothing. -/
def execLiftFrameDiscard (_lift : Side) (s : State) : Result := s.live (fun t => t)

/-- UNKNOWN_KIND_FRAME (R108, R111): it keeps the link lock and is stray. -/
def execUnknownKindFrame (lift : Side) (s : State) : Result := s.liftFrameIn lift (fun t => t.strayFrame lift)

/-- SILENCE_TIMER_EXPIRY (R109, R124). -/
def execSilenceTimerExpiry (lift : Side) (s : State) : Result :=
  s.live (fun t => if (t.lift lift).silence = some 0 then t.loseLink lift 0x01 else t)

/-- COMMAND_RESEND (R110). -/
def execCommandResend (lift : Side) (s : State) : Result := s.live (fun t => t.resendCommand lift)

/-- STATE_ASK_REPEAT (R125). -/
def execStateAskRepeat (lift : Side) (s : State) : Result := s.live (fun t => t.repeatStateAsk lift)

/-- PARK_TIMER_EXPIRY (R122). -/
def execParkTimerExpiry (lift : Side) (s : State) : Result :=
  s.live (fun t => if (t.lift lift).state = .idle ∧ (t.lift lift).park = some 0 then t.parkLift lift else t)

/-- WAKE_TIMER_EXPIRY (R122, R123). -/
def execWakeTimerExpiry (lift : Side) (s : State) : Result := s.live (fun t => t.wakeFails lift)

/-- DEADLINE_EXPIRY (R121). -/
def execDeadlineExpiry (lift : Side) (s : State) : Result := s.live (fun t => t.deadlineExpires lift)

end Sys2Proof.Machine
end

