-- ==== Sys2Proof/Machine/Places.lean ====
section
/-! DEFINITION. The place map's own events: spur counts and mismatch timers (R10–R13). -/

namespace Sys2Proof.Machine

/-- A spur takes its count from its input (R10). -/
def State.senseSpur (s : State) (p count : Nat) : State := s.setPlace p { s.place p with sensed := some (min 3 count) }

/-- The number of FOREIGN entries appended at the expiry of a mismatch timer (R13). -/
def State.missing (s : State) (p : Nat) : Nat :=
  min ((s.place p).sensed.getD 0) (capacity p - (s.place p).res) - (s.entries p).length

/-- A mismatch timer has run out (R13). -/
def State.mismatchExpires (s : State) (p : Nat) : State :=
  if (s.place p).mismatch = some 0 then
    (s.setPlace p { s.place p with entries := s.entries p ++ List.replicate (s.missing p) .foreign }).freeze p .sense
  else s

/-! ### The meanings -/

/-- SPUR_COUNT_CHANGE (R10, R11); the input's value is followed in INIT too (log 9). -/
def execSpurCountChange (spur : Spur) (count : Nat) (s : State) : Result :=
  s.event (fun t =>
    let u := { t with lines := { t.lines with spurCounts := t.lines.spurCounts.setIfInBounds (spurPlace spur - 160) count } }
    if u.mode = .init then u else u.senseSpur (spurPlace spur) count)

/-- MISMATCH_TIMER_EXPIRY (R13). -/
def execMismatchTimerExpiry (place : Nat) (s : State) : Result := s.live (fun t => t.mismatchExpires place)

end Sys2Proof.Machine
end

