-- ==== Sys2Proof/Machine/Release.lean ====
section
/-! DEFINITION. The merge gate's lines and the release unit's timers (R61–R70). -/

namespace Sys2Proof.Machine

/-! ### Shared operations -/

/-- The merge is IDLE again and tries a release (R66, steps 4 and 5). -/
def State.endRelease (s : State) : State := (s.setRelease { s.release with merge := .idle, exitRead := none }).tell .merge

/-- The read of a PASS differs from the card's tote ID (R66). -/
def mismatched (c : Context) : Read → Bool
  | .tote t => t != c.tote
  | .unreadable => true

/-- The second detail byte of ID_MISMATCH (R66). -/
def readByte : Read → Byte
  | .tote _ => 0x00
  | .unreadable => 0x01

/-- The detail of FOREIGN_OUT (R66). -/
def foreignOut : Read → Byte × Byte
  | .tote t => (t.extractLsb' 0 8, t.extractLsb' 8 8)
  | .unreadable => (0x00, 0x00)

/-- A released card is compared with the read of its PASS (R66, step 2). -/
def State.compareRead (s : State) (n : Nat) (c : Context) (r : Read) : State :=
  if mismatched c r then
    (s.updateContext n (fun d => { d with idMismatch := true })).raise srcMerge .idMismatch (byteOf n) (readByte r)
  else s

/-- A released card finishes at PASS (R33, R37, R66). -/
def State.passCard (s : State) (n : Nat) (c : Context) : State :=
  match c.kind with
  | .retrieve =>
    if c.cancelRequested then
      (s.updateContext n (fun d => { d with delivered := true })).finishOrder n cardCancelled .none 0x00
    else s.finishOrder n cardDone .none 0x00
  | .store =>
    (s.updateContext n (fun d => { d with returned := true })).finishOrder n cardFailed
      ((c.failure.map (·.1)).getD .none) ((c.failure.map (·.2)).getD 0x00)

/-- PASS ends the release in flight (R66). -/
def State.passes (s : State) : State :=
  match s.release.merge with
  | .idle => s
  | .releasing _ e _ =>
    let r := s.release.exitRead.getD .unreadable
    match e with
    | .foreign => (s.raise srcMerge .foreignOut (foreignOut r).1 (foreignOut r).2).endRelease
    | .card n =>
      match s.ctx n with
      | none => s.endRelease
      | some c => ((s.compareRead n c r).passCard n c).endRelease

/-- The overdue timer has run out (R67). -/
def State.overdue (s : State) : State :=
  match s.release.merge with
  | .releasing x e (some 0) =>
    (s.setRelease { s.release with merge := .releasing x e none }).raise srcMerge .overdue (sideCode x) (entryByte e)
  | _ => s

/-- The whereabouts code of a card's phase (R70). -/
def whereaboutsByte : Phase → Byte
  | .pending => 0x02
  | .held => 0x03
  | .granted => 0x04
  | .inLane => 0x05
  | .onCar => 0x06
  | .inSpur => 0x07
  | _ => 0x00

/-- The whereabouts of N and the card that holds it (R70). -/
def State.whereabouts (s : State) : Byte × Byte :=
  match s.findOpen (fun c => c.holds s.release.n) with
  | some m => (((s.ctx m).map (fun c => whereaboutsByte c.phase)).getD 0x00, byteOf m)
  | none => if s.release.n ∈ s.release.voids then (0x01, 0xFF) else (0x00, 0xFF)

/-- The stall timer has run out (R70). -/
def State.stallExpires (s : State) : State :=
  if s.release.stall = some 0 then
    (s.setRelease { s.release with stall := none, stallReported := true }).raise srcRelease .stall s.whereabouts.1
      s.whereabouts.2
  else s

/-! ### The meanings -/

/-- EXIT_READY_CHANGE (R61, R62): its assertion brings a merge try. -/
def execExitReadyChange (ready : Bool) (s : State) : Result :=
  s.event (fun t =>
    let u := { t with lines := { t.lines with exitReady := ready } }
    if ready then u.tell .merge else u)

/-- EXIT_READER_RESULT (R66): a later result replaces an earlier one. A tote ID of 0 is held as it stands and is no card's ID
(log 43, DESIGN CHOICE). -/
def execExitReaderResult (read : Read) (s : State) : Result :=
  s.live (fun t => t.setRelease { t.release with exitRead := some read })

/-- PASS (R66). -/
def execPass (s : State) : Result := s.live State.passes

/-- OVERDUE_TIMER_EXPIRY (R67). -/
def execOverdueTimerExpiry (s : State) : Result := s.live State.overdue

/-- STALL_TIMER_EXPIRY (R70). -/
def execStallTimerExpiry (s : State) : Result := s.live State.stallExpires

end Sys2Proof.Machine
end

