-- ==== Sys2Proof/Machine/StoreUnit.lean ====
section
/-! DEFINITION. The profile store reports the end of its operation (R173–R175, R20). -/

namespace Sys2Proof.Machine

/-- The store operation is over: nothing is in flight. -/
def State.endStore (s : State) (profile : List Byte) (slots : Vector Slot 32) : State :=
  s.setStore { s.store with profile := profile, slots := slots, op := none }

/-- ERASE is over: its slots are what they read back, and no earlier failure is left (R174, R175; log 55). -/
def State.forgetFailures (s : State) : State := s.setStore { s.store with failed := Vector.replicate 32 false }

/-- The programming of a slot has failed: the slot has spoiled and stays used until ERASE, whatever it reads (R175, log 55). -/
def State.markFailed (s : State) (slot : Nat) : State :=
  s.setStore { s.store with failed := s.store.failed.setIfInBounds slot true }

/-- STORE_FAULT and then NO_PROFILE, each with the kind of the card as first detail byte (R173, R174). -/
def State.raiseStoreLost (s : State) (kind : Byte) (card : Nat) : State :=
  (s.raise srcStore .storeFault kind (byteOf card)).raise srcStore .noProfile kind 0x00

/-- The end of a COMMIT (R173). -/
def State.commitEnded (s : State) (o : StoreOp) (copy : List Byte) (completed : Bool) (readBack : List Byte) : State :=
  let t := s.endStore (areaOf readBack) s.store.slots
  if completed && areaOf readBack == copy then
    (t.adoptProfile copy).finishCard o.card cardDone .none 0x00 o.examined
  else
    ((t.loseProfile false).raiseStoreLost 0x0A o.card).finishCard o.card cardFailed .storeFault 0x00 o.examined

/-- The detail of a failed ERASE: which area did not read back erased (R174). -/
def eraseDetail (profile : List Byte) (slots : Vector Slot 32) : Byte :=
  bit (areaOf profile != erasedRecord) 0x01 ||| bit (!slots.toList.all slotIsErased) 0x02

/-- The end of an ERASE (R174). -/
def State.eraseEnded (s : State) (o : StoreOp) (profile : List Byte) (slots : Vector Slot 32) : State :=
  let t := ((s.endStore (areaOf profile) slots).forgetFailures).loseProfile true
  if eraseDetail profile slots = 0 then t.finishCard o.card cardDone .none 0x00 o.examined
  else
    (t.raiseStoreLost 0x0B o.card).finishCard o.card cardFailed .storeFault (eraseDetail profile slots) o.examined

/-- The end of a RETIRE (R20, R175). A failed slot is shown as it reads back. -/
def State.retireEnded (s : State) (o : StoreOp) (p slot : Nat) (readBack : Slot) : State :=
  let t := s.endStore s.store.profile (s.store.slots.setIfInBounds slot readBack)
  if slotIsValid readBack && slotLane readBack == p then
    (t.setStatus p { t.place p with retiring := false }).finishCard o.card cardDone .none 0x00 o.examined
  else
    (((t.markFailed slot).setStatus p { t.place p with retired := false, retiring := false }).raise srcStore .storeFault 0x09
      (byteOf o.card)).finishCard o.card cardFailed .storeFault 0x00 o.examined

/-! ### The meanings: each acts while its own operation is in flight (log 2) -/

/-- COMMIT_END (R173). -/
def execCommitEnd (completed : Bool) (readBack : List Byte) (s : State) : Result :=
  s.live (fun t =>
    match t.store.op with
    | none => t
    | some o => match o.work with | .commit copy => t.commitEnded o copy completed readBack | _ => t)

/-- ERASE_END (R174). -/
def execEraseEnd (profile : List Byte) (slots : Vector Slot 32) (s : State) : Result :=
  s.live (fun t =>
    match t.store.op with
    | none => t
    | some o => match o.work with | .erase => t.eraseEnded o profile slots | _ => t)

/-- RETIRE_END (R175). -/
def execRetireEnd (readBack : Slot) (s : State) : Result :=
  s.live (fun t =>
    match t.store.op with
    | none => t
    | some o => match o.work with | .retire p j => t.retireEnded o p j readBack | _ => t)

end Sys2Proof.Machine
end

