-- ==== Sys2Proof/Machine/Dispatch.lean ====
section
/-! DEFINITION. The meaning of each command: one arm for each constructor of Instr, one direct call each. -/

namespace Sys2Proof.Machine

/-- What a command does to everything but the queue. -/
def exec (i : Instr) (s : State) : Host.Outcome State Fault Refusal :=
  match i with
  | .powerOn aisle => Sys2Proof.Machine.execPowerOn aisle s
  | .reset aisle => Sys2Proof.Machine.execReset aisle s
  | .initEnd => Sys2Proof.Machine.execInitEnd s
  | .noProfile => Sys2Proof.Machine.execNoProfile s
  | .eStopAssert => Sys2Proof.Machine.execEStopAssert s
  | .eStopRelease => Sys2Proof.Machine.execEStopRelease s
  | .exchangeWrite offset bytes => Sys2Proof.Machine.execExchangeWrite offset bytes s
  | .postedWrite card value => Sys2Proof.Machine.execPostedWrite card value s
  | .freeWrite card => Sys2Proof.Machine.execFreeWrite card s
  | .acknowledge index => Sys2Proof.Machine.execAcknowledge index s
  | .clearEntry index => Sys2Proof.Machine.execClearEntry index s
  | .requestConfig => Sys2Proof.Machine.execRequestConfig s
  | .requestRun => Sys2Proof.Machine.execRequestRun s
  | .requestHold => Sys2Proof.Machine.execRequestHold s
  | .causeWrite value => Sys2Proof.Machine.execCauseWrite value s
  | .causeEnableWrite value => Sys2Proof.Machine.execCauseEnableWrite value s
  | .registerWrite offset width value => Sys2Proof.Machine.execRegisterWrite offset width value s
  | .badKind => Sys2Proof.Machine.execBadKind s
  | .retrieve => Sys2Proof.Machine.execRetrieve s
  | .store => Sys2Proof.Machine.execStore s
  | .cancel => Sys2Proof.Machine.execCancel s
  | .flush => Sys2Proof.Machine.execFlush s
  | .skip => Sys2Proof.Machine.execSkip s
  | .renumber => Sys2Proof.Machine.execRenumber s
  | .bar => Sys2Proof.Machine.execBar s
  | .unbarKeep => Sys2Proof.Machine.execUnbarKeep s
  | .unbarClear => Sys2Proof.Machine.execUnbarClear s
  | .retire => Sys2Proof.Machine.execRetire s
  | .commit => Sys2Proof.Machine.execCommit s
  | .erase => Sys2Proof.Machine.execErase s
  | .commitEnd completed readBack => Sys2Proof.Machine.execCommitEnd completed readBack s
  | .eraseEnd profile slots => Sys2Proof.Machine.execEraseEnd profile slots s
  | .retireEnd readBack => Sys2Proof.Machine.execRetireEnd readBack s
  | .dropAsk port level number tote => Sys2Proof.Machine.execDropAsk port level number tote s
  | .dropDone port level number side tote => Sys2Proof.Machine.execDropDone port level number side tote s
  | .dropAbort port level number side tote => Sys2Proof.Machine.execDropAbort port level number side tote s
  | .takeAsk port level number side => Sys2Proof.Machine.execTakeAsk port level number side s
  | .takeDone port level number side tote => Sys2Proof.Machine.execTakeDone port level number side tote s
  | .takeAbort port level number side => Sys2Proof.Machine.execTakeAbort port level number side s
  | .grantTimerExpiry level => Sys2Proof.Machine.execGrantTimerExpiry level s
  | .laneCount port level number counts => Sys2Proof.Machine.execLaneCount port level number counts s
  | .nothing port level => Sys2Proof.Machine.execNothing port level s
  | .overflow port level => Sys2Proof.Machine.execOverflow port level s
  | .restarted port level => Sys2Proof.Machine.execRestarted port level s
  | .resyncReport port level number next counts held last => Sys2Proof.Machine.execResyncReport port level number next counts held last s
  | .ack port level number => Sys2Proof.Machine.execAck port level number s
  | .visit port => Sys2Proof.Machine.execVisit port s
  | .exchangeUnanswered port => Sys2Proof.Machine.execExchangeUnanswered port s
  | .hello port => Sys2Proof.Machine.execHello port s
  | .checkError port => Sys2Proof.Machine.execCheckError port s
  | .relayedFrame port => Sys2Proof.Machine.execRelayedFrame port s
  | .status lift level accepted => Sys2Proof.Machine.execStatus lift level accepted s
  | .arrived lift trip stop => Sys2Proof.Machine.execArrived lift trip stop s
  | .stopDone lift trip stop result => Sys2Proof.Machine.execStopDone lift trip stop result s
  | .tripEnd lift trip => Sys2Proof.Machine.execTripEnd lift trip s
  | .ready lift => Sys2Proof.Machine.execReady lift s
  | .parkedAck lift => Sys2Proof.Machine.execParkedAck lift s
  | .state lift level front rear trip last fault => Sys2Proof.Machine.execState lift level front rear trip last fault s
  | .fault lift code => Sys2Proof.Machine.execFault lift code s
  | .liftFrameDiscard lift => Sys2Proof.Machine.execLiftFrameDiscard lift s
  | .unknownKindFrame lift => Sys2Proof.Machine.execUnknownKindFrame lift s
  | .silenceTimerExpiry lift => Sys2Proof.Machine.execSilenceTimerExpiry lift s
  | .commandResend lift => Sys2Proof.Machine.execCommandResend lift s
  | .stateAskRepeat lift => Sys2Proof.Machine.execStateAskRepeat lift s
  | .parkTimerExpiry lift => Sys2Proof.Machine.execParkTimerExpiry lift s
  | .wakeTimerExpiry lift => Sys2Proof.Machine.execWakeTimerExpiry lift s
  | .deadlineExpiry lift => Sys2Proof.Machine.execDeadlineExpiry lift s
  | .entryReaderResult read => Sys2Proof.Machine.execEntryReaderResult read s
  | .entryArrive => Sys2Proof.Machine.execEntryArrive s
  | .divertDone => Sys2Proof.Machine.execDivertDone s
  | .entryArriveDeassert => Sys2Proof.Machine.execEntryArriveDeassert s
  | .rejectFullChange full => Sys2Proof.Machine.execRejectFullChange full s
  | .spurCountChange spur count => Sys2Proof.Machine.execSpurCountChange spur count s
  | .mismatchTimerExpiry place => Sys2Proof.Machine.execMismatchTimerExpiry place s
  | .exitReadyChange ready => Sys2Proof.Machine.execExitReadyChange ready s
  | .exitReaderResult read => Sys2Proof.Machine.execExitReaderResult read s
  | .pass => Sys2Proof.Machine.execPass s
  | .overdueTimerExpiry => Sys2Proof.Machine.execOverdueTimerExpiry s
  | .stallTimerExpiry => Sys2Proof.Machine.execStallTimerExpiry s

end Sys2Proof.Machine
end

