-- ==== Sys2Proof/Machine/Idle.lean ====
section
/-! DEFINITION. What the module does by itself: the rows that are due now (examination, the chain's exchanges, timers that
have run out), and one millisecond of time (log 1, log 3, log 19). -/

namespace Sys2Proof.Machine

/-! ### Rows that are due -/

/-- The row that examines the card at the head of the post queue (R160). -/
def State.examination (s : State) (n : Nat) : Instr :=
  match (s.cardKind n).toNat with
  | 1 => .retrieve
  | 2 => .store
  | 3 => .cancel
  | 4 => .flush
  | 5 => .skip
  | 6 => .renumber
  | 7 => .bar
  | 8 => if s.clearOption n then .unbarClear else .unbarKeep
  | 9 => .retire
  | 10 => .commit
  | 11 => .erase
  | _ => .badKind

/-- A row that is due under a condition. -/
def dueIf (b : Bool) (i : Instr) : List Instr := if b then [i] else []

/-- What a chain port is to do now: count an exchange as unanswered, probe, or visit (R142, R143, R149). -/
def State.portDue (s : State) (p : Port) : List Instr :=
  match (s.chainPort p).exchange with
  | some x => dueIf (x.left == 0) (.exchangeUnanswered p)
  | none =>
    if (s.chainPort p).probeTimer = some 0 ∨ (s.chainPort p).probes ≠ [] then [.hello p]
    else dueIf (!(s.served p).isEmpty) (.visit p)

/-- The timers of a lift unit that have run out. -/
def State.liftDue (s : State) (x : Side) : List Instr :=
  let l := s.lift x
  dueIf (l.silence == some 0) (.silenceTimerExpiry x) ++
  dueIf (l.echo == some 0 && !l.queue.isEmpty) (.commandResend x) ++
  dueIf l.asksAgain (.stateAskRepeat x) ++
  dueIf (l.park == some 0 && l.state == .idle) (.parkTimerExpiry x) ++
  dueIf (l.wake == some 0 && (l.state == .parking || l.state == .waking)) (.wakeTimerExpiry x) ++
  dueIf (l.deadlineRuns && (l.trip.map (·.left)) == some 0) (.deadlineExpiry x)

/-- The overdue timer has run out. -/
def State.overdueDue (s : State) : Bool :=
  match s.release.merge with
  | .releasing _ _ (some 0) => true
  | _ => false

/-- The rows that are due now, in one order for the model (log 3); none during INIT. -/
def State.due (s : State) : List Instr :=
  if s.mode = .init then []
  else
    dueIf s.store.noProfileDue .noProfile ++
    (match s.board.postQueue with | [] => [] | n :: _ => [s.examination n]) ++
    s.liftDue .a ++ s.liftDue .b ++
    dueIf (s.release.stall == some 0) .stallTimerExpiry ++
    dueIf s.overdueDue .overdueTimerExpiry ++
    (List.range 169).flatMap (fun p => dueIf ((s.place p).mismatch == some 0) (.mismatchTimerExpiry p)) ++
    (List.range 40).flatMap (fun k =>
      dueIf (((s.grant (k + 1)).map (·.timer)).join == some 0) (.grantTimerExpiry (k + 1))) ++
    s.portDue .bottom ++ s.portDue .top

/-! ### One millisecond -/

/-- A running timer counts down; one that has run out stays so until its row is taken. -/
def Timer.tick : Timer → Timer
  | none => none
  | some r => some (r - 1)

/-- The deadline's time goes by while it runs (R121). -/
def Trip.tick (t : Trip) (runs : Bool) : Trip := if runs then { t with left := t.left - 1 } else t

def Lift.tick (l : Lift) : Lift :=
  { l with
    trip := l.trip.map (fun t => t.tick l.deadlineRuns)
    echo := l.echo.tick, park := l.park.tick, wake := l.wake.tick, silence := l.silence.tick, ask := l.ask.tick }

def ChainPort.tick (r : ChainPort) : ChainPort :=
  { r with
    exchange := r.exchange.map (fun x => { x with left := x.left - 1 })
    probeTimer := r.probeTimer.tick }

def Merge.tick : Merge → Merge
  | .idle => .idle
  | .releasing x e t => .releasing x e t.tick

/-- One millisecond goes by (R163): CLOCK counts, and so does every timer that runs. -/
def State.tick (s : State) : State :=
  { s with
    sent := []
    board := { s.board with clock := s.board.clock + 1 }
    places := s.places.map (fun q => { q with mismatch := q.mismatch.tick })
    release := { s.release with stall := s.release.stall.tick, merge := s.release.merge.tick }
    handover :=
      { s.handover with grants := s.handover.grants.map (fun g => g.map (fun r => { r with timer := r.timer.tick })) }
    lifts := ⟨s.lifts.a.tick, s.lifts.b.tick⟩
    chain := { s.chain with bottom := s.chain.bottom.tick, top := s.chain.top.tick } }

/-- The step on an empty queue: what is due joins the queue, and when nothing is due a millisecond goes by (log 1). -/
def State.idle (s : State) : State :=
  match s.due with
  | [] => s.tick
  | rows => { s with pending := rows }

end Sys2Proof.Machine
end

