-- ==== Sys2Proof/Machine/Frames.lean ====
section
/-! DEFINITION. Frames received (R154, 6.2.1): the tests that discard a frame at its port, the kinds and payloads of the
nodes' and the lifts' frames, and the command that the bytes of a frame spell. -/

namespace Sys2Proof.Machine

/-- A frame that has passed the tests of R154: its address, kind, number and payload. -/
structure Received where
  address : Byte
  kind : Byte
  number : BitVec 4
  payload : List Byte
deriving DecidableEq, Repr

/-- The length byte of received bytes (R154). -/
def frameLength (bs : List Byte) : Nat := (bs.getD 3 0x00).toNat

/-- The check word of R154 over bytes 0 to the end of the payload, high byte first. -/
def frameCheck (bs : List Byte) : List Byte :=
  let c := crc16 (bs.take (4 + frameLength bs))
  [c.extractLsb' 8 8, c.extractLsb' 0 8]

/-- A frame is discarded when its length byte exceeds 32, its length disagrees with the bytes received, a high bit of byte 2
is set, or its check word is wrong (R154). -/
def frameDiscarded (bs : List Byte) : Bool :=
  decide (32 < frameLength bs) || bs.length != 6 + frameLength bs || decide (16 ≤ (bs.getD 2 0x00).toNat) ||
    bs.drop (4 + frameLength bs) != frameCheck bs

/-- The frame that received bytes carry; `none` where it is discarded (R154). -/
def receivedFrame (bs : List Byte) : Option Received :=
  if frameDiscarded bs then none
  else
    some { address := bs.getD 0 0x00, kind := bs.getD 1 0x00, number := (bs.getD 2 0x00).setWidth 4,
           payload := (bs.drop 4).take (frameLength bs) }

/-! ### Fields -/

/-- A side byte of a frame: 01h A, 02h B (R154). -/
def sideOf (b : Byte) : Option Side := if b = 0x01 then some .a else if b = 0x02 then some .b else none

/-- A byte that holds a number of 0 to 15 (R151, 6.2.1). -/
def numberOf (b : Byte) : Option (BitVec 4) := if b.toNat < 16 then some (b.setWidth 4) else none

/-- A presence byte of a STATE: 00h or 01h (6.2.1). -/
def presentOf (b : Byte) : Option Bool := if b = 0x00 then some false else if b = 0x01 then some true else none

/-- The result byte of a STOP-DONE (6.2.1). -/
def resultOf (b : Byte) : Option StopResult :=
  match b.toNat with
  | 0 => some .ok
  | 1 => some .empty
  | 2 => some .blocked
  | 3 => some .jam
  | _ => none

/-- The last dialogue event of a RESYNC-REPORT: its code, its side and its tote ID (R151, R154). -/
def lastEventOf (code side : Byte) (tote : Word) : Option LastEvent :=
  match code.toNat with
  | 0x00 => some .none
  | 0x26 => some (.dropAsk tote)
  | 0x05 => (sideOf side).map (fun x => .dropGrant x tote)
  | 0x27 => (sideOf side).map (fun x => .dropDone x tote)
  | 0x28 => (sideOf side).map (fun x => .dropAbort x tote)
  | 0x29 => (sideOf side).map .takeAsk
  | 0x07 => (sideOf side).map .takeGrant
  | 0x2A => (sideOf side).map .takeDone
  | 0x2B => (sideOf side).map .takeAbort
  | _ => none

/-! ### Frames of the level nodes (R154) -/

/-- The command that a node's frame addressed 00h spells: kinds 20h to 2Bh, the level byte first in the payload. `none` for
bytes that no kind of the table lays out so (log 26). -/
def nodeCommand (p : Port) (f : Received) : Option Instr :=
  match f.kind.toNat, f.payload with
  | 0x20, [l] => some (.ack p l f.number)
  | 0x21, [l] => some (.nothing p l)
  | 0x22, [l] => some (.overflow p l)
  | 0x23, [l] => some (.restarted p l)
  | 0x24, [l, nx, c0, c1, c2, c3, h0, h1, h2, h3, k, x, t0, t1, t2, t3] =>
    match numberOf nx, lastEventOf k x (word t0 t1 t2 t3) with
    | some n, some e => some (.resyncReport p l f.number n ⟨c0, c1, c2, c3⟩ (word h0 h1 h2 h3) e)
    | _, _ => none
  | 0x25, [l, c0, c1, c2, c3] => some (.laneCount p l f.number ⟨c0, c1, c2, c3⟩)
  | 0x26, [l, t0, t1, t2, t3] => some (.dropAsk p l f.number (word t0 t1 t2 t3))
  | 0x27, [l, x, t0, t1, t2, t3] => (sideOf x).map (fun y => .dropDone p l f.number y (word t0 t1 t2 t3))
  | 0x28, [l, x, t0, t1, t2, t3] => (sideOf x).map (fun y => .dropAbort p l f.number y (word t0 t1 t2 t3))
  | 0x29, [l, x] => (sideOf x).map (fun y => .takeAsk p l f.number y)
  | 0x2A, [l, x, t0, t1, t2, t3] => (sideOf x).map (fun y => .takeDone p l f.number y (word t0 t1 t2 t3))
  | 0x2B, [l, x] => (sideOf x).map (fun y => .takeAbort p l f.number y)
  | _, _ => none

/-- The command that bytes received at a chain port spell: a discarded frame is CHECK_ERROR (R154); one addressed other than
00h, or one that answers no frame the HC40 sends, is discarded uncounted as RELAYED_FRAME is (R143). -/
def chainCommand (p : Port) (bs : List Byte) : Instr :=
  match receivedFrame bs with
  | none => .checkError p
  | some f => if f.address = 0x00 then (nodeCommand p f).getD (.relayedFrame p) else .relayedFrame p

/-! ### Frames of the lifts (6.2.1) -/

/-- The command that a lift's valid frame spells: kinds 50h to 57h. `none` for bytes that no kind of the table lays out so (R108,
log 26). A level above 40, a last stop above 8 and a FAULT of code 00h are taken as they stand (log 26, DESIGN CHOICE). -/
def liftKindCommand (x : Side) (f : Received) : Option Instr :=
  match f.kind.toNat, f.payload with
  | 0x50, [l, n] => (numberOf n).map (fun m => .status x l.toNat m)
  | 0x51, [t, i] => some (.arrived x t i.toNat)
  | 0x52, [t, i, r] => (resultOf r).map (fun q => .stopDone x t i.toNat q)
  | 0x53, [t] => some (.tripEnd x t)
  | 0x54, [] => some (.ready x)
  | 0x55, [] => some (.parkedAck x)
  | 0x56, [l, d0, d1, t, i, c] =>
    match presentOf d0, presentOf d1 with
    | some front, some rear => some (.state x l.toNat front rear t i.toNat c)
    | _, _ => none
  | 0x57, [c] => some (.fault x c)
  | _, _ => none

/-- The command that bytes received on a lift link spell (R108): a frame that fails the tests of R154 or has another address
than 00h is LIFT_FRAME_DISCARD, and a valid one of no kind of the table is UNKNOWN_KIND_FRAME. -/
def liftCommand (x : Side) (bs : List Byte) : Instr :=
  match receivedFrame bs with
  | none => .liftFrameDiscard x
  | some f => if f.address = 0x00 then (liftKindCommand x f).getD (.unknownKindFrame x) else .liftFrameDiscard x

/-- The command that bytes received on a serial link spell. -/
def linkCommand : Link → List Byte → Instr
  | .chain p, bs => chainCommand p bs
  | .lift x, bs => liftCommand x bs

/-- Bytes received on a link: the command they spell waits behind the others (R108: in the order of their arrival). -/
def State.receive (s : State) (l : Link) (bs : List Byte) : State := { s with pending := s.pending ++ [linkCommand l bs] }

end Sys2Proof.Machine
end

