-- ==== Sys2Proof/Safety.lean ====
section
/-! DEFINITION. The predicates the statements are made of: the model's invariant, and what it means that a command's own
effect leads to a state. -/

namespace Sys2Proof.Machine

/-- The active profile, and the record that a COMMIT in flight carries, pass the check of R170. -/
structure Store.Sound (st : Store) : Prop where
  active : ∀ r, st.active = some r → checkRecord r = none
  copy : ∀ o r, st.op = some o → o.work = .commit r → checkRecord r = none

/-- The queue is `q`, the change count of the finish list is even (R156), and the exchange memory's cells stand in their
one form, and every profile in use is valid. -/
structure Safe (q : List Instr) (s : State) : Prop where
  pending : s.pending = q
  even : s.board.changeCount.toNat % 2 = 0
  memory : Memory.wf s.board.mem = true
  store : s.store.Sound

/-- The model's invariant between two commands: as `Safe`, and no neighbour is left waiting to act. -/
structure Inv (s : State) : Prop where
  even : s.board.changeCount.toNat % 2 = 0
  memory : Memory.wf s.board.mem = true
  store : s.store.Sound
  wake : s.wake = []

/-- The parts of a place record that no neighbour alters: all but the contents, the reservations, the lock and the mismatch
timer. -/
def Place.standing (q : Place) : Place := { q with entries := [], res := 0, lock := .none, mismatch := none }

/-- The parts of the state that no neighbour told of a change ever alters (R7): the commands waiting, the mode, the input
lines, the profile store, the post queue, the cause latches, CAUSE ENABLE, CLOCK and the aisle number, every place's fitted,
retired, frozen, barred and awaiting marks and its sensed count, the node records but for their queues, the port records, and
every condition entry but the entry unit's (which stands cleared here). -/
structure Calm where
  pending : List Instr
  mode : Mode
  lines : Lines
  store : Store
  postQueue : List Nat
  latchMode : Bool
  latchMisuse : Bool
  latchRefused : Bool
  enable : BitVec 5
  clock : Word
  aisle : BitVec 6
  places : Vector Place 169
  nodes : Vector Node 40
  bottom : ChainPort
  top : ChainPort
  conditions : Vector CondEntry 48

def State.calm (s : State) : Calm where
  pending := s.pending
  mode := s.mode
  lines := s.lines
  store := s.store
  postQueue := s.board.postQueue
  latchMode := s.board.latchMode
  latchMisuse := s.board.latchMisuse
  latchRefused := s.board.latchRefused
  enable := s.board.enable
  clock := s.board.clock
  aisle := s.board.aisle
  places := s.places.map Place.standing
  nodes := s.chain.nodes.map (fun nd => { nd with queue := [] })
  bottom := s.chain.bottom
  top := s.chain.top
  conditions := s.conditions.setIfInBounds srcEntry {}

/-- The book-keeping of the cards, the held asks: the post queue holds POSTED cards and the finish list final ones, each once
(R158, R159, R162); an open order's card is TAKEN, and so is the card of a store operation in flight, which has no order
(R157, R160); an open order's level is a level of the aisle (R24); no level has two held asks (R84). -/
structure Roster (s : State) : Prop where
  posted : s.board.postQueue.Nodup ∧ ∀ n ∈ s.board.postQueue, n < 128 ∧ s.cardState n = cardPosted
  finished : s.board.finishList.Nodup ∧ ∀ n ∈ s.board.finishList, n < 128 ∧ cardFinal (s.cardState n) = true
  taken : ∀ n c, s.ctx n = some c → s.cardState n = cardTaken
  levels : ∀ n c, s.ctx n = some c → 1 ≤ c.level ∧ c.level ≤ 40
  storing : ∀ o, s.store.op = some o → o.card < 128 ∧ s.cardState o.card = cardTaken ∧ s.ctx o.card = none
  asks : (s.handover.held.map (·.level)).Nodup

/-- The command's own effect on `s` leads to `u`; then every neighbour told of a change acts (R7), and that is the next
state. -/
def Leads (c : Instr) (s u : State) : Prop := exec c s = .next u.resolved

/-- The commands that INIT takes: power-on, RESET, its own end, and the levels of the input lines (log 9). -/
def takenInInit : Instr → Bool
  | .powerOn _ => true
  | .reset _ => true
  | .initEnd => true
  | .eStopAssert => true
  | .eStopRelease => true
  | .entryArrive => true
  | .entryArriveDeassert => true
  | .rejectFullChange _ => true
  | .spurCountChange _ _ => true
  | .exitReadyChange _ => true
  | _ => false

/-- No NO_PROFILE is due: in INIT none is, and outside it the first event has raised it (R171). What happens where one is due is
said by the statement InitEnd. -/
def State.Reported (s : State) : Prop := s.mode ≠ .init → s.store.noProfileDue = false

/-- Commands are taken: the mode is not INIT, and no NO_PROFILE is due. -/
structure Live (s : State) : Prop where
  mode : s.mode ≠ .init
  reported : s.store.noProfileDue = false

/-- Commands are taken, and no neighbour is left waiting. -/
structure Awake (s : State) : Prop where
  mode : s.mode ≠ .init
  quiet : s.wake = []
  reported : s.store.noProfileDue = false

/-- A 32-bit field of a card (9.3). -/
def State.cardWord (s : State) (n i : Nat) : Word :=
  word (s.cardByte n i) (s.cardByte n (i + 1)) (s.cardByte n (i + 2)) (s.cardByte n (i + 3))

/-- The outcome a card carries (9.3, R161): its final state, reason, detail, side used, result flags, the three stamps and the
trip number. -/
structure CardOutcome (t : State) (n : Nat) (final : Byte) (r : ReasonCode) (detail side flags : Byte) (examined bound finished : Word)
    (trip : Byte) : Prop where
  state : t.cardState n = final
  reason : t.cardByte n 32 = reasonByte r
  detail : t.cardByte n 33 = detail
  side : t.cardByte n 34 = side
  flags : t.cardByte n 35 = flags
  examined : t.cardWord n 36 = examined
  bound : t.cardWord n 40 = bound
  finished : t.cardWord n 44 = finished
  trip : t.cardByte n 48 = trip

/-- The finish of card `n` took `u` to `t` and wrote nothing but the card's state byte and outcome bytes, the finish list and
the change count, and the REFUSED latch for a refused card (R161, R162). -/
structure FinishFrame (u t : State) (n : Nat) (final : Byte) : Prop where
  list : t.board.finishList = u.board.finishList ++ [n]
  count : t.board.changeCount = u.board.changeCount + 2
  refused : t.board.latchRefused = (u.board.latchRefused || final == cardRefused)
  memory : ∀ a, a ≠ cardAddr n 0 → (a < cardAddr n 32 ∨ cardAddr n 48 < a) →
    Memory.read t.board.mem a = Memory.read u.board.mem a
  board : { t.board with mem := u.board.mem, finishList := u.board.finishList, changeCount := u.board.changeCount,
                         latchRefused := u.board.latchRefused } = u.board
  rest : { t with board := u.board } = u

/-- A card without an order context finished with `u` becoming `t` (R161). -/
def FinishedAs (u t : State) (n : Nat) (final : Byte) (r : ReasonCode) (detail : Byte) (examined : Word) : Prop :=
  CardOutcome t n final r detail 0x00 0x00 examined 0 u.stamp 0x00 ∧ FinishFrame u t n final

/-- The examiner is about to take card `n` of kind `k`, with `rest` behind it (R160). -/
structure Head (s : State) (k : Byte) (n : Nat) (rest : List Nat) : Prop where
  awake : Awake s
  queue : s.board.postQueue = n :: rest
  slot : n < 128
  kind : s.cardKind n = k

/-- The state in which a card at the head is examined: it has left the post queue (R159). -/
def State.examining (s : State) (rest : List Nat) : State := s.begin.takeHead rest

/-! ### Reports of the level chain (R145) -/

/-- A numbered report of a level: the port it arrives at, its level byte and its report number (R144, R145). -/
def reportOf : Instr → Option (Port × Byte × BitVec 4)
  | .dropAsk p l n _ => some (p, l, n)
  | .dropDone p l n _ _ => some (p, l, n)
  | .dropAbort p l n _ _ => some (p, l, n)
  | .takeAsk p l n _ => some (p, l, n)
  | .takeDone p l n _ _ => some (p, l, n)
  | .takeAbort p l n _ => some (p, l, n)
  | .laneCount p l n _ => some (p, l, n)
  | _ => none

/-- What a report of level `k` brings once it is taken: an ask is tried (R74, R81), a DONE or ABORT ends the open grant it
names and is otherwise discarded (R79, R80, R82, R83), a lane count is sensed (R10). -/
def State.handReport (s : State) (k : Nat) : Instr → State
  | .dropAsk _ _ _ t => s.askDrop k t
  | .dropDone _ _ _ x t => s.grantReport k (fun g => g.isDrop x t) (fun v g => v.dropDone k g)
  | .dropAbort _ _ _ x t => s.grantReport k (fun g => g.isDrop x t) (fun v g => v.dropAbort k g)
  | .takeAsk _ _ _ x => s.askTake k x
  | .takeDone _ _ _ x t => s.grantReport k (fun g => g.isTake x) (fun v g => v.takeDone k g t)
  | .takeAbort _ _ _ x => s.grantReport k (fun g => g.isTake x) (fun v g => v.takeAbort k g)
  | .laneCount _ _ _ c => s.laneCounts k c
  | _ => s

/-- A POLL to level `k` is in progress at port `p` (R142). -/
def State.polls (s : State) (p : Port) (k : Nat) : Prop := ∃ left, (s.chainPort p).exchange = some ⟨k, .poll, left⟩

/-- A report is taken in its order: commands are taken, the port polls the level, its node is ALIVE, and the number is the one
expected or none is expected yet (R145). -/
structure InOrder (s : State) (p : Port) (level : Byte) (number : BitVec 4) : Prop where
  mode : s.mode ≠ .init
  reported : s.store.noProfileDue = false
  poll : s.polls p level.toNat
  alive : s.alive level.toNat = true
  number : (s.node level.toNat).expected = none ∨ (s.node level.toNat).expected = some number

/-- The state in which a report is handed over: the exchange has ended, the node has answered and its next report number is
expected (R143, R145). -/
def State.handed (s : State) (p : Port) (k : Nat) (number : BitVec 4) : State :=
  (s.begin.answered p k .advance).updateNode k (fun nd => { nd with expected := some (number + 1) })

/-- No DEAD node stands between level `k` and the end of the chain at a port (R148). -/
def State.clearWay (s : State) (k : Nat) : Port → Prop
  | .bottom => ∀ i, 1 ≤ i → i < k → (s.node i).state ≠ .dead
  | .top => ∀ i, k < i → i ≤ 40 → (s.node i).state ≠ .dead

/-- The port that R148 assigns level `k`: its profile side where the way there is clear, otherwise the other side where that is,
otherwise none. -/
def State.Assigns (s : State) (k : Nat) (r : Option Port) : Prop :=
  (s.clearWay k (s.profileSide k) ∧ r = some (s.profileSide k)) ∨
  (¬s.clearWay k (s.profileSide k) ∧ s.clearWay k (otherPort (s.profileSide k)) ∧ r = some (otherPort (s.profileSide k))) ∨
  (¬s.clearWay k (s.profileSide k) ∧ ¬s.clearWay k (otherPort (s.profileSide k)) ∧ r = none)

/-- The assignment of the nodes of `s` has been recomputed, which gave `t` (R148): OFF and DEAD nodes stand; a served node whose
port stays stands; one assigned anew has FACE at the front of its queue, and, where its first command was sent and unanswered, that
command gone and RESYNC-ASK at the end; a CUT one that is assigned is SEEKING with FACE alone; one that no port reaches is CUT
with an empty queue and no expected number. -/
def Reassigned (s t : State) : Prop :=
  ∀ k r, 1 ≤ k → k ≤ 40 → t.Assigns k r →
    ((s.node k).state = .off ∨ (s.node k).state = .dead → t.node k = s.node k) ∧
    (∀ q, (s.node k).served = true → r = some q → (s.node k).port = some q → t.node k = s.node k) ∧
    (∀ q, (s.node k).served = true → r = some q → (s.node k).port ≠ some q →
      t.node k = { s.node k with
        port := some q, sends := 0
        queue := .face q ::
          if (s.node k).sends = 0 then (s.node k).queue
          else (s.node k).queue.tail ++ (if ChainCmd.resyncAsk ∈ (s.node k).queue.tail then [] else [.resyncAsk]) }) ∧
    (∀ q, (s.node k).state = .cut → r = some q →
      t.node k = { s.node k with state := .seeking, port := some q, queue := [.face q], sends := 0 }) ∧
    ((s.node k).served = true → r = none →
      t.node k = { s.node k with state := .cut, port := none, queue := [], sends := 0, expected := none }) ∧
    ((s.node k).state = .cut → r = none → t.node k = s.node k)

/-! ### The place mirror (R21) -/

/-- The exchange memory shows place `p`'s mirror record as the state gives it. -/
def State.Mirrored (s : State) (p : Nat) : Prop :=
  ∀ i, i < 8 → Memory.read s.board.mem (0x3000 + 8 * p + i) = (s.mirrorRecord p).getD i 0x00

/-- A place's entries and reservations fit in it (R4). -/
def State.Within (s : State) (p : Nat) : Prop := (s.entries p).length + (s.place p).res ≤ capacity p

/-! ### Received bytes (R154) -/

/-- A frame that is discarded at its port (R154): its length byte, the fourth, is above 32 or disagrees with the bytes received, a
high bit of the third byte is set, or the last two bytes are not the check word, high byte first, of those before. -/
def BadFrame (bs : List Byte) : Prop :=
  let length := (bs.getD 3 0x00).toNat
  let check := crc16 (bs.take (4 + length))
  32 < length ∨ bs.length ≠ 6 + length ∨ 16 ≤ (bs.getD 2 0x00).toNat ∨
    bs.drop (4 + length) ≠ [check.extractLsb' 8 8, check.extractLsb' 0 8]

/-! ### Frames of a lift (R108) -/

/-- The link of lift `x` is locked and frames are taken. -/
structure LinkUp (s : State) (x : Side) : Prop where
  mode : s.mode ≠ .init
  reported : s.store.noProfileDue = false
  locked : (s.lift x).state ≠ .offline

/-- The state in which a frame of lift `x` is taken: its silence timer has started again (R109). -/
def State.heard (s : State) (x : Side) : State := s.begin.updateLift x (fun l => { l with silence := some 300 })

/-- Stop `i` of lift `x`'s trip `t` is its current stop, in phase `ph`, and a frame that names trip and stop names it
(R111). -/
structure CurrentStop (s : State) (x : Side) (t : Trip) (i : Nat) (st : Stop) (ph : StopPhase) (trip : Byte) (stop : Nat) :
    Prop where
  held : (s.lift x).trip = some t
  current : t.current = some i
  record : t.stop i = some st
  phase : t.phase = ph
  trip : t.number = trip
  index : i + 1 = stop

end Sys2Proof.Machine
end

