-- ==== Sys2Proof/Certificates/Slice0/Obligations.lean ====
section
/-! DEFINITION. The statements for the provers. -/

open Sys2Proof Sys2Proof.Machine

/-! ### The block and its queue -/

/-- A step takes the command at the front of the queue: it is `exec` of that command on the state with the queue's rest. -/
def Obligations.StepRunsFront : Prop :=
  ∀ (c : Instr) (rest : List Instr) (s : State), s.pending = c :: rest → step s = exec c { s with pending := rest }

/-- Which rows are due: none in INIT; otherwise, each and no other, NO_PROFILE where it is to be raised, the examination of the card at
the head of the post queue, the row of that card's kind, the expiry row of each timer that stands at 0 in the state its rule asks for, the
resend of a command, HELLO at a port between exchanges whose second has passed or that has probes left, and VISIT at any other port between
exchanges that serves a level. On an empty queue what is due joins the queue; when nothing is due one millisecond goes by: CLOCK counts it (R163), every timer
that runs counts one millisecond down (mismatch, grant, stall, overdue, the lifts' echo, park, wake, silence and STATE-ASK timers, the
ports' probe timers, an exchange's 2 ms, a deadline that runs, R121), and one that is stopped stays stopped. That the queue is
served this way is the model's choice (log 1, DESIGN CHOICE). -/
def Obligations.IdleStep : Prop :=
  ∀ s : State, s.pending = [] →
    let down (r : Timer) : Timer := r.map (fun k => k - 1)
    let port (r : ChainPort) : ChainPort := { r with
      exchange := r.exchange.map (fun e => { e with left := e.left - 1 }), probeTimer := down r.probeTimer }
    let rows : List Instr := [.badKind, .retrieve, .store, .cancel, .flush, .skip, .renumber, .bar]
    (s.mode = .init → s.due = []) ∧
    (s.mode ≠ .init → ∀ c, c ∈ s.due ↔
      (c = .noProfile ∧ s.store.noProfileDue = true) ∨
      (∃ n rest, s.board.postQueue = n :: rest ∧
        let k := (s.cardKind n).toNat
        c = if k < 8 then rows.getD k .badKind else if k = 8 then (if s.clearOption n = true then .unbarClear else .unbarKeep)
          else if k = 9 then .retire else if k = 10 then .commit else if k = 11 then .erase else .badKind) ∨
      (∃ x, let l := s.lift x
        (c = .silenceTimerExpiry x ∧ l.silence = some 0) ∨ (c = .commandResend x ∧ l.echo = some 0 ∧ l.queue ≠ []) ∨
        (c = .stateAskRepeat x ∧ l.ask = some 0 ∧ l.state = .syncing) ∨ (c = .parkTimerExpiry x ∧ l.park = some 0 ∧ l.state = .idle) ∨
        (c = .wakeTimerExpiry x ∧ l.wake = some 0 ∧ (l.state = .parking ∨ l.state = .waking)) ∨
        (c = .deadlineExpiry x ∧ l.state = .onTrip ∧
          ∃ t, l.trip = some t ∧ t.left = 0 ∧ t.expired = false ∧ t.phase ≠ .waitingMode)) ∨
      (c = .stallTimerExpiry ∧ s.release.stall = some 0) ∨
      (c = .overdueTimerExpiry ∧ ∃ x e, s.release.merge = .releasing x e (some 0)) ∨
      (∃ p, p < 169 ∧ c = .mismatchTimerExpiry p ∧ (s.place p).mismatch = some 0) ∨
      (∃ k g, 1 ≤ k ∧ k ≤ 40 ∧ c = .grantTimerExpiry k ∧ s.grant k = some g ∧ g.timer = some 0) ∨
      (∃ p, let r := s.chainPort p
        let probes := r.probeTimer = some 0 ∨ r.probes ≠ []
        (c = .exchangeUnanswered p ∧ ∃ e, r.exchange = some e ∧ e.left = 0) ∨ (c = .hello p ∧ r.exchange = none ∧ probes) ∨
        (c = .visit p ∧ r.exchange = none ∧ ¬probes ∧ s.served p ≠ []))) ∧
    (s.due ≠ [] → step s = .next { s with pending := s.due }) ∧
    (s.due = [] → ∃ t, step s = .next t ∧ t.board.clock = s.board.clock + 1 ∧ t.pending = [] ∧ t.mode = s.mode ∧
      t.contexts = s.contexts ∧ t.conditions = s.conditions ∧ t.store = s.store ∧ t.entry = s.entry ∧ t.lines = s.lines ∧
      { t.board with clock := s.board.clock } = s.board ∧
      (∀ p, t.place p = { s.place p with mismatch := down (s.place p).mismatch }) ∧
      (∀ k, t.grant k = (s.grant k).map (fun g => { g with timer := down g.timer })) ∧
      t.handover.held = s.handover.held ∧ t.release.stall = down s.release.stall ∧
      t.release.merge = (match s.release.merge with | .idle => .idle | .releasing x e r => .releasing x e (down r)) ∧
      { t.release with stall := s.release.stall, merge := s.release.merge } = s.release ∧
      (∀ x, let l := s.lift x
        t.lift x = { l with
          echo := down l.echo, park := down l.park, wake := down l.wake, silence := down l.silence, ask := down l.ask
          trip := l.trip.map (fun r => { r with
            left := if l.state = .onTrip ∧ r.expired = false ∧ r.phase ≠ .waitingMode then r.left - 1 else r.left }) }) ∧
      t.chain.bottom = port s.chain.bottom ∧ t.chain.top = port s.chain.top ∧ t.chain.nodes = s.chain.nodes)

/-- The invariants hold after reset: the change count is even, the exchange memory's cells stand in their canonical form, no
invalid profile is in use, nobody is left waiting; and the lists of cards and asks are in order, being empty: no card is posted or
finished, none has an order or a store operation, and no ask is held. -/
def Obligations.InvariantAtReset : Prop :=
  Inv State.reset ∧ Roster State.reset ∧ State.reset.board.postQueue = [] ∧ State.reset.board.finishList = [] ∧
    (∀ n, State.reset.ctx n = none) ∧ State.reset.store.op = none ∧ State.reset.handover.held = []

/-- Every step keeps the invariant, from any state that has it: the change count stays even (R156), the exchange memory's cells
stay in their canonical form, the active profile and a record being committed pass the check of R170, and nobody is left
waiting to act (R7). -/
def Obligations.StepKeepsInvariant : Prop := ∀ s t : State, Inv s → step s = .next t → Inv t

/-- Every step keeps the book-keeping of cards and asks, from any state that has it: the post queue holds POSTED cards and the finish
list final ones, each once (R157 to R162); an open order's card, and the card of a store operation in flight, is TAKEN; an open order's
level is 1 to 40 (R24, R28); no level has more than one held ask (R84). -/
def Obligations.StepKeepsRoster : Prop := ∀ s t : State, Inv s → Roster s → step s = .next t → Roster t

/-- Every command, in every state, is answered with a next state: the block never stops. The command leaves the queue as it
is, and no neighbour told of a change is left waiting (R7). -/
def Obligations.EveryCommandCompletes : Prop :=
  ∀ (c : Instr) (s : State), ∃ t, exec c s = .next t ∧ t.pending = s.pending ∧ t.wake = []

/-- Whatever neighbours act at the end of an event, and in whatever order (log 5), they leave alone the queue, the mode, the
input lines, the profile store, the post queue, the latches, CAUSE ENABLE, CLOCK, every place's marks and sensed count, the
node records but for their queues, the ports, and every condition entry but the entry unit's; where none was told of a
change nothing at all changes; and outside RUN they issue no work: no grant, no release at the merge, no motion of the divert,
no plan or trip, no change of a lift's state, no lane lock taken or released. -/
def Obligations.NeighboursKeepFrame : Prop :=
  ∀ s : State, s.resolved.calm = s.calm ∧ (s.wake = [] → s.resolved = s) ∧
    (s.mode ≠ .run →
      s.resolved.handover.grants = s.handover.grants ∧ s.resolved.release.merge = s.release.merge ∧
      s.resolved.entry = s.entry ∧ (∀ p, (s.resolved.place p).lock = (s.place p).lock) ∧
      ∀ x, (s.resolved.lift x).state = (s.lift x).state ∧ (s.resolved.lift x).pending = (s.lift x).pending ∧
        (s.resolved.lift x).trip.map (·.number) = (s.lift x).trip.map (·.number))

/-- During INIT a command other than power-on, RESET, INIT's end and the levels of the input lines changes nothing but the
list of frames just sent (R155, R179; log 9, DEDUCED). A row of an input line sets that line's level and changes nothing else: no
arrival, no removal by hand, no sensed count, no release, no reject and no change of mode (log 9, DEDUCED); what INIT's end makes of the
levels is the statement InitEnd. -/
def Obligations.InitIgnoresCommands : Prop :=
  ∀ s : State, s.mode = .init → s.wake = [] →
    let becomes (c : Instr) (l : Lines) : Prop := exec c s = .next { s with sent := [], lines := l }
    (∀ c, takenInInit c = false → exec c s = .next { s with sent := [] }) ∧
    becomes .entryArrive { s.lines with entryArrive := true } ∧
    becomes .entryArriveDeassert { s.lines with entryArrive := false } ∧
    (∀ full, becomes (.rejectFullChange full) { s.lines with rejectFull := full }) ∧
    (∀ ready, becomes (.exitReadyChange ready) { s.lines with exitReady := ready }) ∧
    (∀ spur count, becomes (.spurCountChange spur count)
      { s.lines with spurCounts := s.lines.spurCounts.setIfInBounds (spurPlace spur - 160) count }) ∧
    becomes .eStopAssert { s.lines with eStop := true } ∧ becomes .eStopRelease { s.lines with eStop := false }

/-- Power-on and RESET begin INIT whatever the state (R178; INIT's work in that one event: log 8): the registers, lists, contexts,
conditions, grants, trips, plans and nodes are as INIT leaves them, no output line is driven, the queue and the input lines stand,
and a stored profile that passes its check becomes active (R171). A slot whose RETIRE failed stays spoiled (log 55). A store operation in flight ends where
it stood: a COMMIT cut short leaves the slots, and a record that fails at item 1 or, cut after its last byte, its copy; an ERASE a
record that fails at item 1; a RETIRE a spoiled slot and the rest as it was (R170, R171; log 11). Lanes are empty
and await rebuild, fitted and retired by the profile and the slots; spurs and the divert are taken from their inputs (R1, R15, R129). The exchange memory reads, at every
offset, what INIT leaves: 00h in the header, FFh in the finish list, 00h in the condition table, the cards and the image, the views
of the profile and of the slots, the place mirror's records (R22), and above 4000h 00h after power-on and what it held after RESET
(R155). The position of the aisle switch that the command carries is log 7; what the lift, node and port records hold beside the
items of R107 and R139 (send counts, echo and STATE-ASK timers, visit position, probes) is log 36 (DESIGN CHOICE). Right after power-on with the inputs deasserted and
the areas erased (logs 6, 7) this is State.reset: power-on there leads to it again. -/
def Obligations.PowerOnAndReset : Prop :=
  (State.reset.pending = [] ∧ State.reset.mode = .init ∧ State.reset.store.profile = erasedRecord ∧
    (∀ x ∈ State.reset.store.slots.toList, x = slotErased) ∧ (∀ f ∈ State.reset.store.failed.toList, f = false) ∧ exec (.powerOn 0) State.reset = .next State.reset) ∧
  ∀ (aisle : BitVec 6) (s : State) (c : Instr), c = .powerOn aisle ∨ c = .reset aisle →
    ∃ t, exec c s = .next t ∧ t.pending = s.pending ∧ t.lines = s.lines ∧ t.mode = .init ∧ t.board.clock = 0 ∧
      t.board.aisle = aisle ∧ t.board.enable = 0 ∧ t.cause = 0 ∧ t.interruptLine = false ∧ t.board.postQueue = [] ∧
      t.board.finishList = [] ∧ t.board.changeCount = 0 ∧ t.release.n = 0 ∧ t.release.voids = [] ∧
      t.release.bound = ⟨[], []⟩ ∧ t.release.stall = none ∧ t.release.merge = .idle ∧ t.entry.motion = .idle ∧
      t.entry.read = none ∧ (∀ x, t.gateDriven x = false ∧ t.divertDriven x = false) ∧ t.rejectDriven = false ∧
      (∀ n, t.ctx n = none) ∧ (∀ n, n < 128 → t.cardState n = cardFree) ∧ (∀ k, t.grant k = none) ∧
      t.handover.held = [] ∧ (∀ src, t.cond src = {}) ∧ (∀ x, t.lift x = {}) ∧ (∀ k, t.node k = {}) ∧
      t.chain.bottom = {} ∧ t.chain.top = {} ∧ t.store.op = none ∧ t.store.noProfileDue = false ∧
      (s.store.op = none → t.store.profile = s.store.profile ∧ t.store.slots = s.store.slots) ∧
      (∀ o, s.store.op = some o → match o.work with
        | .commit copy => t.store.slots = s.store.slots ∧
            (checkRecord t.store.profile = some 1 ∨ t.store.profile = copy)
        | .erase => checkRecord t.store.profile = some 1
        | .retire _ j => t.store.profile = s.store.profile ∧ ∀ i (h : i < 32),
            if i = j then slotIsSpoiled t.store.slots[i] = true else t.store.slots[i] = s.store.slots[i]) ∧
      t.store.failed = s.store.failed ∧
      t.store.active = (if checkRecord t.store.profile = none then some t.store.profile else none) ∧
      (∀ p, p < 160 → t.place p =
        { fitted := t.fits p, retired := t.hasProfile && slotsRetire t.store.judged t.levels p, awaiting := true }) ∧
      (∀ p, 160 ≤ p → p < 164 → let count := min 3 ((s.lines.spurCounts[p - 160]?).getD 0)
        t.place p = { entries := List.replicate count .foreign, sensed := some count }) ∧
      (∀ p, 164 ≤ p → p < 168 → t.place p = {}) ∧
      t.place divert = { entries := if s.lines.entryArrive then [.foreign] else [] } ∧
      (∀ a, a < 0x0040 → t.exchangeByte a = 0x00) ∧
      (∀ a, 0x0040 ≤ a → a < 0x00C0 → t.exchangeByte a = 0xFF) ∧
      (∀ a, 0x00C0 ≤ a → a < 0x0A00 → t.exchangeByte a = 0x00) ∧
      (∀ i, i < 0x0200 → t.exchangeByte (0x0A00 + i) = ((t.store.active.getD [])[i]?).getD 0x00) ∧
      (∀ j i, j < 32 → i < 4 →
        t.exchangeByte (0x0C00 + 4 * j + i) = ((t.store.slots[j]?).map (fun x => slotByte x i)).getD 0x00) ∧
      (∀ a, 0x0C80 ≤ a → a < 0x3000 → t.exchangeByte a = 0x00) ∧
      (∀ p i, p < 169 → i < 8 → t.exchangeByte (0x3000 + 8 * p + i) = (t.mirrorRecord p).getD i 0x00) ∧
      (∀ a, 0x3548 ≤ a → a < 0x4000 → t.exchangeByte a = 0x00) ∧
      (∀ a, 0x4000 ≤ a → t.exchangeByte a = if c = .reset aisle then s.exchangeByte a else 0x00)

/-- INIT_END (R178): the mode becomes CONFIG; of the latches MODE alone is set, and CAUSE ENABLE is 0; with an active profile
every node of a level up to LEVELS is SEEKING at its profile side and the others are OFF (R141), without one NO_PROFILE is due;
no condition is raised, and the store's areas and the active profile stand. In the first event after it, whatever its command, a
NO_PROFILE that is due is raised at the profile store source with detail 0000h, once, before anything else of the event (R171; that
it comes first in the event is log 4); the row NO_PROFILE does that alone, and changes nothing where none is due (log 2, DEDUCED). At
INIT_END the spurs and the divert are taken from their inputs again (R15, R129; log 9, DEDUCED), and the chain's start sends FACE
BOTTOM to 3Fh through each port, bottom first, and queues FACE TOP as the first command of each level above SPLIT (R141). -/
def Obligations.InitEnd : Prop :=
  (∀ s : State, s.mode ≠ .init → s.store.noProfileDue = true →
    let u := { s with
      store := { s.store with noProfileDue := false }
      conditions := s.conditions.setIfInBounds srcStore ((s.cond srcStore).raised .noProfile 0x00 0x00 s.stamp) }
    (∀ c, exec c s = exec c u) ∧ (s.wake = [] → exec .noProfile s = .next { u with sent := [] })) ∧
  (∀ s : State, Awake s → exec .noProfile s = .next { s with sent := [] }) ∧
  ∀ s : State, s.mode = .init →
    ∃ t, exec .initEnd s = .next t ∧ t.mode = .config ∧ t.board.latchMode = true ∧ t.board.latchMisuse = false ∧
      t.board.latchRefused = false ∧ t.board.enable = 0 ∧ t.interruptLine = false ∧ t.board.clock = s.board.clock ∧
      t.pending = s.pending ∧ t.lines = s.lines ∧ t.store.profile = s.store.profile ∧ t.store.slots = s.store.slots ∧
      t.store.active = s.store.active ∧ (s.wake = [] → t.conditions = s.conditions) ∧
      (s.hasProfile = true → ∀ k, 1 ≤ k → k ≤ 40 →
        if k ≤ s.levels then t.node k = { s.node k with
          state := .seeking, port := some (if k ≤ s.split then .bottom else .top), sends := 0, unanswered := 0, expected := none
          queue := if s.split < k then [.face .top] else [] }
        else (t.node k).state = .off ∧ (t.node k).queue = []) ∧
      (s.hasProfile = false → t.store.noProfileDue = true) ∧
      (s.wake = [] → t.sent = (if s.hasProfile then
        [⟨.chain .bottom, 0x3F, 0x03, 0, [0x00]⟩, ⟨.chain .top, 0x3F, 0x03, 0, [0x00]⟩] else [])) ∧
      (s.wake = [] → ∀ p, 160 ≤ p → p < 164 → let count := min 3 ((s.lines.spurCounts[p - 160]?).getD 0)
        t.place p = { entries := List.replicate count .foreign, sensed := some count }) ∧
      (s.wake = [] → t.place divert = { entries := if s.lines.entryArrive then [.foreign] else [] })

/-- E_STOP_ASSERT and E_STOP_RELEASE (R177): the assertion changes RUN to HOLD and latches MODE; in every other mode, and at
the release, no mode changes. -/
def Obligations.EStopLine : Prop :=
  ∀ s : State, s.Reported → s.wake = [] →
    exec .eStopAssert s = .next { s with
      sent := []
      lines := { s.lines with eStop := true }
      mode := if s.mode = .run then .hold else s.mode
      board := { s.board with latchMode := s.board.latchMode || s.mode == .run } } ∧
    exec .eStopRelease s = .next { s with sent := [], lines := { s.lines with eStop := false } }

/-- The requests to mode control by the present mode (R176): a request that is refused latches REFUSED and changes nothing
else; one for the mode in force changes nothing; one that is taken changes the mode and latches MODE, and of what no
neighbour alters nothing else. Becoming CONFIG (R122) discards the pending plan of each IDLE lift, its reservations released, and
parks it: PARK is queued, the wake timer runs 5 s and the lift is PARKING; a lift in another state keeps all it has. -/
def Obligations.ModeRequests : Prop :=
  ∀ s : State, Awake s →
    let same : Result := .next { s with sent := [] }
    let refused : Result := .next { s with sent := [], board := { s.board with latchRefused := true } }
    let taken (c : Instr) (m : Mode) : Prop :=
      ∃ t, exec c s = .next t ∧ t.calm = { s.calm with mode := m, latchMode := true }
    (s.mode = .config → (s.hasProfile = false ∨ s.lines.eStop = true ∨ s.profileBusy = true) → exec .requestRun s = refused) ∧
    (s.mode = .config → s.hasProfile = true → s.lines.eStop = false → s.profileBusy = false → taken .requestRun .run) ∧
    (s.mode = .config → exec .requestHold s = refused ∧ exec .requestConfig s = same) ∧
    (s.mode = .run → taken .requestHold .hold ∧ exec .requestConfig s = refused ∧ exec .requestRun s = same) ∧
    (s.mode = .hold → s.lines.eStop = true → exec .requestRun s = refused) ∧
    (s.mode = .hold → s.lines.eStop = false → taken .requestRun .run) ∧
    (s.mode = .hold → (∃ n, n < 128 ∧ s.ctx n ≠ none) → exec .requestConfig s = refused) ∧
    (s.mode = .hold → (∀ n, s.ctx n = none) → taken .requestConfig .config) ∧
    (s.mode = .hold → (∀ n, s.ctx n = none) → ∃ t, exec .requestConfig s = .next t ∧
      (∀ x, let l := s.lift x
        ((s.lift x).state ≠ .idle → t.lift x = l) ∧
        (l.state = .idle → (t.lift x).state = .parking ∧ (t.lift x).pending = none ∧ (t.lift x).queue = l.queue ++ [.park] ∧
          (t.lift x).park = none ∧ (t.lift x).wake = some 5000 ∧ (t.lift x).trip = l.trip)) ∧
      let dropped (x : Side) : List Stop := match (s.lift x).state, (s.lift x).pending with | .idle, some p => p.stops | _, _ => []
      ∀ q, q < 164 → (t.place q).res =
        (s.place q).res - (dropped .a ++ dropped .b).countP (fun st => st.reserved && st.place == q)) ∧
    (s.mode = .hold → exec .requestHold s = same)

/-! ### The memory port (chapter 9) -/

/-- POSTED_WRITE and FREE_WRITE, by the value the state byte holds (R158): POSTED onto FREE is appended to the post queue,
FREE onto FREE changes nothing, FREE onto a final state leaves the finish list, any other value latches MISUSE. Every other
byte and field stands. -/
def Obligations.CardStateWrites : Prop :=
  ∀ (s : State) (n : Nat) (v : Byte), Awake s → n < 128 →
    let effect (c : Instr) (v : Byte) : Prop :=
      (s.cardState n = cardFree → v = cardPosted → ∃ t, exec c s = .next t ∧ t.cardState n = cardPosted ∧
        (∀ a, a ≠ cardAddr n 0 → Memory.read t.board.mem a = Memory.read s.board.mem a) ∧
        t.board.postQueue = s.board.postQueue ++ [n] ∧
        { t.board with mem := s.board.mem, postQueue := s.board.postQueue } = s.board ∧
        { t with board := s.board, sent := s.sent } = s) ∧
      (s.cardState n = cardFree → v = cardFree → exec c s = .next { s with sent := [] }) ∧
      (cardFinal (s.cardState n) = true → v = cardFree → ∃ t, exec c s = .next t ∧ t.cardState n = cardFree ∧
        (∀ a, a ≠ cardAddr n 0 → Memory.read t.board.mem a = Memory.read s.board.mem a) ∧
        t.board.finishList = s.board.finishList.filter (fun m => m != n) ∧
        t.board.changeCount = s.board.changeCount + 2 ∧
        { t.board with mem := s.board.mem, finishList := s.board.finishList, changeCount := s.board.changeCount } = s.board ∧
        { t with board := s.board, sent := s.sent } = s) ∧
      (¬(s.cardState n = cardFree ∧ (v = cardPosted ∨ v = cardFree)) → ¬(cardFinal (s.cardState n) = true ∧ v = cardFree) →
        exec c s = .next { s with sent := [], board := { s.board with latchMisuse := true } })
    effect (.postedWrite n v) v ∧ effect (.freeWrite n) 0x00

/-- A write of one byte to the exchange memory by the range its offset falls in (R155): a byte that is not guarded and not
owned by the HC40 is stored and every other byte stands; a header, finish list, condition or profile view byte is left as it
was and MISUSE latches; an acknowledge byte and a card's state byte act as ACKNOWLEDGE or CLEAR_ENTRY and as POSTED_WRITE do.
A wider write is taken byte by byte in ascending offset: it is the write of its first byte and then the write of the others
one offset on, whatever offset it begins at (log 30, DEDUCED). -/
def Obligations.ExchangeWrites : Prop :=
  ∀ (s : State) (off : BitVec 15) (v : Byte), Awake s →
    let a := off.toNat
    let misused : Result := .next { s with sent := [], board := { s.board with latchMisuse := true } }
    (Memory.home a = true → ¬(0x1000 ≤ a ∧ a < 0x3000 ∧ (a - 0x1000) % 64 = 0) →
      ∃ t, exec (.exchangeWrite off [v]) s = .next t ∧ Memory.read t.board.mem a = v ∧
        (∀ b, b ≠ a → Memory.read t.board.mem b = Memory.read s.board.mem b) ∧
        { t.board with mem := s.board.mem } = s.board ∧ { t with board := s.board, sent := s.sent } = s) ∧
    (a < 0x00C0 ∨ (0x0A00 ≤ a ∧ a < 0x0C80) ∨ (0x0100 ≤ a ∧ a < 0x0400 ∧ (a - 0x0100) % 16 ≠ 2) →
      exec (.exchangeWrite off [v]) s = misused) ∧
    (∀ k, k < 48 → a = 0x0102 + 16 * k →
      exec (.exchangeWrite off [v]) s =
        if v = 0x01 then exec (.acknowledge k) s else if v = 0x02 then exec (.clearEntry k) s else misused) ∧
    (∀ n, n < 128 → a = cardAddr n 0 → exec (.exchangeWrite off [v]) s = exec (.postedWrite n v) s) ∧
    (∀ w vs t, a + 1 < 0x8000 → exec (.exchangeWrite off [v]) s = .next t →
      exec (.exchangeWrite off (v :: w :: vs)) s = exec (.exchangeWrite (off + 1) (w :: vs)) t)

/-- ACKNOWLEDGE and CLEAR_ENTRY (R168): 01h clears the changed flag and keeps the rest of the entry, 02h clears the whole
entry, any other value is not taken and latches MISUSE; no other entry and no other field changes, the acknowledge byte reads
00h again, and CONDITION is set only while some entry's flag is. -/
def Obligations.AcknowledgeWrites : Prop :=
  ∀ (s : State) (k : Nat), Awake s → k < 48 →
    (∃ t, exec (.acknowledge k) s = .next t ∧ t.cond k = { s.cond k with changed := false } ∧
      (∀ j, j ≠ k → t.cond j = s.cond j) ∧ { t with conditions := s.conditions, sent := s.sent } = s ∧
      (t.cond k).byte 2 = 0x00 ∧ (t.causeCondition = true ↔ ∃ j, j < 48 ∧ (t.cond j).changed = true)) ∧
    (∃ t, exec (.clearEntry k) s = .next t ∧ t.cond k = {} ∧
      (∀ j, j ≠ k → t.cond j = s.cond j) ∧ { t with conditions := s.conditions, sent := s.sent } = s ∧
      (t.cond k).byte 2 = 0x00 ∧ (t.causeCondition = true ↔ ∃ j, j < 48 ∧ (t.cond j).changed = true)) ∧
    (∀ v, v ≠ 0x01 → v ≠ 0x02 → exec (.exchangeWrite (BitVec.ofNat 15 (0x0102 + 16 * k)) [v]) s =
      .next { s with sent := [], board := { s.board with latchMisuse := true } })

/-- REGISTER_WRITE (R163, R164, R180): a whole-word write to MODE of 1, 2 or 3 is the request for CONFIG, RUN or HOLD, one to
CAUSE clears each latch whose bit is 1 and nothing else, one to CAUSE ENABLE stores bits 0 to 4 (R165; CAUSE_WRITE and
CAUSE_ENABLE_WRITE are these two); every other write latches MISUSE alone. (Reads are in the statement Reads.) -/
def Obligations.RegisterWrites : Prop :=
  ∀ (s : State) (off width : Nat) (v : Word), Awake s →
    let misused : Result := .next { s with sent := [], board := { s.board with latchMisuse := true } }
    exec (.registerWrite 0x04 4 1) s = exec .requestConfig s ∧ exec (.registerWrite 0x04 4 2) s = exec .requestRun s ∧
    exec (.registerWrite 0x04 4 3) s = exec .requestHold s ∧
    (v ≠ 1 → v ≠ 2 → v ≠ 3 → exec (.registerWrite 0x04 4 v) s = misused) ∧
    (exec (.causeWrite v) s = .next { s with
      sent := []
      board := { s.board with
        latchMode := s.board.latchMode && !v.getLsbD 2
        latchMisuse := s.board.latchMisuse && !v.getLsbD 3
        latchRefused := s.board.latchRefused && !v.getLsbD 4 } }) ∧
    exec (.registerWrite 0x08 4 v) s = exec (.causeWrite v) s ∧
    (exec (.causeEnableWrite v) s = .next { s with sent := [], board := { s.board with enable := v.setWidth 5 } }) ∧
    exec (.registerWrite 0x0C 4 v) s = exec (.causeEnableWrite v) s ∧
    (off ≠ 0x04 → off ≠ 0x08 → off ≠ 0x0C → exec (.registerWrite off 4 v) s = misused) ∧
    (width ≠ 4 → exec (.registerWrite off width v) s = misused)

/-- What a read returns (R155). The header: change count, finish-list length, void count, N, mode echo, and 00h (R71, R156); the
finish list, FFh from its length on (R162); each condition entry (9.7); the active profile, 00h where there is none, and the 32
retirement slots (R171); and any other byte from the memory's cells, the place mirror among them, whose records are written at each
change of a place's contents, reservations, lock, flags, awaiting rebuild mark or admissions (R21): status, reason, lock, reservations, count and entries, an unfitted lane's showing nothing, a deck's and the
divert's their contents; that spurs, decks and the divert show 01h is log 13, and that a retiring lane shows 02h and 04h is log 14
(DEDUCED). A word read at one of the five offsets of the register window returns IDENT, MODE, CAUSE, CAUSE ENABLE or CLOCK (R163 to
R165), a narrower read there the bytes it covers (R163), and a read at any other offset 0 (R180); that R163's narrower reads are those
at the five offsets, the order of a register's bytes, and a read wider than a word are log 41 (DEDUCED). -/
def Obligations.Reads : Prop :=
  ∀ s : State,
    let at' := s.exchangeByte
    let codes : List (Option Cond) := [none, some .stall, some .overdue, some .idMismatch, some .foreignOut, some .unreadable,
      some .noCard, some .levelClosed, some .rejectFull, some .overrun, some .fault, some .lostLock, some .wakeFail,
      some .reconciled, some .checkErrors, some .nodeDead, some .nodeCut, some .storeFault, some .noProfile, some .frozen,
      some .grantOverdue, some .overflow, some .reportGap, some .noCardAsk, some .foreignStored]
    half (at' 0) (at' 1) = s.board.changeCount ∧ at' 2 = byteOf s.board.finishList.length ∧
    at' 3 = byteOf s.release.voids.length ∧ half (at' 4) (at' 5) = s.release.n ∧
    at' 6 = (match s.mode with | .init => 0x00 | .config => 0x01 | .run => 0x02 | .hold => 0x03) ∧
    (∀ i, 7 ≤ i → i < 0x40 → at' i = 0x00) ∧
    (∀ i, i < 128 → at' (0x40 + i) = match s.board.finishList[i]? with | some n => byteOf n | none => 0xFF) ∧
    (∀ k, k < 48 → let e := s.cond k; let b (i : Nat) : Byte := at' (0x0100 + 16 * k + i)
      codes[(b 0).toNat]? = some e.code ∧ b 1 = (if e.changed then 0x01 else 0x00) ∧ b 2 = 0x00 ∧ b 3 = byteOf e.count ∧
      b 4 = e.detail1 ∧ b 5 = e.detail2 ∧ b 6 = 0x00 ∧ b 7 = 0x00 ∧ word (b 8) (b 9) (b 10) (b 11) = e.first ∧
      word (b 12) (b 13) (b 14) (b 15) = e.last) ∧
    (∀ i, i < 512 → at' (0x0A00 + i) = match s.store.active with | some r => r.getD i 0x00 | none => 0x00) ∧
    (∀ j x, s.store.slots[j]? = some x → at' (0x0C00 + 4 * j) = x.b0 ∧ at' (0x0C01 + 4 * j) = x.b1 ∧
      at' (0x0C02 + 4 * j) = x.b2 ∧ at' (0x0C03 + 4 * j) = x.b3) ∧
    (∀ a, (0x00C0 ≤ a ∧ a < 0x0100) ∨ (0x0400 ≤ a ∧ a < 0x0A00) ∨ (0x0C80 ≤ a ∧ a < 0x8000) →
      at' a = Memory.read s.board.mem a) ∧
    -- the place mirror
    (∀ p, p < 169 → (s.writeMirror p).Mirrored p ∧
      (∀ a, a < 0x3000 + 8 * p ∨ 0x3008 + 8 * p ≤ a → (s.writeMirror p).exchangeByte a = at' a) ∧
      ∀ q : Place, (s.setPlace p q).place p = s.retimed p q ∧
        (s.Mirrored p → (s.setPlace p q).Mirrored p) ∧
        ((s.setPlace p q).mirrorRecord p ≠ s.mirrorRecord p → (s.setPlace p q).Mirrored p) ∧
        (¬(q.entries = (s.place p).entries ∧ q.res = (s.place p).res ∧ q.lock = (s.place p).lock ∧
          q.fitted = (s.place p).fitted ∧ q.retired = (s.place p).retired ∧ q.retiring = (s.place p).retiring ∧
          q.frozen = (s.place p).frozen ∧ q.barred = (s.place p).barred ∧ q.awaiting = (s.place p).awaiting) →
          (s.setPlace p q).Mirrored p)) ∧
    (∀ p, p < 160 → (s.place p).fitted = false → s.mirrorRecord p = [0x00, 0x00, 0x00, 0x00, 0x00, 0xFE, 0xFE, 0xFE]) ∧
    (∀ p, p < 169 → (p < 160 → (s.place p).fitted = true) →
      let q := s.place p
      let entry (i : Nat) : Byte := match q.entries[i]? with | some (.card n) => byteOf n | some .foreign => 0xFF | none => 0xFE
      ∃ status, s.mirrorRecord p = [status,
          (match q.frozen with | none => 0x00 | some .sense => 0x01 | some .loadEmpty => 0x02 | some .unloadBlocked => 0x03),
          (match q.lock with | .none => 0x00 | .shuttle => 0x01 | .lift => match placeSide p with | .a => 0x02 | .b => 0x03),
          byteOf q.res, byteOf q.entries.length, entry 0, entry 1, entry 2] ∧
        (164 ≤ p → status = 0x01) ∧
        (p < 164 → status.getLsbD 0 = true ∧ status.getLsbD 1 = q.retired ∧ status.getLsbD 2 = q.retiring ∧
          status.getLsbD 3 = q.frozen.isSome ∧ status.getLsbD 4 = q.barred ∧ status.getLsbD 5 = q.awaiting ∧
          status.getLsbD 6 = s.admitsDepartures p ∧ status.getLsbD 7 = s.admitsArrivals p)) ∧
    -- the registers
    (∃ ident cause : Word,
      (∀ i, ident.getLsbD i = if i < 6 then s.board.aisle.getLsbD i
        else decide (8 ≤ i) && Config.hardwareRevision.getLsbD (i - 8)) ∧
      (∀ i, cause.getLsbD i = true ↔ s.mode ≠ .init ∧
        ((i = 0 ∧ s.board.finishList ≠ []) ∨ (i = 1 ∧ ∃ k, k < 48 ∧ (s.cond k).changed = true) ∨
          (i = 2 ∧ s.board.latchMode = true) ∨ (i = 3 ∧ s.board.latchMisuse = true) ∨
          (i = 4 ∧ s.board.latchRefused = true))) ∧
      let window : List Byte := bytes32 ident ++ [at' 6, 0x00, 0x00, 0x00] ++ bytes32 cause ++
        bytes32 (s.board.enable.setWidth 32) ++ bytes32 s.board.clock
      (∀ off width, off ∈ [0x00, 0x04, 0x08, 0x0C, 0x10] → width ≤ 4 →
        s.registerRead off width = (List.range width).map (fun i => window.getD (off + i) 0x00)) ∧
      (∀ off width, off ∉ [0x00, 0x04, 0x08, 0x0C, 0x10] → s.registerRead off width = List.replicate width 0x00) ∧
      (∀ off width, 4 < width → s.registerRead off width = List.replicate width 0x00))

/-- The interrupt output (R166): asserted outside INIT while some cause is set whose enable bit is set, FINISHED and CONDITION
following their state and the others their latches (R165); deasserted in INIT and still at its end, where CAUSE ENABLE is
0. -/
def Obligations.InterruptOutput : Prop :=
  ∀ s : State, (s.interruptLine = true ↔ s.mode ≠ .init ∧
    ((s.board.enable.getLsbD 0 = true ∧ s.board.finishList ≠ []) ∨
     (s.board.enable.getLsbD 1 = true ∧ ∃ k, k < 48 ∧ (s.cond k).changed = true) ∨
     (s.board.enable.getLsbD 2 = true ∧ s.board.latchMode = true) ∨
     (s.board.enable.getLsbD 3 = true ∧ s.board.latchMisuse = true) ∨
     (s.board.enable.getLsbD 4 = true ∧ s.board.latchRefused = true))) ∧
    (s.mode = .init → ∃ t, exec .initEnd s = .next t ∧ t.board.enable = 0 ∧ t.interruptLine = false)

/-- Raising a condition at a source (R167): a clear entry takes the code, the detail, count 1 and both times; an entry that
holds a condition takes the code, the detail and the last time, counts one more up to 255 and keeps its first time; in both
the changed flag is set, which sets CONDITION. Every other entry and field stands. -/
def Obligations.RaiseCondition : Prop :=
  ∀ (s : State) (src : Nat) (c : Cond) (d1 d2 : Byte), src < 48 →
    let t := s.raise src c d1 d2
    (t.cond src).code = some c ∧ (t.cond src).detail1 = d1 ∧ (t.cond src).detail2 = d2 ∧ (t.cond src).last = s.stamp ∧
    (t.cond src).changed = true ∧ t.causeCondition = true ∧
    ((s.cond src).code = none → (t.cond src).count = 1 ∧ (t.cond src).first = s.stamp) ∧
    ((s.cond src).code ≠ none → (t.cond src).count = min 255 ((s.cond src).count + 1) ∧ (t.cond src).first = (s.cond src).first) ∧
    (∀ j, j ≠ src → t.cond j = s.cond j) ∧ { t with conditions := s.conditions } = s

/-! ### The examiner and the cards (chapters 2 and 9) -/

/-- The finish of a card that has no order context (R161, R162): outcome bytes, final state, finish list and change count, the
REFUSED latch for a refused card, and nothing else. -/
def Obligations.FinishCard : Prop :=
  ∀ (u : State) (n : Nat) (final : Byte) (r : ReasonCode) (detail : Byte) (examined : Word), n < 128 →
    FinishedAs u (u.finishCard n final r detail examined) n final r detail examined

/-- BAD_KIND (R160): a card whose kind is not in the kind table is refused with its kind as detail. It has left the post
queue, its outcome is written, it is in the finish list, REFUSED latches, and nothing else changes (R161). -/
def Obligations.BadKindRefused : Prop :=
  ∀ (s : State) (k : Byte) (n : Nat) (rest : List Nat), Head s k n rest → k = 0x00 ∨ 0x0B < k.toNat →
    ∃ t, exec .badKind s = .next t ∧ FinishedAs (s.examining rest) t n cardRefused .badKind k s.stamp

/-- The checks of a RETRIEVE or STORE card in their order (R28), each with its code and detail where it is the first that fails:
WRONG_MODE outside RUN and HOLD; BAD_FIELD with the byte of the first field out of range (flags 2, side preference 3, tote 8, level
12); DUP_TOTE with the lowest open card of that tote; LEVEL_CLOSED with the level where neither lane of the direction can ever
admit; and for a sequenced RETRIEVE card STALE_SEQ behind N, DUP_SEQ with 80h for a void number or with the card that holds it. No
check fails exactly where all hold. A card whose check fails is refused with that code and detail, and nothing else changes. -/
def Obligations.OrderChecksPassed : Prop :=
  ∀ (s : State) (n : Nat) (k : OrderKind),
    let out := s.orderCheck n k
    let level := s.cardLevel n
    let x := s.cardSeq n
    let modeOk := s.mode = .run ∨ s.mode = .hold
    let flagsOk := s.cardFlags n = 0x00 ∨ (k = .retrieve ∧ s.cardFlags n = 0x01)
    let prefOk := 1 ≤ (s.cardPref n).toNat ∧ (s.cardPref n).toNat ≤ 3
    let toteOk := s.cardTote n ≠ 0
    let levelOk := 1 ≤ level ∧ level ≤ s.levels
    let fields := modeOk ∧ flagsOk ∧ prefOk ∧ toteOk ∧ levelOk
    let fresh := ∀ m c, s.ctx m = some c → c.tote ≠ s.cardTote n
    let serves := match k with
      | .retrieve => s.canEverAdmit (outLane level .a) = true ∨ s.canEverAdmit (outLane level .b) = true
      | .store => s.canEverAdmit (inLaneOf level .a) = true ∨ s.canEverAdmit (inLaneOf level .b) = true
    let numbered := k = .retrieve ∧ s.cardFlags n = 0x01
    let inFront := (x - s.release.n).toNat < 32768
    (¬modeOk → out = some (.wrongMode, 0x00)) ∧
    (modeOk → ¬flagsOk → out = some (.badField, 2)) ∧
    (modeOk → flagsOk → ¬prefOk → out = some (.badField, 3)) ∧
    (modeOk → flagsOk → prefOk → ¬toteOk → out = some (.badField, 8)) ∧
    (modeOk → flagsOk → prefOk → toteOk → ¬levelOk → out = some (.badField, 12)) ∧
    (∀ m c, fields → s.ctx m = some c → c.tote = s.cardTote n →
      (∀ j d, j < m → s.ctx j = some d → d.tote ≠ s.cardTote n) → out = some (.dupTote, byteOf m)) ∧
    (fields → fresh → ¬serves → out = some (.levelClosed, byteOf level)) ∧
    (fields → fresh → serves → numbered → ¬inFront → out = some (.staleSeq, 0x00)) ∧
    (fields → fresh → serves → numbered → inFront → x ∈ s.release.voids → out = some (.dupSeq, 0x80)) ∧
    (∀ m c, fields → fresh → serves → numbered → inFront → x ∉ s.release.voids → s.ctx m = some c → c.holds x = true →
      (∀ j d, j < m → s.ctx j = some d → d.holds x = false) → out = some (.dupSeq, byteOf m)) ∧
    (out = none ↔ fields ∧ fresh ∧ serves ∧ (numbered → inFront ∧ x ∉ s.release.voids ∧
      ∀ m c, s.ctx m = some c → c.seqState = .live → c.seq ≠ some x)) ∧
    (∀ rest r, Head s (match k with | .retrieve => kindRetrieve | .store => kindStore) n rest → out = some r →
      ∃ t, exec (match k with | .retrieve => .retrieve | .store => .store) s = .next t ∧
        FinishedAs (s.examining rest) t n cardRefused r.1 r.2 s.stamp)

/-- RETRIEVE and STORE accepted (R29): the card is TAKEN and has the context R24 to R27 give it; a sequenced card starts the
stall timer where it does not run and STALL has not been raised for this N (R69). Nothing else changes. -/
def Obligations.OrderAccepted : Prop :=
  ∀ (s : State) (n : Nat) (rest : List Nat) (k : OrderKind),
    Head s (match k with | .retrieve => kindRetrieve | .store => kindStore) n rest → s.orderCheck n k = none →
    ∃ t, exec (match k with | .retrieve => .retrieve | .store => .store) s = .next t ∧
      t.cardState n = cardTaken ∧
      t.ctx n = some
        { kind := k, tote := s.cardTote n, level := s.cardLevel n, pref := (prefOf (s.cardPref n)).getD .any,
          seq := (if k = .retrieve ∧ s.cardFlags n = 0x01 then some (s.cardSeq n) else none),
          phase := (match k with | .retrieve => .pending | .store => .awaited), side := none, place := none,
          demoted := false, cancelRequested := false,
          seqState := (if k = .retrieve ∧ s.cardFlags n = 0x01 then .live else .absent), failure := none, trip := 0,
          accepted := s.stamp, bound := 0, loaded := 0, finished := 0, sideChanged := false, demotedFlag := false,
          overrun := false, idMismatch := false, returned := false, delivered := false } ∧
      (∀ m, m ≠ n → t.ctx m = s.ctx m) ∧
      (∀ a, a ≠ cardAddr n 0 → Memory.read t.board.mem a = Memory.read s.board.mem a) ∧
      t.release.stall = (if k = .retrieve ∧ s.cardFlags n = 0x01 ∧ s.release.stall = none ∧ s.release.stallReported = false
        then some (1000 * s.stallLimit) else s.release.stall) ∧
      { t.release with stall := s.release.stall } = s.release ∧
      { t.board with mem := s.board.mem, postQueue := s.board.postQueue } = s.board ∧ t.board.postQueue = rest ∧
      { t with board := s.board, contexts := s.contexts, release := s.release, sent := s.sent } = s

/-- CANCEL (R41 to R45): a target number above 127 is refused BAD_FIELD, a target without a context NO_TARGET, and a STORE card
that is no longer AWAITED IN_TRANSIT with its number. A PENDING or HELD RETRIEVE card ends CANCELLED, a held one with
DROP-REFUSE; a GRANTED or RELEASED one is marked; one in a lane, on a lift or in a spur is marked, gives up its number and
travels on; an AWAITED STORE card ends CANCELLED, and a tote of it in the divert becomes FOREIGN with NO_CARD; then the CANCEL
card finishes DONE with the target's number. -/
def Obligations.CancelExamined : Prop :=
  ∀ (s : State) (n : Nat) (rest : List Nat), Head s kindCancel n rest →
    let m := s.cardTarget n
    let u := s.examining rest
    let marked := u.updateContext m (fun d => { d with cancelRequested := true })
    let refused (r : ReasonCode) (d : Byte) : Prop := ∃ t, exec .cancel s = .next t ∧ FinishedAs u t n cardRefused r d s.stamp
    let leads (v : State) : Prop := Leads .cancel s (v.finishNow n cardDone .none (byteOf m))
    (128 ≤ m → refused .badField 16) ∧
    (m < 128 → s.ctx m = none → refused .noTarget 0) ∧
    (∀ c, m < 128 → s.ctx m = some c →
      (c.kind = .store → c.phase ≠ .awaited → refused .inTransit (byteOf m)) ∧
      (c.kind = .retrieve → c.phase = .pending → leads (u.finishOrder m cardCancelled .none 0x00)) ∧
      (c.kind = .retrieve → c.phase = .held →
        leads ((u.finishOrder m cardCancelled .none 0x00).queueNode c.level (.dropRefuse .cancelled))) ∧
      (c.kind = .retrieve → c.phase = .granted ∨ c.phase = .released → leads marked) ∧
      (c.kind = .retrieve → c.phase = .inLane ∨ c.phase = .onCar ∨ c.phase = .inSpur → leads (marked.giveUp m true)) ∧
      (c.kind = .store → c.phase = .awaited → c.place ≠ some divert → leads (u.finishOrder m cardCancelled .none 0x00)) ∧
      (c.kind = .store → c.phase = .awaited → c.place = some divert →
        leads (((u.setDivert .foreign).raise srcEntry .noCard (c.tote.extractLsb' 0 8) (c.tote.extractLsb' 8 8)).finishOrder m
          cardCancelled .none 0x00)))

/-- The end of an order (R40): a live number is given up (R39), but not at FLUSH (`gives` false), the context is gone, the outcome bytes are those of the context with the time of the event as
finished stamp, the final state is written, the card is in the finish list, no held ask of the card is left, and no other
card's context, byte or place record changes. -/
def Obligations.FinishOrder : Prop :=
  ∀ (s : State) (n : Nat) (c : Context) (final : Byte) (r : ReasonCode) (detail : Byte) (gives : Bool), n < 128 →
    s.ctx n = some c →
    let t := s.finishOrder n final r detail gives
    (gives = true → t.release = ((s.setHeld (s.handover.held.filter (fun h => !h.ofCard n))).giveUp n false).release) ∧
    (gives = false ∨ c.seqState ≠ .live ∨ c.seq = none → t.release = s.release) ∧
    t.ctx n = none ∧ CardOutcome t n final r detail ((c.side.map sideCode).getD 0x00) (resultFlags c) c.accepted c.bound
      s.stamp c.trip ∧
    t.board.finishList = s.board.finishList ++ [n] ∧ t.board.changeCount = s.board.changeCount + 2 ∧
    (∀ h ∈ t.handover.held, h.ofCard n = false) ∧ (∀ m, m ≠ n → t.ctx m = s.ctx m) ∧ t.places = s.places ∧
    t.lifts = s.lifts ∧ t.chain = s.chain ∧ t.entry = s.entry ∧ t.store = s.store ∧ t.conditions = s.conditions ∧
    t.mode = s.mode ∧ t.handover.grants = s.handover.grants ∧
    (∀ a, a ≠ cardAddr n 0 → (a < cardAddr n 32 ∨ cardAddr n 48 < a) →
      Memory.read t.board.mem a = Memory.read s.board.mem a)

/-- The release number advances (R50): N counts one on and steps over every void number it meets, which leave the void list;
with no live number left the stall timer stops, and otherwise it runs from its full length (R51, R69). The voiding step (R56): a
number equal to N makes N advance; any other enters the void list in its serial order, where fewer than 32 stand there, and is
dropped where 32 do. Giving up a live number (R39, R55): the card leaves its bound list, its number is GIVEN_UP and voided, and a
card that stays open is demoted and marked DEMOTED; a card without a live number gives up nothing. -/
def Obligations.ReleaseAdvances : Prop :=
  ∀ s : State,
    (s.advance.release.n ∉ s.advance.release.voids.head? ∧
    (∃ gone, s.release.voids = gone ++ s.advance.release.voids ∧
      gone = (List.range gone.length).map (fun i => s.release.n + 1 + BitVec.ofNat 16 i) ∧
      s.advance.release.n = s.release.n + 1 + BitVec.ofNat 16 gone.length) ∧
    s.advance.release.stall = (if s.anyLive then some (1000 * s.stallLimit) else none) ∧
    s.advance.release.stallReported = false ∧ s.advance.release.bound = s.release.bound) ∧
    (∀ x : Half,
      let dist (v : Half) : Nat := (v - s.release.n).toNat
      (x = s.release.n → s.voiding x = s.advance) ∧
      (x ≠ s.release.n → 32 ≤ s.release.voids.length → s.voiding x = s) ∧
      (x ≠ s.release.n → s.release.voids.length < 32 → ∃ before after, s.release.voids = before ++ after ∧
        (∀ v ∈ before, dist v ≤ dist x) ∧ (∀ v ∈ after.head?, dist x < dist v) ∧
        s.voiding x = { s with release := { s.release with voids := before ++ x :: after } })) ∧
    (∀ (n : Nat) (c : Context) (stays : Bool), s.ctx n = some c →
      (c.seqState ≠ .live ∨ c.seq = none → s.giveUp n stays = s) ∧
      (∀ x, c.seqState = .live → c.seq = some x →
        let t := s.giveUp n stays
        let v := { s with contexts := t.contexts, release := { s.release with bound := t.release.bound } }.voiding x
        t.ctx n = some { c with
          seqState := .givenUp, demoted := c.demoted || stays, demotedFlag := c.demotedFlag || stays } ∧
        (∀ m, m ≠ n → t.ctx m = s.ctx m) ∧
        t.release.bound = ⟨s.release.bound.a.filter (fun m => m != n), s.release.bound.b.filter (fun m => m != n)⟩ ∧
        t.release.n = v.release.n ∧ t.release.voids = v.release.voids ∧
        t.release.stall = (if t.anyLive then v.release.stall else none) ∧
        { t with contexts := s.contexts, release := s.release, wake := s.wake } = s))

/-- FLUSH (R46, R47): in RUN it is refused WRONG_MODE, and while something moves in the zone ZONE_BUSY: a locked lane, an open
grant, a trip or a pending plan, a motion of the divert, a release at the merge. Otherwise every open order ends FAILED with reason
FLUSHED, the void and bound lists are emptied, the stall timer stops, N stands, and the FLUSH card finishes DONE with the number
of orders it ended as detail. A held drop ask of an ended order leaves the held-ask list and DROP-REFUSE with CANCELLED is queued for its level; take
asks stay. Then the places are rebuilt (R15): a lane of an ALIVE level that does not await rebuild holds as many
FOREIGN entries as it senses, without reservation, lock or freeze, any other lane is empty and awaits rebuild; a spur holds what its
input counts; on the decks and in the divert every entry is FOREIGN; every place's mirror record is
rewritten (R22). (A level with some lanes awaiting rebuild is decided lane by lane: log 42, DESIGN CHOICE.) -/
def Obligations.FlushExamined : Prop :=
  ∀ (s : State) (n : Nat) (rest : List Nat), Head s kindFlush n rest →
    (s.zoneBusy = true ↔ (∃ p, p < 160 ∧ (s.place p).lock ≠ .none) ∨ (∃ k, s.grant k ≠ none) ∨
      (∃ x, (s.lift x).trip ≠ none ∨ (s.lift x).pending ≠ none) ∨ s.entry.motion ≠ .idle ∨ s.release.merge ≠ .idle) ∧
    (s.mode = .run → ∃ t, exec .flush s = .next t ∧ FinishedAs (s.examining rest) t n cardRefused .wrongMode 0 s.stamp) ∧
    (s.mode ≠ .run → s.zoneBusy = true → ∃ t, exec .flush s = .next t ∧
      FinishedAs (s.examining rest) t n cardRefused .zoneBusy 0 s.stamp) ∧
    (s.mode ≠ .run → s.zoneBusy = false → ∃ v, Leads .flush s v ∧
      v.handover.held = s.handover.held.filter
        (fun h => match h with | .drop _ m _ => (s.ctx m).isNone | .take _ _ => true) ∧
      ∀ k, let asking := (List.range 128).filter (fun m => (s.ctx m).any (fun c => c.level == k) &&
          s.handover.held.any (fun h => match h with | .drop _ w _ => w == m | .take _ _ => false))
        (v.node k).queue = (s.node k).queue ++ (if (s.node k).state = .alive ∨ (s.node k).state = .seeking then
          List.replicate asking.length (.dropRefuse .cancelled) else [])) ∧
    (s.mode ≠ .run → s.zoneBusy = false → ∃ t, exec .flush s = .next t ∧ (∀ m, t.ctx m = none) ∧ t.release.voids = [] ∧
      t.release.bound = ⟨[], []⟩ ∧ t.release.stall = none ∧ t.release.n = s.release.n ∧ t.mode = s.mode ∧
      t.conditions = s.conditions ∧ t.store = s.store ∧ t.entry = s.entry ∧ t.board.postQueue = rest ∧
      t.cardState n = cardDone ∧ t.cardByte n 32 = 0x00 ∧
      t.cardByte n 33 = byteOf ((List.range 128).filter (fun m => (s.ctx m).isSome)).length ∧
      (∀ m, m ≠ n → s.ctx m ≠ none → t.cardState m = cardFailed ∧ t.cardByte m 32 = 0x10 ∧ t.cardByte m 33 = 0x00 ∧
        m ∈ t.board.finishList) ∧
      (∀ p, p < 160 → s.alive (laneLevel p) = true → (s.place p).awaiting = false →
        t.entries p = List.replicate ((s.place p).sensed.getD 0) .foreign ∧ (t.place p).res = 0 ∧ (t.place p).lock = .none ∧
        (t.place p).frozen = none ∧ (t.place p).awaiting = false ∧ t.Mirrored p) ∧
      (∀ p, p < 160 → s.alive (laneLevel p) = false ∨ (s.place p).awaiting = true →
        t.entries p = [] ∧ (t.place p).res = 0 ∧ (t.place p).lock = .none ∧ (t.place p).sensed = none ∧
        (t.place p).awaiting = true ∧ t.Mirrored p) ∧
      (∀ p, 160 ≤ p → p < 164 → let count := min 3 ((s.lines.spurCounts[p - 160]?).getD 0)
        t.entries p = List.replicate count .foreign ∧ (t.place p).res = 0 ∧ (t.place p).frozen = none ∧
        (t.place p).sensed = some count ∧ t.Mirrored p) ∧
      (∀ p, 164 ≤ p → p < 169 → t.entries p = (s.entries p).map (fun _ => .foreign) ∧ t.Mirrored p))

/-- SKIP (R58, R59): a number behind N is refused STALE_SEQ, a void one DUP_SEQ with 80h, and one that would need a 33rd void
entry VOID_FULL; otherwise the open card that holds it gives it up, or the number is voided, and the card finishes DONE.
RENUMBER (R60): refused ZONE_BUSY while an open card holds a live number or a number is void; otherwise N becomes the value of
the card, which finishes DONE; a value other than the present N also stops the stall timer and clears its mark, and that RENUMBER
to the present N leaves the mark standing is log 37 (DEDUCED). -/
def Obligations.SkipAndRenumber : Prop :=
  ∀ (s : State) (n : Nat) (rest : List Nat),
    let x := s.cardSeq n
    let u := s.examining rest
    (Head s kindSkip n rest →
      let refused (r : ReasonCode) (d : Byte) : Prop := ∃ t, exec .skip s = .next t ∧ FinishedAs u t n cardRefused r d s.stamp
      (32768 ≤ (x - s.release.n).toNat → refused .staleSeq 0x00) ∧
      ((x - s.release.n).toNat < 32768 → x ∈ s.release.voids → refused .dupSeq 0x80) ∧
      ((x - s.release.n).toNat < 32768 → x ∉ s.release.voids → 32 ≤ s.release.voids.length → x ≠ s.release.n →
        refused .voidFull 0x00) ∧
      ((x - s.release.n).toNat < 32768 → x ∉ s.release.voids → s.release.voids.length < 32 ∨ x = s.release.n →
        (∀ m, s.findOpen (fun c => c.holds x) = some m →
          Leads .skip s ((u.giveUp m true).finishNow n cardDone .none (byteOf m))) ∧
        (s.findOpen (fun c => c.holds x) = none → Leads .skip s ((u.voiding x).finishNow n cardDone .none 0x80)))) ∧
    (Head s kindRenumber n rest →
      (s.anyLive = true ∨ s.release.voids ≠ [] → ∃ t, exec .renumber s = .next t ∧
        FinishedAs u t n cardRefused .zoneBusy 0 s.stamp) ∧
      (s.anyLive = false → s.release.voids = [] → ∃ t, exec .renumber s = .next t ∧ t.release.n = x ∧
        (x = s.release.n → FinishedAs u t n cardDone .none 0x00 s.stamp) ∧
        (x ≠ s.release.n → t.release.stall = none ∧ t.release.stallReported = false ∧
          FinishedAs (u.setRelease { s.release with n := x, stallReported := false, stall := none }) t n cardDone .none 0x00
            s.stamp)))

/-- BAR and UNBAR KEEP (R16 to R18): a level and selector that name no place, or a lane that is not fitted, refuse the card
BAD_FIELD; otherwise BAR sets the place's barred flag, UNBAR KEEP clears its barred and frozen flags, the place's contents,
reservations and lock are kept, every other place stands, and the card finishes DONE; the marks of the places then stand whatever the
neighbours told of it do. (The invariant holds LEVELS to 40, so that a level names lanes.) -/
def Obligations.BarAndUnbarKeep : Prop :=
  ∀ (s : State) (n : Nat) (rest : List Nat), Inv s →
    (Head s kindBar n rest →
      (s.namedPlace n (s.cardSelector n) true = none → ∃ t, exec .bar s = .next t ∧
        FinishedAs (s.examining rest) t n cardRefused .badField 0 s.stamp) ∧
      (∀ p, s.namedPlace n (s.cardSelector n) true = some p → (∃ v w, Leads .bar s v ∧ FinishedAs w v n cardDone .none 0 s.stamp ∧
        v.board.postQueue = rest ∧ (v.place p).barred = true ∧ v.entries p = s.entries p ∧ (v.place p).res = (s.place p).res ∧
        (v.place p).lock = (s.place p).lock ∧ (∀ q, q ≠ p → v.place q = s.place q) ∧ v.contexts = s.contexts) ∧
        ∃ t, exec .bar s = .next t ∧
        (t.place p).standing = ({ s.place p with barred := true }).standing ∧
        (∀ q, q ≠ p → (t.place q).standing = (s.place q).standing) ∧ t.mode = s.mode ∧ t.board.postQueue = rest)) ∧
    (Head s kindUnbar n rest → s.clearOption n = false →
      (s.namedPlace n (s.cardSelector n) false = none → ∃ t, exec .unbarKeep s = .next t ∧
        FinishedAs (s.examining rest) t n cardRefused .badField 0 s.stamp) ∧
      (∀ p, s.namedPlace n (s.cardSelector n) false = some p → (∃ v w, Leads .unbarKeep s v ∧
        FinishedAs w v n cardDone .none 0 s.stamp ∧ v.board.postQueue = rest ∧ (v.place p).barred = false ∧
        (v.place p).frozen = none ∧ v.entries p = s.entries p ∧ (v.place p).res = (s.place p).res ∧
        (v.place p).lock = (s.place p).lock ∧ (∀ q, q ≠ p → v.place q = s.place q) ∧ v.contexts = s.contexts) ∧
        ∃ t, exec .unbarKeep s = .next t ∧
        (t.place p).standing = ({ s.place p with barred := false, frozen := none }).standing ∧
        (∀ q, q ≠ p → (t.place q).standing = (s.place q).standing) ∧ t.mode = s.mode ∧ t.board.postQueue = rest))

/-- The place a BAR, UNBAR or RETIRE card names (1.5, R16), under the invariant: with selector 0 to 3 a fitted lane of a level
from 1 to LEVELS, with selector 4 to 7 a spur at level 0, and no spur where only lanes may be named. -/
def Obligations.NamedPlace : Prop :=
  ∀ (s : State) (n k : Nat) (lanesOnly : Bool) (p : Nat), Inv s →
    (s.namedPlace n k lanesOnly = some p ↔
      (k < 4 ∧ 1 ≤ s.cardLevel n ∧ s.cardLevel n ≤ s.levels ∧ p = (s.cardLevel n - 1) * 4 + k ∧ (s.place p).fitted = true) ∨
      (4 ≤ k ∧ k < 8 ∧ s.cardLevel n = 0 ∧ p = 160 + (k - 4) ∧ lanesOnly = false))

/-- UNBAR CLEAR (R16, R19): refused BAD_FIELD where it names no place, PLACE_BUSY on a locked lane; otherwise every card of the
place fails LOST with the place's number, every load claim on its entries ends and no other stop changes, both flags are cleared,
and the place holds as many FOREIGN entries as its sensed count, or, as a lane of a level whose node is not ALIVE, is empty and
awaits rebuild, its sensed count cleared (log 40, DEDUCED: R10 keeps the last value). -/
def Obligations.UnbarClearExamined : Prop :=
  (∀ (s : State) (n : Nat) (rest : List Nat), Head s kindUnbar n rest → s.clearOption n = true →
    s.namedPlace n (s.cardSelector n - 0x80) false = none →
    ∃ t, exec .unbarClear s = .next t ∧ FinishedAs (s.examining rest) t n cardRefused .badField 0 s.stamp) ∧
  ∀ (s : State) (n : Nat) (rest : List Nat) (p : Nat), Inv s → Head s kindUnbar n rest → s.clearOption n = true →
    s.namedPlace n (s.cardSelector n - 0x80) false = some p →
    let u := s.examining rest
    let unclaimed (st : Stop) : Stop := if st.place = p ∧ st.action = .load then { st with claim := none } else st
    (isLane p = true → (s.place p).lock ≠ .none → ∃ t, exec .unbarClear s = .next t ∧
      FinishedAs u t n cardRefused .placeBusy 0 s.stamp) ∧
    (isLane p = false ∨ (s.place p).lock = .none →
      Leads .unbarClear s ((u.unbarClear p).finishNow n cardDone .none 0x00) ∧
      ((u.unbarClear p).place p).barred = false ∧ ((u.unbarClear p).place p).frozen = none ∧
      ((u.unbarClear p).place p).res = (s.place p).res ∧
      (let l := s.lift (placeSide p)
       (u.unbarClear p).lift (placeSide p) = { l with
         trip := l.trip.map (fun t => { t with plan := { t.plan with stops := t.plan.stops.map unclaimed } })
         pending := l.pending.map (fun q => { q with stops := q.stops.map unclaimed }) }) ∧
      (u.unbarClear p).lift (otherSide (placeSide p)) = s.lift (otherSide (placeSide p)) ∧
      (isLane p = true → s.alive (laneLevel p) = false →
        (u.unbarClear p).entries p = [] ∧ ((u.unbarClear p).place p).awaiting = true ∧
        ((u.unbarClear p).place p).sensed = none) ∧
      (isLane p = false ∨ s.alive (laneLevel p) = true →
        (u.unbarClear p).entries p =
          List.replicate (min ((s.place p).sensed.getD 0) (capacity p - (s.place p).res)) .foreign) ∧
      (∀ m, m < 128 → Entry.card m ∈ s.entries p → s.ctx m ≠ none → (u.unbarClear p).ctx m = none ∧
        (u.unbarClear p).cardState m = cardFailed ∧ (u.unbarClear p).cardByte m 32 = 0x12 ∧
        (u.unbarClear p).cardByte m 33 = byteOf p))

/-- COMMIT and ERASE examined (R172, R174): WRONG_MODE outside CONFIG, STORE_BUSY while an operation is in flight, ZONE_BUSY
while a lift holds a trip record, and for COMMIT BAD_PROFILE with the number of the first failing item; otherwise the card is
TAKEN and the operation is in flight, a COMMIT with its copy of the image, and nothing else changes. The items of a record (R170):
1 the check word, 2 the format marker, 3 LEVELS 2 to 40, 4 SPLIT up to LEVELS, 5 and 6 the transfer times, 7 MARGIN_M up to 64, 8 W
1 to 64, 9 to 11 the limits not 0, 20 + d TT[d] not 0 and not below TT[d - 1], 100 + level a fit map byte of bits 0 to 3; the
lowest item that fails is the check's result. -/
def Obligations.CommitAndEraseExamined : Prop :=
  (∀ r : List Byte,
    let at' (i : Nat) : Nat := (r.getD i 0x00).toNat
    let two (i : Nat) : Nat := at' i + 256 * at' (i + 1)
    let travel (d : Nat) : Nat := two (0x10 + 2 * (d - 1))
    let fails (item : Nat) : Prop :=
      (item = 1 ∧ two 0x88 ≠ (crc16 (r.take 0x88)).toNat) ∨ (item = 2 ∧ two 0x00 ≠ 0x0A01) ∨
      (item = 3 ∧ (at' 0x02 < 2 ∨ 40 < at' 0x02)) ∨ (item = 4 ∧ at' 0x02 < at' 0x03) ∨ (item = 5 ∧ at' 0x04 = 0) ∨
      (item = 6 ∧ at' 0x05 = 0) ∨ (item = 7 ∧ 64 < at' 0x08) ∨ (item = 8 ∧ (at' 0x09 = 0 ∨ 64 < at' 0x09)) ∨
      (item = 9 ∧ at' 0x0C = 0) ∨ (item = 10 ∧ at' 0x0D = 0) ∨ (item = 11 ∧ at' 0x0E = 0) ∨
      (∃ d, 1 ≤ d ∧ d ≤ at' 0x02 ∧ item = 20 + d ∧ (travel d = 0 ∨ (1 < d ∧ travel d < travel (d - 1)))) ∨
      (∃ level, 1 ≤ level ∧ level ≤ at' 0x02 ∧ item = 100 + level ∧ 16 ≤ at' (0x60 + (level - 1)))
    (∀ item, checkRecord r = some item ↔ fails item ∧ ∀ j, j < item → ¬fails j) ∧
    (checkRecord r = none ↔ ∀ item, ¬fails item)) ∧
  ∀ (s : State) (n : Nat) (rest : List Nat) (c : Instr) (kind : Byte) (w : StoreWork),
    (c = .commit ∧ kind = kindCommit ∧ w = .commit s.image) ∨ (c = .erase ∧ kind = kindErase ∧ w = .erase) →
    Head s kind n rest →
    let u := s.examining rest
    let free := s.mode = .config ∧ s.store.op = none ∧ ∀ x, (s.lift x).trip = none
    let refused (r : ReasonCode) (d : Byte) : Prop := ∃ t, exec c s = .next t ∧ FinishedAs u t n cardRefused r d s.stamp
    (s.mode ≠ .config → refused .wrongMode 0) ∧
    (s.mode = .config → s.store.op ≠ none → refused .storeBusy 0) ∧
    (s.mode = .config → s.store.op = none → (∃ x, (s.lift x).trip ≠ none) → refused .zoneBusy 0) ∧
    (∀ item, free → c = .commit → checkRecord s.image = some item → refused .badProfile (byteOf item)) ∧
    (free → c = .erase ∨ checkRecord s.image = none → ∃ t, exec c s = .next t ∧ t.cardState n = cardTaken ∧
      t.store = { s.store with op := some { work := w, card := n, examined := s.stamp } } ∧
      (∀ a, a ≠ cardAddr n 0 → Memory.read t.board.mem a = Memory.read s.board.mem a) ∧
      { t.board with mem := s.board.mem, postQueue := s.board.postQueue } = s.board ∧ t.board.postQueue = rest ∧
      { t with board := s.board, store := s.store, sent := s.sent } = s)

/-! ### The profile store (chapter 10) -/

/-- COMMIT_END (R173): where the record reads back equal to the copy, the copy is the active profile, every lane is empty,
fitted by the new map and awaiting rebuild, the nodes of the new levels are SEEKING, and last the card finishes DONE; otherwise
there is no active profile, no lane is fitted, every node is OFF, STORE_FAULT and then NO_PROFILE are raised, and the card
finishes FAILED with STORE_FAULT. -/
def Obligations.CommitEnds : Prop :=
  ∀ (s : State) (o : StoreOp) (copy readBack : List Byte) (completed : Bool), Live s → s.store.op = some o →
    o.work = .commit copy → copy.length = 138 → readBack.length = 138 →
    (completed = true → readBack = copy →
      let u := (s.begin.endStore readBack s.store.slots).adoptProfile copy
      let t := (u.finishCard o.card cardDone .none 0x00 o.examined).resolved
      exec (.commitEnd completed readBack) s = .next t ∧ (∀ p, p < 160 → u.entries p = []) ∧
      (∀ k, u.grant k = none) ∧ u.handover.held = [] ∧
      t.store = { s.store with profile := copy, active := some copy, op := none } ∧
      (∀ p, p < 160 → (t.place p).fitted = recordFits copy p ∧ (t.place p).awaiting = true ∧
        (t.place p).retired = slotsRetire s.store.judged (recByte copy 0x02) p ∧ (t.place p).sensed = none) ∧
      (∀ k, 1 ≤ k → k ≤ 40 → (t.node k).state = if k ≤ recByte copy 0x02 then .seeking else .off)) ∧
    (completed = false ∨ readBack ≠ copy →
      let u := ((s.begin.endStore readBack s.store.slots).loseProfile false).raiseStoreLost 0x0A o.card
      let t := (u.finishCard o.card cardFailed .storeFault 0x00 o.examined).resolved
      exec (.commitEnd completed readBack) s = .next t ∧ (∀ p, p < 160 → u.entries p = []) ∧
      (∀ k, u.grant k = none) ∧ u.handover.held = [] ∧
      t.store = { s.store with profile := readBack, active := none, op := none } ∧
      (∀ p, p < 160 → (t.place p).fitted = false) ∧ (∀ k, (t.node k).state = .off) ∧
      t.cond srcStore = ((s.cond srcStore).raised .storeFault 0x0A (byteOf o.card) s.stamp).raised .noProfile 0x0A 0x00 s.stamp)

/-- ERASE_END (R174): whatever the result there is no active profile, no lane is fitted or retired, every node is OFF and the
areas are as read back, each slot again what it reads (log 55); the mirror record of each lane that was fitted or retired
is written. With both erased the card finishes DONE; otherwise STORE_FAULT and NO_PROFILE are raised and it
finishes FAILED with the areas that failed as detail. -/
def Obligations.EraseEnds : Prop :=
  ∀ (s : State) (o : StoreOp) (profile : List Byte) (slots : Vector Slot 32), Live s → s.store.op = some o →
    o.work = .erase → profile.length = 138 →
    let u := (s.begin.endStore profile slots).forgetFailures.loseProfile true
    let clean := profile = erasedRecord ∧ ∀ x ∈ slots.toList, x = slotErased
    (clean → Leads (.eraseEnd profile slots) s (u.finishCard o.card cardDone .none 0x00 o.examined)) ∧
    (¬clean → Leads (.eraseEnd profile slots) s ((u.raiseStoreLost 0x0B o.card).finishCard o.card cardFailed .storeFault
      (if profile = erasedRecord then 0x02 else if ∀ x ∈ slots.toList, x = slotErased then 0x01 else 0x03) o.examined)) ∧
    ∃ t, exec (.eraseEnd profile slots) s = .next t ∧
      t.store = { s.store with
        profile := profile, slots := slots, failed := Vector.replicate 32 false, active := none, op := none } ∧
      (∀ p, p < 160 → (s.place p).fitted = true ∨ (s.place p).retired = true → u.Mirrored p) ∧
      (∀ p, p < 160 → (t.place p).fitted = false ∧ (t.place p).retired = false) ∧ (∀ k, (t.node k).state = .off) ∧
      (clean → t.cond srcStore = s.cond srcStore) ∧
      (¬clean → t.cond srcStore =
        ((s.cond srcStore).raised .storeFault 0x0B (byteOf o.card) s.stamp).raised .noProfile 0x0B 0x00 s.stamp)

/-- RETIRE examined and ended. Examined (R16, R20, R175): a level and selector that name no fitted lane refuse the card BAD_FIELD;
otherwise it is refused STORE_BUSY while a store operation is in flight, PLACE_BUSY on a lane with a card entry, a reservation or a
lock, finishes DONE at once on a retired lane, and is refused STORE_FULL without an erased slot that is not spoiled; otherwise the card is TAKEN, the
lane's retired flag is set as retiring, the operation that programs the first erased slot is in flight, and no byte of the exchange
memory but the card's state byte and the lane's mirror record changes. RETIRE_END (R20, R175): the slot is as read back. Valid and
naming the lane, the lane stays retired, is no longer retiring, and the card finishes DONE; otherwise its retired flag is cleared,
STORE_FAULT is raised with detail 09h and the card's number, and the card finishes FAILED. A slot
whose RETIRE failed is spoiled until ERASE, whatever it reads: it is not chosen again and retires no lane (R175; over INIT too: log 55,
DEDUCED). (Outcome details that the rules do not state are 00h: log 35.) -/
def Obligations.RetireEnds : Prop :=
  (∀ (s : State) (n : Nat) (rest : List Nat), Head s kindRetire n rest →
    let u := s.examining rest
    let named := s.namedPlace n (s.cardSelector n) true
    let ends (final : Byte) (r : ReasonCode) : Prop := ∃ t, exec .retire s = .next t ∧ FinishedAs u t n final r 0 s.stamp
    (named = none → ends cardRefused .badField) ∧
    (∀ p, named = some p →
      let idle := (∀ e ∈ s.entries p, e = .foreign) ∧ (s.place p).res = 0 ∧ (s.place p).lock = .none
      let free (j : Nat) : Prop := s.store.slots[j]? = some slotErased ∧ s.store.failed[j]? = some false
      (s.store.op ≠ none → ends cardRefused .storeBusy) ∧
      (s.store.op = none → ¬idle → ends cardRefused .placeBusy) ∧
      (s.store.op = none → idle → (s.place p).retired = true → ends cardDone .none) ∧
      (s.store.op = none → idle → (s.place p).retired = false → (∀ j, ¬free j) →
        ends cardRefused .storeFull) ∧
      (∀ j, s.store.op = none → idle → (s.place p).retired = false → free j → (∀ i, i < j → ¬free i) → ∃ v, Leads .retire s v ∧ v.cardState n = cardTaken ∧
        v.store = { s.store with op := some { work := .retire p j, card := n, examined := s.stamp } } ∧
        (v.place p).standing = ({ s.place p with retired := true, retiring := true }).standing ∧
        (∀ q, q ≠ p → v.place q = s.place q) ∧ v.mode = s.mode ∧ v.contexts = s.contexts ∧ v.conditions = s.conditions ∧
        v.board.postQueue = rest ∧ v.board.finishList = s.board.finishList ∧
        (∀ a, a ≠ cardAddr n 0 → (a < 0x3000 + 8 * p ∨ 0x3008 + 8 * p ≤ a) →
          Memory.read v.board.mem a = Memory.read s.board.mem a)))) ∧
  (∀ (st : Store) (levels p : Nat), slotsRetire st.judged levels p = true ↔
    ∃ (j : Nat) (x : Slot), st.slots[j]? = some x ∧ st.failed[j]? = some false ∧ slotIsValid x = true ∧ x.b0.toNat ≤ levels ∧
      slotLane x = p) ∧
  ∀ (s : State) (o : StoreOp) (p j : Nat) (readBack : Slot), Live s → s.store.op = some o →
    o.work = .retire p j → p < 160 → j < 32 →
    let u := s.begin.endStore s.store.profile (s.store.slots.setIfInBounds j readBack)
    ∃ t, exec (.retireEnd readBack) s = .next t ∧
      { t.store with failed := s.store.failed } =
        { s.store with slots := s.store.slots.setIfInBounds j readBack, op := none } ∧
      (∀ q, q ≠ p → (t.place q).standing = (s.place q).standing) ∧
      (slotIsValid readBack = true → slotLane readBack = p →
        t = ((u.setStatus p { s.place p with retiring := false }).finishCard o.card cardDone .none 0x00 o.examined).resolved ∧
        t.store.failed = s.store.failed ∧
        (t.place p).standing = ({ s.place p with retiring := false }).standing ∧ t.cond srcStore = s.cond srcStore) ∧
      (slotIsValid readBack = false ∨ slotLane readBack ≠ p →
        t.store.failed = s.store.failed.setIfInBounds j true ∧
        t = ((((u.markFailed j).setStatus p { s.place p with retired := false, retiring := false }).raise srcStore .storeFault 0x09
          (byteOf o.card)).finishCard o.card cardFailed .storeFault 0x00 o.examined).resolved ∧
        (t.place p).standing = ({ s.place p with retired := false, retiring := false }).standing ∧
        t.cond srcStore = (s.cond srcStore).raised .storeFault 0x09 (byteOf o.card) s.stamp)

/-! ### The level chain (chapters 4 and 8) -/

/-- A numbered report (R143, R145, R150): in its order it is handed over as its kind says, with the exchange ended and its
number counted; with another number than the expected one it is handed over likewise, and REPORT_GAP is raised and RESYNC-ASK
queued; from a SEEKING node it counts as the first answer alone; from a node that has become DEAD, CUT or OFF meanwhile it ends the
exchange, sets the unanswered count to 0 and is not handed over (the exchange goes on till then: log 16, DEDUCED); and without a POLL to
its level in progress it is discarded. -/
def Obligations.ReportsTaken : Prop :=
  ∀ (c : Instr) (p : Port) (level : Byte) (number : BitVec 4) (s : State), reportOf c = some (p, level, number) →
    let k := level.toNat
    (InOrder s p level number → Leads c s ((s.handed p k number).handReport k c)) ∧
    (∀ x, s.mode ≠ .init → s.polls p k → s.alive k = true → (s.node k).expected = some x → x ≠ number →
      Leads c s ((((s.handed p k number).handReport k c).raise (srcLevel k) .reportGap (x.setWidth 8)
        (number.setWidth 8)).queueResync k)) ∧
    (s.mode ≠ .init → s.polls p k → (s.node k).state = .seeking →
      Leads c s ((s.begin.answered p k .advance).firstAnswer k) ∧
      ∃ t, exec c s = .next t ∧ (t.node k).state = .alive ∧ (t.node k).unanswered = 0 ∧ (t.chainPort p).exchange = none) ∧
    (Awake s → s.polls p k → (s.node k).state ≠ .alive → (s.node k).state ≠ .seeking → ∃ t, exec c s = .next t ∧
      t.node k = { s.node k with unanswered := 0 } ∧ (∀ j, j ≠ k → t.node j = s.node j) ∧
      t.chainPort p = { s.chainPort p with exchange := none, next := .advance } ∧
      { t with chain := s.chain, sent := s.sent } = s) ∧
    (Awake s → ¬s.polls p k → exec c s = .next { s with sent := [] })

/-- DROP_ASK in its order (R74 to R78), after an earlier ask of the level has been dropped (R84): without an open RETRIEVE card
of that tote and level it is refused NO_CARD with NO_CARD_ASK raised; a card that is neither PENDING nor HELD gets DUPLICATE; a
card whose side choice holds is HELD behind the other asks; one that closes fails LEVEL_CLOSED; one that is granted a side
has its outbound lane SHUTTLE-locked with one reservation more, its context bound to that side, the grant record opened with
its timer, and DROP-GRANT queued. -/
def Obligations.DropAskTaken : Prop :=
  ∀ (s : State) (p : Port) (level : Byte) (number : BitVec 4) (tote : Word), InOrder s p level number →
    let k := level.toNat
    let w := (s.handed p k number).dropHeld k
    let u := (s.handed p k number).askDrop k tote
    let answers (c : ChainCmd) : Prop := (u.node k).queue = (w.node k).queue ++ [c]
    let wanted := w.findOpen (fun c => c.kind == .retrieve && c.tote == tote && c.level == k)
    Leads (.dropAsk p level number tote) s u ∧
    (wanted = none → answers (.dropRefuse .noCard) ∧ u.cond (srcLevel k) =
      (w.cond (srcLevel k)).raised .noCardAsk (tote.extractLsb' 0 8) (tote.extractLsb' 8 8) s.stamp) ∧
    (∀ n c, wanted = some n → w.ctx n = some c →
      (c.phase ≠ .pending → c.phase ≠ .held → answers (.dropRefuse .duplicate) ∧ u.ctx n = some c) ∧
      (c.phase = .pending ∨ c.phase = .held →
        (w.dropChoice c k = .hold →
          u.ctx n = some { c with phase := .held } ∧ u.handover.held = w.handover.held ++ [.drop k n tote]) ∧
        (w.dropChoice c k = .closed →
          answers (.dropRefuse .levelClosed) ∧ u.ctx n = none ∧ u.cardState n = cardFailed ∧ u.cardByte n 32 = 0x0B ∧
          u.cardByte n 33 = byteOf k) ∧
        (∀ x sub, w.dropChoice c k = .grant x sub → answers (.dropGrant x c.tote) ∧
          u.ctx n = some { c with phase := .granted, side := some x, sideChanged := sub, bound := s.stamp } ∧
          (u.place (outLane k x)).lock = .shuttle ∧
          (u.place (outLane k x)).res = (s.place (outLane k x)).res + 1 ∧
          u.entries (outLane k x) = s.entries (outLane k x) ∧
          u.grant k = some { kind := .drop, side := x, entry := .card n, tote := c.tote,
                             timer := some (1000 * s.grantLimit) } ∧
          u.release.bound.get x = (if c.liveSeq = none then s.release.bound.get x else s.release.bound.get x ++ [n]))))

/-- The side choice for a drop (R75 to R77): only a side whose outbound lane of the level can ever admit is a candidate, the
preferred one first and the other as its substitute; without a candidate the ask closes; a side passes now in RUN, with no grant open
at the level, on a lane that admits, has room and is not locked, and, for a live number, with a place in the window behind every
number bound there (R53); the ask is granted only on a candidate that passes now, and is held exactly where there is a candidate and
none passes. The held-ask walk (R85) is made in RUN alone: it takes the asks from the oldest to the newest, tries each as a new one
would be tried, a later one in the state that the earlier ones left, and those that remain keep their order. -/
def Obligations.DropSideChoice : Prop :=
  (∀ (s : State) (c : Context) (k : Nat),
    let can (x : Side) : Prop := s.canEverAdmit (outLane k x) = true
    let candidate (x : Side) : Prop := can x ∧
      (c.pref = .any ∨ (c.pref = .a ∧ (x = .a ∨ ¬can .a)) ∨ (c.pref = .b ∧ (x = .b ∨ ¬can .b)))
    (∀ x, s.passesNow c k x = true ↔ s.mode = .run ∧ s.grant k = none ∧ s.admitsArrivals (outLane k x) = true ∧
      s.hasRoom (outLane k x) = true ∧ (s.place (outLane k x)).lock = .none ∧
      (∀ q, c.liveSeq = some q → s.distance q < s.window ∧
        ∀ m d l, (s.release.bound.get x).getLast? = some m → s.ctx m = some d → d.seq = some l →
          s.distance l < s.distance q)) ∧
    (s.dropChoice c k = .closed ↔ ¬can .a ∧ ¬can .b) ∧
    (s.dropChoice c k = .hold ↔ (can .a ∨ can .b) ∧ ∀ x, candidate x → s.passesNow c k x = false) ∧
    (∀ x sub, s.dropChoice c k = .grant x sub →
      can x ∧ candidate x ∧ s.passesNow c k x = true ∧
      (sub = true ↔ (c.pref = .a ∧ x = .b) ∨ (c.pref = .b ∧ x = .a)) ∧
      (c.pref = .a → x = .b → ¬can .a) ∧ (c.pref = .b → x = .a → ¬can .b) ∧
      (c.pref = .any → can .a → can .b → s.passesNow c k .a = true → s.passesNow c k .b = true →
        (x = .b ↔ s.zoneCount .b < s.zoneCount .a)))) ∧
  (∀ (s : State) (k : Nat),
    (∀ n c tote, s.ctx n = some c → s.tryHeld (.drop k n tote) = (match s.dropChoice c k with
      | .closed => some (s.closeDrop n k)
      | .grant x sub => some (s.grantDrop n c k x sub)
      | .hold => none)) ∧
    (∀ x, s.takePasses k x = true ↔ s.mode = .run ∧ s.grant k = none ∧ s.admitsDepartures (inLaneOf k x) = true ∧
      (s.place (inLaneOf k x)).lock = .none ∧ s.entries (inLaneOf k x) ≠ []) ∧
    (∀ x e, s.takePasses k x = true → s.head (inLaneOf k x) = some e →
      s.tryHeld (.take k x) = some (s.grantTake k x e)) ∧
    (∀ x, s.takePasses k x = false → s.tryHeld (.take k x) = none)) ∧
  ∀ s : State,
    (s.mode ≠ .run → s.walk = none) ∧
    (s.mode = .run → (s.walk = none ↔ ∀ h ∈ s.handover.held, s.tryHeld h = none)) ∧
    (∀ before h after t, s.mode = .run → s.handover.held = before ++ h :: after →
      (∀ a ∈ before, s.tryHeld a = none) → s.tryHeld h = some t → s.walk = some (State.walkOver after t).1) ∧
    (∀ h hs, State.walkOver (h :: hs) s = match s.tryHeld h with
      | none => State.walkOver hs s
      | some t => ((State.walkOver hs t).1, true)) ∧
    ∀ t, s.walk = some t → t.handover.held.Sublist s.handover.held

/-- DROP_DONE and DROP_ABORT in their order, naming the open grant of the level (R79, R80): the grant ends and the lane is
unlocked with one reservation fewer. Done, the entry joins the lane's tail and its card is IN_LANE there, loaded now; aborted,
the lane holds what it held, and the card is PENDING with its side and bound stamp cleared, or ends CANCELLED where that was
asked for. A card done with its cancel requested is IN_LANE too and gives its number up, demoted (R31; what giving up does is the
statement ReleaseAdvances). A report that names no open grant is discarded. -/
def Obligations.DropEnds : Prop :=
  ∀ (s : State) (p : Port) (level : Byte) (number : BitVec 4) (x : Side) (tote : Word), InOrder s p level number →
    let k := level.toNat
    let lane := outLane k x
    let v := s.handed p k number
    (∀ g, s.grant k = some g → g.isDrop x tote = true →
      (let u := v.dropDone k g
       Leads (.dropDone p level number x tote) s u ∧ u.grant k = none ∧ (u.place lane).lock = .none ∧
       (u.place lane).res = (s.place lane).res - 1 ∧ u.entries lane = s.entries lane ++ [g.entry] ∧
       (∀ q, q ≠ lane → u.place q = s.place q) ∧ u.lifts = s.lifts ∧ u.conditions = s.conditions ∧
       (∀ n c, g.entry = .card n → s.ctx n = some c → c.cancelRequested = false →
         u.ctx n = some { c with phase := .inLane, place := some lane, loaded := s.stamp } ∧ u.release = s.release) ∧
       (∀ n c, g.entry = .card n → s.ctx n = some c → c.cancelRequested = true →
         ∃ w : State, u = w.giveUp n true ∧ w.release = s.release ∧ (∀ m, m ≠ n → w.ctx m = s.ctx m) ∧
           w.ctx n = some { c with phase := .inLane, place := some lane, loaded := s.stamp } ∧
           (∀ q, c.seqState = .live → c.seq = some q → u.ctx n = some { c with
             phase := .inLane, place := some lane, loaded := s.stamp, seqState := .givenUp, demoted := true, demotedFlag := true }) ∧
           (c.seqState ≠ .live → u.ctx n = w.ctx n ∧ u.release = s.release))) ∧
      (let u := v.dropAbort k g
       Leads (.dropAbort p level number x tote) s u ∧ u.grant k = none ∧ (u.place lane).lock = .none ∧
       (u.place lane).res = (s.place lane).res - 1 ∧ u.entries lane = s.entries lane ∧
       (∀ q, q ≠ lane → u.place q = s.place q) ∧ u.lifts = s.lifts ∧ u.conditions = s.conditions ∧
       (∀ n c, g.entry = .card n → s.ctx n = some c →
         (c.cancelRequested = false →
           u.ctx n = some { c with phase := .pending, side := none, sideChanged := false, bound := 0 } ∧
           n ∉ u.release.bound.a ∧ n ∉ u.release.bound.b) ∧
         (c.cancelRequested = true → u.ctx n = none ∧ u.cardState n = cardCancelled)))) ∧
    ((∀ g, s.grant k = some g → g.isDrop x tote = false) →
      Leads (.dropDone p level number x tote) s v ∧ Leads (.dropAbort p level number x tote) s v)

/-- TAKE_ASK, TAKE_DONE and TAKE_ABORT in their order (R81 to R84). An ask is granted in RUN, with no grant open at the level,
from an inbound lane that admits departures, is not locked and holds an entry: the lane is SHUTTLE-locked, its head's card is
taken, the grant is open and TAKE-GRANT is queued; otherwise it is held with TAKE-WAIT. Done, the head leaves the lane, which is
unlocked, and its card finishes DONE, or FOREIGN_STORED is raised; aborted, the lane is unlocked and the card is IN_LANE
again. -/
def Obligations.TakeAskAndEnds : Prop :=
  ∀ (s : State) (p : Port) (level : Byte) (number : BitVec 4) (x : Side) (tote : Word), InOrder s p level number →
    let k := level.toNat
    let lane := inLaneOf k x
    let v := s.handed p k number
    let w := v.dropHeld k
    (let u := v.askTake k x
     let may := s.mode = .run ∧ s.grant k = none ∧ s.admitsDepartures lane = true ∧ (s.place lane).lock = .none
     Leads (.takeAsk p level number x) s u ∧
     (∀ e, may → s.head lane = some e →
       (u.place lane).lock = .shuttle ∧ u.entries lane = s.entries lane ∧
       u.grant k = some { kind := .take, side := x, entry := e, tote := w.toteOf e, timer := some (1000 * s.grantLimit) } ∧
       (u.node k).queue = (w.node k).queue ++ [.takeGrant x (w.toteOf e)] ∧
       (∀ n c, e = .card n → w.ctx n = some c → u.ctx n = some { c with phase := .taking })) ∧
     (¬may ∨ s.entries lane = [] → u.handover.held = w.handover.held ++ [.take k x] ∧
       (u.node k).queue = (w.node k).queue ++ [.takeWait x] ∧ u.places = s.places ∧ u.handover.grants = s.handover.grants)) ∧
    (∀ g, s.grant k = some g → g.isTake x = true →
      (let u := v.takeDone k g tote
       Leads (.takeDone p level number x tote) s u ∧ u.grant k = none ∧ (u.place lane).lock = .none ∧
       u.entries lane = (s.entries lane).tail ∧ (∀ q, q ≠ lane → u.place q = s.place q) ∧
       (g.entry = .foreign →
         u.cond (srcLevel k) = (s.cond (srcLevel k)).raised .foreignStored (byteOf lane) (tote.extractLsb' 0 8) s.stamp) ∧
       (∀ n c, g.entry = .card n → s.ctx n = some c → u.ctx n = none ∧ u.cardState n = cardDone ∧
         u.cardByte n 35 = resultFlags { c with idMismatch := c.idMismatch || tote != c.tote } ∧
         u.conditions = s.conditions)) ∧
      (let u := v.takeAbort k g
       Leads (.takeAbort p level number x) s u ∧ u.grant k = none ∧ (u.place lane).lock = .none ∧
       u.entries lane = s.entries lane ∧ (∀ q, q ≠ lane → u.place q = s.place q) ∧ u.conditions = s.conditions ∧
       (∀ n c, g.entry = .card n → s.ctx n = some c → u.ctx n = some { c with phase := .inLane }))) ∧
    ((∀ g, s.grant k = some g → g.isTake x = false) →
      Leads (.takeDone p level number x tote) s v ∧ Leads (.takeAbort p level number x) s v)

/-- The answers to POLL (R10, R145) from an ALIVE node: LANE_COUNT in its order gives every fitted lane of the level that does not await rebuild
its count, at most the capacity, and such a lane's mismatch timer starts at SENSE_GRACE or keeps running while that count differs
from the record of a lane neither frozen nor locked, there being a profile, and is stopped otherwise (R11); every other lane and place
stands. NOTHING ends the exchange alone; OVERFLOW raises OVERFLOW and queues RESYNC-ASK, RESTARTED queues RESYNC-ASK, once. From a
SEEKING node NOTHING, OVERFLOW and RESTARTED count as its first answer alone (R150), from a DEAD, CUT or OFF one they end the exchange
alone (log 16, DEDUCED), and without a POLL to the level in progress they are discarded (R143). -/
def Obligations.PollAnswers : Prop :=
  (∀ (s : State) (p : Port) (level : Byte) (c : Instr), Awake s →
    c = .nothing p level ∨ c = .overflow p level ∨ c = .restarted p level →
    let k := level.toNat
    (¬s.polls p k → exec c s = .next { s with sent := [] }) ∧
    (s.polls p k → (s.node k).state = .seeking → ∃ v, Leads c s v ∧ v.conditions = s.conditions ∧
      v.node k = { s.node k with
        state := .alive, unanswered := 0
        queue := if ChainCmd.resyncAsk ∈ (s.node k).queue then (s.node k).queue else (s.node k).queue ++ [.resyncAsk] } ∧
      (∀ j, j ≠ k → v.node j = s.node j) ∧ v.chainPort p = { s.chainPort p with exchange := none, next := .advance }) ∧
    (s.polls p k → (s.node k).state ≠ .alive → (s.node k).state ≠ .seeking → ∃ t, exec c s = .next t ∧
      t.node k = { s.node k with unanswered := 0 } ∧ (∀ j, j ≠ k → t.node j = s.node j) ∧
      t.chainPort p = { s.chainPort p with exchange := none, next := .advance } ∧
      { t with chain := s.chain, sent := s.sent } = s)) ∧
  ∀ (s : State) (p : Port) (level : Byte), s.mode ≠ .init → s.polls p level.toNat → s.alive level.toNat = true →
    let k := level.toNat
    let v := s.begin.answered p k .advance
    (v.chainPort p).exchange = none ∧ (v.node k).unanswered = 0 ∧ (v.node k).state = .alive ∧
    Leads (.nothing p level) s v ∧
    Leads (.overflow p level) s ((v.raise (srcLevel k) .overflow 0x00 0x00).queueResync k) ∧
    Leads (.restarted p level) s (v.queueResync k) ∧
    (v.queueResync k).node k = { v.node k with
      queue := if ChainCmd.resyncAsk ∈ (s.node k).queue then (s.node k).queue else (s.node k).queue ++ [.resyncAsk] } ∧
    (∀ number counts, InOrder s p level number → s.wake = [] →
      ∃ t, exec (.laneCount p level number counts) s = .next t ∧
        (∀ q n, (q, n) ∈ [(outLane k .a, counts.outA), (inLaneOf k .a, counts.inA), (outLane k .b, counts.outB),
            (inLaneOf k .b, counts.inB)] →
          let z := s.place q
          let takes := z.fitted = true ∧ z.awaiting = false
          let differs := s.hasProfile = true ∧ z.frozen = none ∧ z.lock = .none ∧ min 2 n.toNat ≠ (s.entries q).length
          (¬takes → t.place q = z) ∧
          (takes → (t.place q).sensed = some (min 2 n.toNat) ∧
            { t.place q with sensed := z.sensed, mismatch := z.mismatch } = z ∧
            (differs → z.mismatch = none → (t.place q).mismatch = some (100 * s.senseGrace)) ∧
            (∀ r, differs → z.mismatch = some r → (t.place q).mismatch = some r) ∧
            (¬differs → (t.place q).mismatch = none))) ∧
        (∀ q, q ≠ outLane k .a → q ≠ inLaneOf k .a → q ≠ outLane k .b → q ≠ inLaneOf k .b → t.place q = s.place q) ∧
        (∀ q, t.entries q = s.entries q ∧ (t.place q).lock = (s.place q).lock ∧ (t.place q).res = (s.place q).res) ∧
        t.conditions = s.conditions ∧ t.contexts = s.contexts ∧ t.lifts = s.lifts)

/-- RESYNC_REPORT (R151 to R153): taken as the answer to the RESYNC-ASK whose number it carries, from an ALIVE node. The next
report number is the announced one. The level's open grant is settled with the full effect of DROP-DONE, DROP-ABORT, TAKE-DONE with
tote ID 0, or TAKE-ABORT, or left open: which of them is the statement GrantSettlement, and what they do to cards is DropEnds and
TakeAskAndEnds. Then, with a grant or without, each fitted lane takes its count in the state so reached: a lane that awaits rebuild
and has no reservation is rebuilt with that many FOREIGN entries, without lock or freeze (the order of a card that stood there goes on unchanged: log 58,
DESIGN CHOICE), one with a reservation goes on waiting, any other takes it as its sensed count. From a SEEKING node the report counts as the first answer alone (R150), from one that has
become DEAD, CUT or OFF meanwhile it ends the exchange alone (log 16, DEDUCED); one that answers no RESYNC-ASK of its level and number
is discarded (R143). -/
def Obligations.ResyncReportTaken : Prop :=
  (∀ (s : State) (p : Port) (level : Byte) (number next : BitVec 4) (counts : LaneCounts) (held : Word) (last : LastEvent),
    Awake s →
    let k := level.toNat
    let c : Instr := .resyncReport p level number next counts held last
    let asks : Prop := ∃ left, (s.chainPort p).exchange = some ⟨k, .command .resyncAsk number, left⟩
    let popped : Node :=
      if (s.node k).sends ≠ 0 ∧ (s.node k).frame = number then
        { s.node k with queue := (s.node k).queue.tail, sends := 0, unanswered := 0 }
      else { s.node k with unanswered := 0 }
    (¬asks → exec c s = .next { s with sent := [] }) ∧
    (asks → (s.node k).state = .seeking → ∃ v, Leads c s v ∧
      v.node k = { popped with
        state := .alive
        queue := if ChainCmd.resyncAsk ∈ popped.queue then popped.queue else popped.queue ++ [.resyncAsk] } ∧
      (∀ j, j ≠ k → v.node j = s.node j) ∧ v.chainPort p = { s.chainPort p with exchange := none, next := .poll } ∧
      v.handover = s.handover ∧ v.contexts = s.contexts ∧ (∀ q, v.entries q = s.entries q ∧ (v.place q).sensed = (s.place q).sensed)) ∧
    (asks → (s.node k).state ≠ .alive → (s.node k).state ≠ .seeking → ∃ t, exec c s = .next t ∧ t.node k = popped ∧
      (∀ j, j ≠ k → t.node j = s.node j) ∧ t.chainPort p = { s.chainPort p with exchange := none, next := .poll } ∧
      { t with chain := s.chain, sent := s.sent } = s)) ∧
  ∀ (s : State) (p : Port) (level : Byte) (number next : BitVec 4) (counts : LaneCounts) (held : Word) (last : LastEvent)
    (left : Nat), s.mode ≠ .init → s.alive level.toNat = true →
    (s.chainPort p).exchange = some ⟨level.toNat, .command .resyncAsk number, left⟩ →
    let k := level.toNat
    let v := (s.begin.answered p k .poll).updateNode k (fun nd =>
      if nd.sends ≠ 0 ∧ nd.frame = number then { nd with queue := nd.queue.tail, sends := 0 } else nd)
    let u := v.resync k next counts held last
    let told := v.updateNode k (fun nd => { nd with expected := some next })
    Leads (.resyncReport p level number next counts held last) s u ∧ (u.node k).expected = some next ∧
    ∃ w, (s.grant k = none → w = told) ∧ u.contexts = w.contexts ∧ u.handover = w.handover ∧ u.release = w.release ∧
      u.lifts = w.lifts ∧ u.conditions = w.conditions ∧
      (∀ q n, (q, n) ∈ [(outLane k .a, counts.outA), (inLaneOf k .a, counts.inA), (outLane k .b, counts.outB),
          (inLaneOf k .b, counts.inB)] →
        ((w.place q).fitted = false → u.place q = w.place q) ∧
        ((w.place q).fitted = true → (w.place q).awaiting = true → (w.place q).res = 0 →
          u.entries q = List.replicate (min 2 n.toNat) .foreign ∧ (u.place q).lock = .none ∧ (u.place q).frozen = none ∧
          (u.place q).awaiting = false ∧ (u.place q).sensed = some (min 2 n.toNat)) ∧
        ((w.place q).fitted = true → (w.place q).awaiting = true → (w.place q).res ≠ 0 → u.place q = w.place q) ∧
        ((w.place q).fitted = true → (w.place q).awaiting = false →
          u.entries q = w.entries q ∧ (u.place q).res = (w.place q).res ∧ (u.place q).lock = (w.place q).lock ∧
          (u.place q).sensed = some (min 2 n.toNat))) ∧
      (∀ q, q ∉ [outLane k .a, inLaneOf k .a, outLane k .b, inLaneOf k .b] → u.place q = w.place q) ∧
      (∀ g, s.grant k = some g →
        let lane := g.lane k
        let count := match g.kind, g.side with
          | .drop, .a => counts.outA | .take, .a => counts.inA | .drop, .b => counts.outB | .take, .b => counts.inB
        let r := settlement g (s.entries lane).length (min 2 count.toNat) held last
        (r = .leftOpen → w = told ∧ u.grant k = some g) ∧
        (r ≠ .leftOpen → u.grant k = none ∧ (w.place lane).lock = .none) ∧
        (r = .done → g.kind = .drop → w = told.dropDone k g ∧ w.entries lane = s.entries lane ++ [g.entry] ∧
          (w.place lane).res = (s.place lane).res - 1) ∧
        (r = .aborted → g.kind = .drop → w = told.dropAbort k g ∧ w.entries lane = s.entries lane ∧
          (w.place lane).res = (s.place lane).res - 1) ∧
        (r = .done → g.kind = .take → w = told.takeDone k g 0 ∧ w.entries lane = (s.entries lane).tail) ∧
        (r = .aborted → g.kind = .take → w = told.takeAbort k g ∧ w.entries lane = s.entries lane))

/-- How a RESYNC-REPORT settles an open grant (R152), row by row of its table: `more` says that the lane's count exceeds the
recorded count, `fewer` that it is below it. -/
def Obligations.GrantSettlement : Prop :=
  ∀ (g : Grant) (recorded count : Nat) (held : Word) (last : LastEvent),
    let r := settlement g recorded count held last
    let more := recorded < count
    let fewer := count < recorded
    let rest (own : Bool) (p : Prop) : Prop := own = false → (p → r = .done) ∧ (¬p → r = .aborted)
    (g.kind = .drop →
      (last = .dropDone g.side g.tote → r = .done) ∧
      (last = .dropAbort g.side g.tote → r = .aborted) ∧
      (last = .dropAsk g.tote → r = .aborted) ∧
      (last = .dropGrant g.side g.tote → held = g.tote → r = .leftOpen) ∧
      (last = .dropGrant g.side g.tote → held ≠ g.tote → (more → r = .done) ∧ (¬more → r = .aborted)) ∧
      rest (last == .dropDone g.side g.tote || last == .dropAbort g.side g.tote || last == .dropAsk g.tote ||
        last == .dropGrant g.side g.tote) more) ∧
    (g.kind = .take →
      (last = .takeDone g.side → r = .done) ∧
      (last = .takeAbort g.side → r = .aborted) ∧
      (last = .takeAsk g.side → r = .aborted) ∧
      (last = .takeGrant g.side → held ≠ 0 → fewer → r = .done) ∧
      (last = .takeGrant g.side → held = 0 ∨ ¬fewer → r = .leftOpen) ∧
      rest (last == .takeDone g.side || last == .takeAbort g.side || last == .takeAsk g.side ||
        last == .takeGrant g.side) fewer)

/-- ACK (R143, R146, R150). In answer to the command in exchange, at its level and with its number, it ends the exchange, sets the
unanswered count to 0, takes the command off the node's queue if that is what was sent, and lets the port poll next; a SEEKING node
becomes ALIVE by it and RESYNC-ASK is queued. In answer to a HELLO, at its level and with number 0, it ends the exchange; from a
DEAD or CUT node it is the revival: the node is ALIVE at this port, the assignment is recomputed and RESYNC-ASK is queued (R148,
R150); a SEEKING node's answer to a HELLO is its first answer (log 39, DEDUCED). An ACK at a port with no exchange, or in answer to a POLL or to RESYNC-ASK, or with another level or number than the
exchange's, is discarded and nothing changes. -/
def Obligations.AckTaken : Prop :=
  ∀ (s : State) (p : Port) (level : Byte) (number : BitVec 4) (k left : Nat), Awake s →
    let resync (q : List ChainCmd) : List ChainCmd := if ChainCmd.resyncAsk ∈ q then q else q ++ [.resyncAsk]
    (∀ c, (s.chainPort p).exchange = some ⟨k, .command c number, left⟩ → level.toNat = k → c ≠ .resyncAsk →
      let popped : Node :=
        if (s.node k).sends ≠ 0 ∧ (s.node k).frame = number then
          { s.node k with queue := (s.node k).queue.tail, sends := 0, unanswered := 0 }
        else { s.node k with unanswered := 0 }
      ((s.node k).state ≠ .seeking → ∃ t, exec (.ack p level number) s = .next t ∧ t.node k = popped ∧
        (∀ j, j ≠ k → t.node j = s.node j) ∧ (t.chainPort p).exchange = none ∧ (t.chainPort p).next = .poll ∧
        { t with chain := s.chain, sent := s.sent } = s) ∧
      ((s.node k).state = .seeking → ∃ v, Leads (.ack p level number) s v ∧
        v.node k = { popped with state := .alive, queue := resync popped.queue } ∧ (∀ j, j ≠ k → v.node j = s.node j) ∧
        (v.chainPort p).exchange = none ∧ (v.chainPort p).next = .poll ∧ v.contexts = s.contexts ∧
        v.handover = s.handover ∧ v.lifts = s.lifts)) ∧
    ((s.chainPort p).exchange = some ⟨k, .hello, left⟩ → level.toNat = k → number = 0 →
      ((s.node k).state = .dead ∨ (s.node k).state = .cut → ∃ v,
        v.node k = { s.node k with state := .alive, port := some p, unanswered := 0, sends := 0 } ∧
        (∀ j, j ≠ k → v.node j = s.node j) ∧ (v.chainPort p).exchange = none ∧ Reassigned v v.recompute ∧
        Leads (.ack p level number) s (v.recompute.queueResync k)) ∧
      ((s.node k).state = .seeking → ∃ v, Leads (.ack p level number) s v ∧
        v.node k = { s.node k with state := .alive, unanswered := 0, queue := resync (s.node k).queue } ∧
        (∀ j, j ≠ k → v.node j = s.node j) ∧ (v.chainPort p).exchange = none) ∧
      ((s.node k).state = .alive ∨ (s.node k).state = .off → ∃ t, exec (.ack p level number) s = .next t ∧
        t.node k = { s.node k with unanswered := 0 } ∧ (∀ j, j ≠ k → t.node j = s.node j) ∧
        (t.chainPort p).exchange = none ∧ { t with chain := s.chain, sent := s.sent } = s)) ∧
    ((s.chainPort p).exchange = none ∨ (s.chainPort p).exchange = some ⟨k, .poll, left⟩ ∨
      ((s.chainPort p).exchange = some ⟨k, .hello, left⟩ ∧ (level.toNat ≠ k ∨ number ≠ 0)) ∨
      (∃ c n, (s.chainPort p).exchange = some ⟨k, .command c n, left⟩ ∧
        (level.toNat ≠ k ∨ n ≠ number ∨ c = .resyncAsk)) →
      exec (.ack p level number) s = .next { s with sent := [] })

/-- VISIT and HELLO (R142, R146, R149): a free port visits the level after the last one of its served list, or its lowest: POLL
where the node's queue is empty, and otherwise its first command with the next frame number. After a command that was not answered
the same command is sent again with the same number, one send more; after an answered one the level is polled; where the level has
left the list, or there is nothing to send again, the visits go on. With an exchange in progress, probes to make, or no level served,
nothing is sent. The second's round of HELLOs goes to the DEAD and CUT levels of the moment it begins, lowest first, one exchange
each, a level no longer lost being passed over; a round that falls due during an exchange waits for its end. Each sending starts the
2 ms of its exchange. The model's choice in this (log 19, DESIGN CHOICE): that a HELLO row whose second has passed, one taken during
an exchange too, starts the 1000 ms to the next round, so that the rounds after it fall later; that a level lost while a round is under way is
probed in the next round only; where the visits go on after the level
visited last has left the served list; and that the HELLOs of a round come before the next visit. -/
def Obligations.VisitAndHello : Prop :=
  (∀ (s : State) (p : Port) (e : Exchange), Awake s → (s.chainPort p).exchange = some e →
    exec (.visit p) s = .next { s with sent := [] } ∧
    exec (.hello p) s = .next (if (s.chainPort p).probeTimer = some 0 then
      { s with sent := [] }.setPort p { s.chainPort p with probes := s.lostLevels, probeTimer := some 1000 }
      else { s with sent := [] })) ∧
  (∀ (s : State) (k : Nat), k ∈ s.lostLevels ↔ 1 ≤ k ∧ k ≤ 40 ∧ ((s.node k).state = .dead ∨ (s.node k).state = .cut)) ∧
  (∀ s : State, s.lostLevels.Pairwise (· < ·)) ∧
  ∀ (s : State) (p : Port), Awake s → (s.chainPort p).exchange = none →
    (∀ k, (s.chainPort p).probes = [] → (s.chainPort p).next = .advance →
      nextVisit (s.served p) (s.chainPort p).level = some k →
      ((s.node k).queue = [] → ∃ t, exec (.visit p) s = .next t ∧ t.sent = [⟨.chain p, byteOf k, 0x01, 0, []⟩] ∧
        t.chainPort p = { s.chainPort p with level := k, exchange := some ⟨k, .poll, 2⟩ } ∧
        { t with chain := s.chain, sent := s.sent } = s ∧ t.chain.nodes = s.chain.nodes) ∧
      (∀ c cs, (s.node k).queue = c :: cs → (s.node k).sends = 0 → 1 ≤ k → k ≤ 40 → ∃ t, exec (.visit p) s = .next t ∧
        t.sent = [exchangeFrame p k (.command c ((s.node k).frame + 1))] ∧
        t.chainPort p = { s.chainPort p with
          level := k, exchange := some ⟨k, .command c ((s.node k).frame + 1), 2⟩ } ∧
        t.node k = { s.node k with frame := (s.node k).frame + 1, sends := 1 } ∧
        { t with chain := s.chain, sent := s.sent } = s)) ∧
    (∀ k ks, (s.chainPort p).probeTimer = some 0 → s.lostLevels = k :: ks →
      ∃ t, exec (.hello p) s = .next t ∧ t.sent = [⟨.chain p, byteOf k, 0x02, 0, []⟩] ∧
        t.chainPort p = { s.chainPort p with probes := ks, probeTimer := some 1000, exchange := some ⟨k, .hello, 2⟩ } ∧
        t.chain.nodes = s.chain.nodes ∧ { t with chain := s.chain, sent := s.sent } = s) ∧
    (let r := s.chainPort p
     let here := r.level
     let nd := s.node here
     let goesOn : Prop := s.served p ≠ [] → exec (.visit p) s = exec (.visit p) (s.setPort p { r with next := .advance })
     r.probes = [] →
      (∀ c cs, r.next = .resend → here ∈ s.served p → nd.sends ≠ 0 → nd.queue = c :: cs → ∃ t, exec (.visit p) s = .next t ∧
        t.sent = [exchangeFrame p here (.command c nd.frame)] ∧ t.node here = { nd with sends := nd.sends + 1 } ∧
        (∀ j, j ≠ here → t.node j = s.node j) ∧ t.chainPort p = { r with exchange := some ⟨here, .command c nd.frame, 2⟩ } ∧
        { t with chain := s.chain, sent := s.sent } = s) ∧
      (r.next = .resend → here ∉ s.served p ∨ nd.sends = 0 → goesOn) ∧
      (r.next = .poll → here ∈ s.served p → nd.state = .alive ∨ nd.queue = [] → ∃ t, exec (.visit p) s = .next t ∧
        t.sent = [⟨.chain p, byteOf here, 0x01, 0, []⟩] ∧
        t.chainPort p = { r with next := .advance, exchange := some ⟨here, .poll, 2⟩ } ∧
        { t with chain := s.chain, sent := s.sent } = s ∧ t.chain.nodes = s.chain.nodes) ∧
      (r.next = .poll → here ∉ s.served p ∨ (nd.state ≠ .alive ∧ nd.queue ≠ []) → goesOn) ∧
      (s.served p = [] → exec (.visit p) s = .next { s with sent := [] })) ∧
    ((s.chainPort p).probes ≠ [] → exec (.visit p) s = .next { s with sent := [] }) ∧
    (∀ gone k ks, (s.chainPort p).probeTimer ≠ some 0 → (s.chainPort p).probes = gone ++ k :: ks → (∀ j ∈ gone, j ∉ s.lostLevels) →
      k ∈ s.lostLevels → ∃ t, exec (.hello p) s = .next t ∧ t.sent = [⟨.chain p, byteOf k, 0x02, 0, []⟩] ∧
        t.chainPort p = { s.chainPort p with probes := ks, exchange := some ⟨k, .hello, 2⟩ } ∧
        t.chain.nodes = s.chain.nodes ∧ { t with chain := s.chain, sent := s.sent } = s) ∧
    ((s.chainPort p).probeTimer ≠ some 0 → (∀ j ∈ (s.chainPort p).probes, j ∉ s.lostLevels) →
      exec (.hello p) s = .next ({ s with sent := [] }.setPort p { s.chainPort p with probes := [] }))

/-- EXCHANGE_UNANSWERED and the frames a port discards (R143, R147, R148, R149, R154): before its 2 ms are over nothing changes (log
2, DEDUCED); a HELLO unanswered adds nothing; any other exchange adds one to its node's count, also where the node is served no more
(log 16, DEDUCED), and the third in a row at a served node makes it
DEAD: its source port raises NODE_DEAD with the level as detail, its queue is emptied, its record holds no assigned port and its
unanswered count stays at 3 (log 56, DESIGN CHOICE), the held asks of an ALIVE level go while
its grant stays, the assignment is recomputed, and where that makes a level CUT the same source raises NODE_CUT with the lowest
and the highest CUT level (at a death alone: log 18, DEDUCED). CHECK_ERROR counts to 255 and raises CHECK_ERRORS at the first, at
each multiple of 16 and at 255; RELAYED_FRAME counts for nothing. Bytes received at a port spell CHECK_ERROR where they fail a test
of R154, RELAYED_FRAME where they are addressed other than 00h, and each node frame of R154's table the command of its kind, which
waits behind the others (log 15). -/
def Obligations.ExchangeFailures : Prop :=
  (∀ (s : State) (p : Port), Awake s →
    ((∀ k what, (s.chainPort p).exchange ≠ some ⟨k, what, 0⟩) → exec (.exchangeUnanswered p) s = .next { s with sent := [] }) ∧
    (∀ k, (s.chainPort p).exchange = some ⟨k, .hello, 0⟩ → ∃ t, exec (.exchangeUnanswered p) s = .next t ∧
      t.chainPort p = { s.chainPort p with exchange := none } ∧ t.chain.nodes = s.chain.nodes ∧
      { t with chain := s.chain, sent := s.sent } = s) ∧
    (∀ k what, (s.chainPort p).exchange = some ⟨k, what, 0⟩ → what ≠ .hello → 1 ≤ k → k ≤ 40 →
      (s.node k).unanswered < 2 ∨ (s.node k).served = false →
      ∃ t, exec (.exchangeUnanswered p) s = .next t ∧
        t.node k = { s.node k with unanswered := min 3 ((s.node k).unanswered + 1) } ∧
        (∀ j, j ≠ k → t.node j = s.node j) ∧
        t.chainPort p = { s.chainPort p with exchange := none, next := match what with | .command _ _ => .resend | _ => .advance } ∧
        { t with chain := s.chain, sent := s.sent } = s) ∧
    (∀ k what q, (s.chainPort p).exchange = some ⟨k, what, 0⟩ → what ≠ .hello → 2 ≤ (s.node k).unanswered →
      (s.node k).served = true → (s.node k).port = some q →
      ∃ v, v.node k = { s.node k with
          state := .dead, port := none, queue := [], sends := 0, expected := none, unanswered := 3 } ∧
        (∀ j, j ≠ k → v.node j = s.node j) ∧ (v.chainPort p).exchange = none ∧
        v.cond (srcPort q) = (s.cond (srcPort q)).raised .nodeDead (byteOf k) 0x00 s.stamp ∧
        (∀ src, src ≠ srcPort q → v.cond src = s.cond src) ∧ v.handover.grants = s.handover.grants ∧
        (s.alive k = true → ∀ h ∈ v.handover.held, h.level ≠ k) ∧ Reassigned v v.recompute ∧
        (let cut (u : State) (j : Nat) : Prop := (u.node j).state = .cut
         ((∀ j, cut v.recompute j → cut v j) → Leads (.exchangeUnanswered p) s v.recompute) ∧
         (∀ lo hi, (∃ j, cut v.recompute j ∧ ¬cut v j) → cut v.recompute lo → cut v.recompute hi →
           (∀ j, cut v.recompute j → lo ≤ j ∧ j ≤ hi) →
           Leads (.exchangeUnanswered p) s (v.recompute.raise (srcPort q) .nodeCut (byteOf lo) (byteOf hi))))) ∧
    ((s.chainPort p).checkErrors < 255 → ∃ t, exec (.checkError p) s = .next t ∧
      t.chainPort p = { s.chainPort p with checkErrors := (s.chainPort p).checkErrors + 1 } ∧
      (let n := (s.chainPort p).checkErrors + 1
       t.cond (srcPort p) = if n = 1 ∨ n % 16 = 0 ∨ n = 255 then
         (s.cond (srcPort p)).raised .checkErrors (byteOf n) 0x00 s.stamp else s.cond (srcPort p)) ∧
      { t with chain := s.chain, conditions := s.conditions, sent := s.sent } = s) ∧
    (255 ≤ (s.chainPort p).checkErrors → exec (.checkError p) s = .next { s with sent := [] }) ∧
    exec (.relayedFrame p) s = .next { s with sent := [] }) ∧
  (∀ (s : State) (p : Port) (bs : List Byte),
    s.receive (.chain p) bs = { s with pending := s.pending ++ [linkCommand (.chain p) bs] } ∧
    (BadFrame bs → linkCommand (.chain p) bs = .checkError p) ∧
    (¬BadFrame bs → bs.getD 0 0x00 ≠ 0x00 → linkCommand (.chain p) bs = .relayedFrame p)) ∧
  ∀ (p : Port) (l : Byte) (n next : BitVec 4) (x : Side) (t held : Word) (c : LaneCounts),
    let spells (kind : Byte) (payload : List Byte) (i : Instr) : Prop :=
      linkCommand (.chain p) (frameBytes ⟨.chain p, 0x00, kind, n, l :: payload⟩) = i
    let counts := [c.outA, c.inA, c.outB, c.inB]
    let last (code side : Byte) (e : LastEvent) : Prop :=
      spells 0x24 (next.setWidth 8 :: counts ++ bytes32 held ++ [code, side] ++ bytes32 t) (.resyncReport p l n next c held e)
    spells 0x20 [] (.ack p l n) ∧ spells 0x21 [] (.nothing p l) ∧ spells 0x22 [] (.overflow p l) ∧
    spells 0x23 [] (.restarted p l) ∧ spells 0x25 counts (.laneCount p l n c) ∧
    spells 0x26 (bytes32 t) (.dropAsk p l n t) ∧ spells 0x27 (sideCode x :: bytes32 t) (.dropDone p l n x t) ∧
    spells 0x28 (sideCode x :: bytes32 t) (.dropAbort p l n x t) ∧ spells 0x29 [sideCode x] (.takeAsk p l n x) ∧
    spells 0x2A (sideCode x :: bytes32 t) (.takeDone p l n x t) ∧ spells 0x2B [sideCode x] (.takeAbort p l n x) ∧
    last 0x00 0x00 .none ∧ last 0x26 0x00 (.dropAsk t) ∧ last 0x05 (sideCode x) (.dropGrant x t) ∧
    last 0x27 (sideCode x) (.dropDone x t) ∧ last 0x28 (sideCode x) (.dropAbort x t) ∧
    last 0x29 (sideCode x) (.takeAsk x) ∧ last 0x07 (sideCode x) (.takeGrant x) ∧
    last 0x2A (sideCode x) (.takeDone x) ∧ last 0x2B (sideCode x) (.takeAbort x)

/-! ### The lift units (chapter 6) -/

/-- STATUS and COMMAND_RESEND (R109, R110): the first STATUS after the lock was gained sets the command frame number, and the first
command queued, if there is one, is sent with the number after it; one that
echoes the number of the command being sent takes it off the queue and sends the next; any other changes nothing but the
silence timer. A command without echo for 250 ms is sent again with its number up to three times, and then the link lock is
lost with LOST_LOCK, detail 02h; the row taken with no command queued or before the 250 ms are over changes nothing (log 2, DEDUCED). -/
def Obligations.LiftCommandEcho : Prop :=
  ∀ (s : State) (x : Side) (level : Nat) (accepted : BitVec 4), LinkUp s x → s.wake = [] →
    let l := s.lift x
    let h := { l with silence := some 300 }
    (l.needStatus = false → l.sends ≠ 0 → l.number = accepted →
      (l.queue.tail = [] → ∃ t, exec (.status x level accepted) s = .next t ∧ t.sent = [] ∧
        t.lift x = { h with queue := [], sends := 0, echo := none } ∧ { t with lifts := s.lifts, sent := s.sent } = s) ∧
      (∀ c cs, l.queue.tail = c :: cs → ∃ t, exec (.status x level accepted) s = .next t ∧
        t.sent = [liftFrame x (l.number + 1) c] ∧
        t.lift x = { h with queue := c :: cs, sends := 1, echo := some 250, number := l.number + 1 } ∧
        { t with lifts := s.lifts, sent := s.sent } = s)) ∧
    (l.needStatus = false → l.sends = 0 ∨ l.number ≠ accepted → ∃ t, exec (.status x level accepted) s = .next t ∧
      t.lift x = h ∧ { t with lifts := s.lifts, sent := s.sent } = s) ∧
    (∀ c cs, l.needStatus = true → l.queue = c :: cs → l.sends = 0 → ∃ t, exec (.status x level accepted) s = .next t ∧
      t.sent = [liftFrame x (accepted + 1) c] ∧
      t.lift x = { h with needStatus := false, sends := 1, echo := some 250, number := accepted + 1 } ∧
      { t with lifts := s.lifts, sent := s.sent } = s) ∧
    (l.needStatus = true → l.queue = [] ∨ l.sends ≠ 0 → ∃ t, exec (.status x level accepted) s = .next t ∧ t.sent = [] ∧
      t.lift x = { h with needStatus := false, number := accepted } ∧ { t with lifts := s.lifts, sent := s.sent } = s) ∧
    (l.queue = [] ∨ l.echo ≠ some 0 → exec (.commandResend x) s = .next { s with sent := [] }) ∧
    (∀ c cs, l.queue = c :: cs → l.echo = some 0 →
      (l.sends < 3 → ∃ t, exec (.commandResend x) s = .next t ∧ t.sent = [liftFrame x l.number c] ∧
        t.lift x = { l with sends := l.sends + 1, echo := some 250 } ∧ { t with lifts := s.lifts, sent := s.sent } = s) ∧
      (3 ≤ l.sends → Leads (.commandResend x) s (s.begin.loseLink x 0x02)))

/-- A stop at its ARRIVED (R111, R113 to R116). The tests in their order, the first that applies deciding: a closed place, a deck or
head that is not the planned one, an order guard not met give PASS; then the mode, then a SHUTTLE lock withhold the stop; otherwise
PROCEED. ARRIVED for the current stop while it is MOVING on a trip: withheld, the stop waits; PROCEED locks a lane for the lift, opens
the transfer and queues PROCEED; PASS ends the stop PASSED and queues PASS. A passed unload gives its reservation back, and a STORE
card ON_CAR on its way to an inbound lane turns back with LEVEL_CLOSED and the lane's number. Any other ARRIVED (another trip
number or stop, a stop that is not MOVING, no trip, and in any state but ON_TRIP: log 20, DEDUCED) is stray and changes nothing
else. A waiting stop is tested again (R116) when the mode becomes RUN, and otherwise at an event of its own place alone: the lock
released, the status changed, or for a load the head changed; it goes on waiting as it was, or the new decision is taken. A stop that
does not wait is not retested, nor one of a lift that is not ON_TRIP (log 20). The order guard (R104) of a guarded unload is met
where every card ahead of its live, not demoted card in bound list X is IN_SPUR. -/
def Obligations.StopDecisions : Prop :=
  (∀ (s : State) (x : Side) (st : Stop),
    let closed := (st.action = .load ∧ s.admitsDepartures st.place = false) ∨
      (st.action = .unload ∧ s.admitsArrivals st.place = false)
    let wrong := (st.action = .load ∧ ((s.deck x st.deck) ≠ none ∨ s.claimHeads st = false)) ∨
      (st.action = .unload ∧ s.deck x st.deck ≠ some st.expected)
    let early := st.action = .unload ∧ isExitSpur st.place = true ∧ s.guardMet x st = false
    let locked := isLane st.place = true ∧ (s.place st.place).lock = .shuttle
    (closed ∨ wrong ∨ early → s.decideStop x st = .pass) ∧
    (¬(closed ∨ wrong ∨ early) → s.mode ≠ .run → s.decideStop x st = .waitMode) ∧
    (¬(closed ∨ wrong ∨ early) → s.mode = .run → locked → s.decideStop x st = .waitLane) ∧
    (¬(closed ∨ wrong ∨ early) → s.mode = .run → ¬locked → s.decideStop x st = .proceed)) ∧
  (∀ (s : State) (x : Side) (trip : Byte) (stop : Nat),
    let act (v : State) (i : Nat) (st : Stop) : State := match s.decideStop x st with
      | .waitMode => v.updateLift x (fun l => l.setPhase .waitingMode)
      | .waitLane => v.updateLift x (fun l => l.setPhase .waitingLane)
      | .proceed =>
        ((if isLane st.place then v.lockLane st.place .lift else v).updateLift x (fun l => l.setPhase .transferring)).queueLift x
          (.proceed trip stop)
      | .pass => ((v.passHoldings x st).endStop x i .passed).queueLift x (.pass trip stop)
    (∀ t i st, LinkUp s x → (s.lift x).state = .onTrip → CurrentStop s x t i st .moving trip stop →
      Leads (.arrived x trip stop) s (act (s.heard x) i st)) ∧
    (LinkUp s x → s.wake = [] →
      (¬∃ t i st, (s.lift x).state = .onTrip ∧ CurrentStop s x t i st .moving trip stop) →
      exec (.arrived x trip stop) s = .next { s with
        sent := []
        lifts := s.lifts.set x { s.lift x with silence := some 300, stray := min 255 ((s.lift x).stray + 1) } }) ∧
    (∀ w t i st, (s.lift x).state = .onTrip →
      CurrentStop s x t i st .waitingMode trip stop ∨ CurrentStop s x t i st .waitingLane trip stop →
      let concerned := w = .running ∨ w = .place st.place ∨ (w = .head st.place ∧ st.action = .load)
      let asBefore := s.decideStop x st = (if t.phase = .waitingMode then .waitMode else .waitLane)
      (¬concerned ∨ asBefore → s.retest x w = none) ∧ (concerned → ¬asBefore → s.retest x w = some (act s i st))) ∧
    (∀ w t, (s.lift x).state ≠ .onTrip ∨ (s.lift x).trip = none ∨
      ((s.lift x).trip = some t ∧ t.phase ≠ .waitingMode ∧ t.phase ≠ .waitingLane) → s.retest x w = none)) ∧
  (∀ (s : State) (p : Nat) (e : Entry) (q : Place), p < 164 →
    let x := placeSide p
    (∀ y, Retry.stop y .running ∈ s.enterRun.wake) ∧ Retry.stop x (.place p) ∈ (s.unlockLane p).wake ∧
    Retry.stop x (.place p) ∈ (s.setStatus p q).wake ∧ Retry.stop x (.head p) ∈ (s.depart p).wake ∧
    (s.entries p = [] → Retry.stop x (.head p) ∈ (s.arrive p e).wake ∧ Retry.stop x (.head p) ∈ (s.arriveReserved p e).wake) ∧
    (∀ u ∈ [s.unlockLane p, s.setStatus p q, s.depart p, s.arrive p e, s.arriveReserved p e], ∀ y w,
      Retry.stop y w ∈ u.wake → Retry.stop y w ∈ s.wake ∨ (y = x ∧ (w = .place p ∨ w = .head p))) ∧
    (∀ y w, Retry.stop y w ∈ (s.unreserve p).wake → Retry.stop y w ∈ s.wake)) ∧
  (∀ (s : State) (x : Side) (st : Stop),
    let sequenced (n : Nat) : Prop := ∃ c q, s.ctx n = some c ∧ c.seqState = .live ∧ c.demoted = false ∧ c.seq = some q
    ((st.guarded = false ∨ st.expected = .foreign ∨ ∀ n, st.expected = .card n → ¬sequenced n) → s.guardMet x st = true) ∧
    (∀ n ahead behind, st.guarded = true → st.expected = .card n → sequenced n →
      s.release.bound.get x = ahead ++ n :: behind → n ∉ ahead →
      (s.guardMet x st = true ↔ ∀ m ∈ ahead, ∃ c, s.ctx m = some c ∧ c.phase = .inSpur))) ∧
  ∀ (s : State) (x : Side) (st : Stop),
    let u := s.passHoldings x st
    (st.action = .load → u = s) ∧
    (st.action = .unload → st.place < 164 →
      (u.place st.place).res = (if st.reserved then (s.place st.place).res - 1 else (s.place st.place).res) ∧
      (∀ q, q ≠ st.place → u.place q = s.place q) ∧ (∀ q, u.entries q = s.entries q) ∧ u.lifts = s.lifts ∧
      (∀ m c, s.ctx m = some c → u.ctx m =
        if st.expected = .card m ∧ isInbound st.place = true ∧ s.deck x st.deck = some (.card m) ∧ c.kind = .store ∧
            c.phase = .onCar then
          some { c with phase := .returning, failure := some (.levelClosed, byteOf st.place) }
        else some c))

/-- STOP_DONE (R117 to R119) for the current stop while it is TRANSFERRING: a lane's LIFT lock is released, and with any result but
JAM the stop ends DONE and the mirror records of its deck and place are written. A load OK takes the claimed head of the place onto
the deck and its card ON_CAR; an unload OK puts the deck's entry at the place's tail and ends its reservation, a STORE card then
being IN_LANE and a RETRIEVE card IN_SPUR; a load EMPTY or BLOCKED freezes the place LOAD_EMPTY; an unload EMPTY empties the deck,
whose card fails LOST with the deck's number, and releases the reservation; an unload BLOCKED freezes the place UNLOAD_BLOCKED,
releases the reservation and turns a STORE card ON_CAR back with BLOCKED. JAM makes the lift FAULTED and raises FAULT with 00h: the
stop is MOVING and jammed, and the trip keeps its claims and reservations (R119; its reading beside R102: log 45, DEDUCED). A load OK
whose entry is not the claimed head puts FOREIGN on the deck (log 22, DEDUCED), one onto a deck recorded occupied moves nothing (log
23, DEDUCED), an unload OK from a deck recorded empty only gives its reservation back (log 49, DESIGN CHOICE). Any other STOP-DONE
(another trip number or stop, a stop that is not TRANSFERRING, no trip, R111; a lift that is not ON_TRIP, SYNCING or FAULTED: log 20,
DEDUCED) is stray and changes nothing else. -/
def Obligations.StopDoneTaken : Prop :=
  (∀ (s : State) (x : Side) (trip : Byte) (stop : Nat) (r : StopResult) (t : Trip) (i : Nat) (st : Stop), LinkUp s x →
    takesStopDone (s.lift x).state = true → CurrentStop s x t i st .transferring trip stop → r ≠ .jam → st.place < 164 →
    let v := (s.heard x).unlockStop st
    let u := (v.stopResult x st trip r).endStop x i (.done r)
    let d := deckPlace x st.deck
    let freed := if st.reserved then (s.place st.place).res - 1 else (s.place st.place).res
    Leads (.stopDone x trip stop r) s u ∧ u.Mirrored st.place ∧ u.Mirrored d ∧
    ((u.lift x).trip.bind (fun w => w.stop i)) = some { st with outcome := .done r, claim := none, reserved := false } ∧
    (isLane st.place = true → (s.place st.place).lock = .lift → (u.place st.place).lock = .none) ∧
    (∀ e, r = .ok → st.action = .load → s.deck x st.deck = none → s.claimHeads st = true → s.head st.place = some e →
      u.entries d = [e] ∧ u.entries st.place = (s.entries st.place).tail ∧
      (∀ n c, e = .card n → s.ctx n = some c → u.ctx n = some { c with
        phase := if c.phase = .returning then .returning else .onCar, place := some d, loaded := s.stamp, trip := trip })) ∧
    (r = .ok → st.action = .load → s.deck x st.deck = none → s.claimHeads st = false →
      u.entries d = [.foreign] ∧ u.entries st.place = s.entries st.place ∧ u.contexts = s.contexts) ∧
    (r = .ok → st.action = .load → s.deck x st.deck ≠ none →
      u.entries d = s.entries d ∧ u.entries st.place = s.entries st.place ∧ u.contexts = s.contexts) ∧
    (r = .ok → st.action = .unload → s.deck x st.deck = none → u.entries d = s.entries d ∧
      u.entries st.place = s.entries st.place ∧ (u.place st.place).res = freed ∧ u.contexts = s.contexts) ∧
    (∀ e, r = .ok → st.action = .unload → s.deck x st.deck = some e →
      u.entries d = [] ∧ u.entries st.place = s.entries st.place ++ [e] ∧ (u.place st.place).res = freed ∧
      (∀ n c, e = .card n → s.ctx n = some c → u.ctx n = some { c with
        phase := if c.phase = .returning then .returning else if c.kind = .store then .inLane else .inSpur,
        place := some st.place, loaded := s.stamp, trip := trip })) ∧
    (r = .empty ∨ r = .blocked → st.action = .load →
      (u.place st.place).frozen = some .loadEmpty ∧ u.entries st.place = s.entries st.place ∧ u.entries d = s.entries d) ∧
    (r = .empty → st.action = .unload →
      u.entries d = [] ∧ u.entries st.place = s.entries st.place ∧ (u.place st.place).res = freed ∧
      (∀ n c, s.deck x st.deck = some (.card n) → s.ctx n = some c →
        u.ctx n = none ∧ u.cardState n = cardFailed ∧ u.cardByte n 32 = 0x12 ∧ u.cardByte n 33 = byteOf d)) ∧
    (r = .blocked → st.action = .unload →
      (u.place st.place).frozen = some .unloadBlocked ∧ u.entries st.place = s.entries st.place ∧
      u.entries d = s.entries d ∧ (u.place st.place).res = freed ∧
      (∀ n c, s.deck x st.deck = some (.card n) → s.ctx n = some c → u.ctx n =
        if isInbound st.place = true ∧ c.kind = .store ∧ c.phase = .onCar then
          some { c with phase := .returning, failure := some (.blocked, byteOf st.place) }
        else some c))) ∧
  (∀ l : LiftState, takesStopDone l = true ↔ l = .onTrip ∨ l = .syncing ∨ l = .faulted) ∧
  (∀ (s : State) (x : Side) (trip : Byte) (stop : Nat) (r : StopResult), LinkUp s x → s.wake = [] →
    (¬∃ t i st, takesStopDone (s.lift x).state = true ∧ CurrentStop s x t i st .transferring trip stop) →
    exec (.stopDone x trip stop r) s = .next { s with
      sent := []
      lifts := s.lifts.set x { s.lift x with silence := some 300, stray := min 255 ((s.lift x).stray + 1) } }) ∧
  ∀ (s : State) (x : Side) (trip : Byte) (stop : Nat) (t : Trip) (i : Nat) (st : Stop), LinkUp s x →
    takesStopDone (s.lift x).state = true → CurrentStop s x t i st .transferring trip stop → st.place < 164 →
    let u := (((s.heard x).unlockStop st).updateLift x (fun l => l.jam i)).liftFaults x 0x00
    Leads (.stopDone x trip stop .jam) s u ∧ (u.lift x).state = .faulted ∧ (u.lift x).queue = [] ∧
    (u.lift x).trip = some { t with phase := .moving, jammed := some (i + 1) } ∧
    (isLane st.place = true → (s.place st.place).lock = .lift → (u.place st.place).lock = .none) ∧
    (∀ q, u.entries q = s.entries q) ∧ u.contexts = s.contexts ∧
    ((s.lift x).pending = none → ∀ q, (u.place q).res = (s.place q).res) ∧
    u.cond (srcLift x) = (s.cond (srcLift x)).raised .fault 0x00 (byteOf (s.lift x).stray) s.stamp

/-- TRIP_END, READY and PARKED_ACK (R119, R120, R122, R123, R128): the end of the trip whose stops have all ended makes the
lift IDLE with no trip record, and one that comes while a stop is OPEN brings SYNCING and STATE-ASK; READY makes a waking lift
IDLE, or sends its pending plan in RUN, and brings SYNCING from FAULTED; PARKED-ACK makes a parking lift PARKED, or wakes it
for a pending plan. In another state each is stray. Sending a plan (R107, R112): the trip counter counts on, from 255 to 1, and is the
trip's number; the trip record holds the plan with every stop OPEN, its first stop MOVING and its deadline's D ticks running; the
lift is ON_TRIP without pending plan, and TRIP is queued with number, stop count, and two bytes for each stop. Waking (R123): the
lift is WAKING with WAKE queued and 5 s on the wake timer. Becoming IDLE (R120, R122, R123): no wake timer, a planning try, and
without a pending plan in RUN and HOLD the park timer at PARK_IDLE x 10 s, not started where that is 0; in CONFIG PARK at once; with a
pending plan neither. READY in WAKING without a plan makes the lift IDLE (log 54, DESIGN CHOICE); a TRIP-END outside ON_TRIP is stray
(log 20, DEDUCED). -/
def Obligations.LiftStateFrames : Prop :=
  ∀ (s : State) (x : Side) (trip : Byte), LinkUp s x →
    let h := s.heard x
    let l := s.lift x
    (∀ t, l.state = .onTrip → l.trip = some t → t.number = trip → t.current = none →
      Leads (.tripEnd x trip) s ((h.updateLift x (fun l => { l with trip := none })).becomeIdle x)) ∧
    (∀ t i, l.state = .onTrip → l.trip = some t → t.number = trip → t.current = some i →
      Leads (.tripEnd x trip) s ((h.enterSyncing x).queueLift x .stateAsk)) ∧
    (l.state = .waking → l.pending = none → Leads (.ready x) s (h.becomeIdle x)) ∧
    (∀ p, l.state = .waking → l.pending = some p →
      Leads (.ready x) s (if s.mode = .run then h.sendTrip x p else h.becomeIdle x)) ∧
    (l.state = .faulted → Leads (.ready x) s ((h.enterSyncing x).queueLift x .stateAsk)) ∧
    (l.state = .syncing → l.awaitReady = true → Leads (.ready x) s (h.becomeIdle x)) ∧
    (l.state = .parking → l.pending = none →
      Leads (.parkedAck x) s ((h.updateLift x (fun l => { l with state := .parked, wake := none })).tell (.plan x))) ∧
    (∀ p, l.state = .parking → l.pending = some p → Leads (.parkedAck x) s (h.wakeLift x)) ∧
    ((h.enterSyncing x).lift x).state = .syncing ∧
    (let u := h.becomeIdle x
     let idle : Lift := { l with state := .idle, silence := some 300, wake := none, ask := none, awaitReady := false, park := none }
     Retry.plan x ∈ u.wake ∧ { u with lifts := s.lifts, sent := s.sent, wake := s.wake } = s ∧
     u.lift (otherSide x) = s.lift (otherSide x) ∧
     (l.pending ≠ none → u.lift x = idle) ∧
     (l.pending = none → s.mode ≠ .config → u.lift x = { idle with
       park := if s.parkIdle = 0 then none else some (10000 * s.parkIdle) }) ∧
     (l.pending = none → s.mode = .config → (u.lift x).state = .parking ∧ (u.lift x).queue = l.queue ++ [.park] ∧
       (u.lift x).wake = some 5000 ∧ (u.lift x).park = none)) ∧
    (∀ c, s.wake = [] → (c = .tripEnd x trip ∧ (l.state ≠ .onTrip ∨ ∀ t, l.trip = some t → t.number ≠ trip)) ∨
        (c = .parkedAck x ∧ l.state ≠ .parking) ∨
        (c = .ready x ∧ (l.state = .idle ∨ l.state = .parking ∨ l.state = .parked ∨ l.state = .onTrip ∨
          (l.state = .syncing ∧ l.awaitReady = false))) →
      exec c s = .next { s with
        sent := [], lifts := s.lifts.set x { l with silence := some 300, stray := min 255 (l.stray + 1) } }) ∧
    (∀ p : Plan,
      let u := h.sendTrip x p
      let n : Byte := if l.counter = 0xFF then 0x01 else l.counter + 1
      let flags (st : Stop) : Nat := (if st.action = .unload then 1 else 0) + (if st.deck = .rear then 2 else 0) +
        (if isInbound st.place = true ∨ isExitSpur st.place = true then 4 else 0)
      let cmd : LiftCmd := .trip n (p.stops.map (fun st => (st.level, flags st)))
      (u.lift x).state = .onTrip ∧ (u.lift x).counter = n ∧ (u.lift x).pending = none ∧ (u.lift x).park = none ∧
      (u.lift x).wake = none ∧ (u.lift x).queue = l.queue ++ [cmd] ∧
      (u.lift x).trip = some
        { number := n, plan := { p with stops := p.stops.map (fun st => { st with outcome := .stillOpen }) },
          phase := .moving, left := 10 * p.deadline, expired := false, jammed := none } ∧
      (l.queue = [] → l.sends = 0 → l.needStatus = false → u.sent = [⟨.lift x, 0x01, 0x41, l.number + 1,
        n :: byteOf p.stops.length :: p.stops.flatMap (fun st => [byteOf st.level, byteOf (flags st)])⟩]) ∧
      { u with lifts := s.lifts, sent := s.sent } = s ∧ u.lift (otherSide x) = s.lift (otherSide x)) ∧
    (let u := h.wakeLift x
     (u.lift x).state = .waking ∧ (u.lift x).queue = l.queue ++ [.wake] ∧ (u.lift x).wake = some 5000 ∧
     (u.lift x).park = none ∧ (u.lift x).pending = l.pending ∧ (u.lift x).trip = l.trip ∧
     { u with lifts := s.lifts, sent := s.sent } = s ∧ u.lift (otherSide x) = s.lift (otherSide x))

/-- STATE, FAULT, the gain of the link lock and the frames that are not taken (R108, R109, R111, R119, R125). A STATE outside SYNCING
enters it, with STATE-ASK queued (that it stays queued is log 21, DEDUCED), and is then reconciled (the statement Reconciled), or
with a fault code acts as FAULT does: the lift is FAULTED with an empty queue and no pending plan, keeps its trip record, and FAULT
is raised with the code and the stray count. A valid frame of an OFFLINE lift gains the link lock: it is SYNCING with STATE-ASK
queued and no command is sent before a STATUS, which sets the command frame number; then the frame is taken as in SYNCING: a STATE
is reconciled or its fault code acts, a FAULT acts, a STOP-DONE for the stop still TRANSFERRING of the trip record acts as the
statement StopDoneTaken says and any other is stray (R119, R111), and so is every frame but STATUS. Bytes
that fail a test of R154 or are addressed other than 00h spell LIFT_FRAME_DISCARD, which counts for nothing; a lift frame of the
table spells the command of its kind, whatever its numbers (log 26, DESIGN CHOICE), and one of no such kind UNKNOWN_KIND_FRAME,
which is stray; the command spelled waits behind the others (log 15, DESIGN CHOICE). ARRIVED and TRIP-END are stray in SYNCING
(log 20, DEDUCED). -/
def Obligations.LiftStateAndFault : Prop :=
  (∀ (s : State) (x : Side) (level : Nat) (front rear : Bool) (trip : Byte) (last : Nat) (code : Byte), LinkUp s x →
    let h := s.heard x
    let v := if (s.lift x).state = .syncing then h else (h.enterSyncing x).queueLift x .stateAsk
    (v.lift x).state = .syncing ∧
    ((s.lift x).state ≠ .syncing → (v.lift x).pending = none ∧ (v.lift x).queue = (s.lift x).queue ++ [.stateAsk] ∧
      (v.lift x).trip = (s.lift x).trip ∧ (v.lift x).park = none ∧ (v.lift x).wake = none) ∧
    (code = 0 → Leads (.state x level front rear trip last code) s (v.reconcile x level front rear trip last)) ∧
    (code ≠ 0 → Leads (.state x level front rear trip last code) s (v.liftFaults x code)) ∧
    Leads (.fault x code) s (h.liftFaults x code) ∧
    (let u := h.liftFaults x code
     (u.lift x).state = .faulted ∧ (u.lift x).queue = [] ∧ (u.lift x).pending = none ∧ (u.lift x).trip = (s.lift x).trip ∧
     u.cond (srcLift x) = (s.cond (srcLift x)).raised .fault code (byteOf (s.lift x).stray) s.stamp) ∧
    (s.wake = [] → exec (.unknownKindFrame x) s = .next { s with
        sent := []
        lifts := s.lifts.set x { s.lift x with silence := some 300, stray := min 255 ((s.lift x).stray + 1) } })) ∧
  (∀ (s : State) (x : Side), Awake s → exec (.liftFrameDiscard x) s = .next { s with sent := [] }) ∧
  (∀ (s : State) (x : Side) (level : Nat) (front rear : Bool) (trip : Byte) (last : Nat) (code : Byte) (accepted : BitVec 4),
    Awake s → (s.lift x).state = .offline → (s.lift x).pending = none → (s.lift x).queue = [] → (s.lift x).sends = 0 →
    let g : Lift := { s.lift x with
      state := .syncing, silence := some 300, needStatus := true, park := none, wake := none, ask := some 300
      awaitReady := false, queue := [.stateAsk] }
    let v : State := { s with sent := [], lifts := s.lifts.set x g }
    Leads (.state x level front rear trip last 0x00) s (v.reconcile x level front rear trip last) ∧
    (code ≠ 0 → Leads (.state x level front rear trip last code) s (v.liftFaults x code)) ∧
    (∀ stop r t i st, CurrentStop s x t i st .transferring trip stop →
      (r ≠ .jam → Leads (.stopDone x trip stop r) s (((v.unlockStop st).stopResult x st trip r).endStop x i (.done r))) ∧
      Leads (.stopDone x trip stop .jam) s (((v.unlockStop st).updateLift x (fun l => l.jam i)).liftFaults x 0x00)) ∧
    (∀ stop r, (¬∃ t i st, CurrentStop s x t i st .transferring trip stop) →
      exec (.stopDone x trip stop r) s =
        .next { v with lifts := s.lifts.set x { g with stray := min 255 (g.stray + 1) } }) ∧
    Leads (.fault x code) s (v.liftFaults x code) ∧
    (∃ t, exec (.status x level accepted) s = .next t ∧ t.sent = [liftFrame x (accepted + 1) .stateAsk] ∧
      t.lift x = { g with needStatus := false, number := accepted + 1, sends := 1, echo := some 250 } ∧
      { t with lifts := s.lifts, sent := s.sent } = s) ∧
    (∀ c stop, c = .arrived x trip stop ∨ c = .tripEnd x trip ∨ c = .ready x ∨ c = .parkedAck x ∨ c = .unknownKindFrame x →
      exec c s = .next { v with lifts := s.lifts.set x { g with stray := min 255 (g.stray + 1) } })) ∧
  (∀ (s : State) (x : Side) (bs : List Byte),
    s.receive (.lift x) bs = { s with pending := s.pending ++ [linkCommand (.lift x) bs] } ∧
    (BadFrame bs ∨ bs.getD 0 0x00 ≠ 0x00 → linkCommand (.lift x) bs = .liftFrameDiscard x) ∧
    (¬BadFrame bs → bs.getD 0 0x00 = 0x00 → (bs.getD 1 0x00).toNat < 0x50 ∨ 0x57 < (bs.getD 1 0x00).toNat →
      linkCommand (.lift x) bs = .unknownKindFrame x)) ∧
  ∀ (x : Side) (n accepted : BitVec 4) (level trip stop code : Byte) (front rear : Bool),
    let spells (kind : Byte) (payload : List Byte) (i : Instr) : Prop :=
      linkCommand (.lift x) (frameBytes ⟨.lift x, 0x00, kind, n, payload⟩) = i
    let present (b : Bool) : Byte := if b then 0x01 else 0x00
    spells 0x50 [level, accepted.setWidth 8] (.status x level.toNat accepted) ∧
    spells 0x51 [trip, stop] (.arrived x trip stop.toNat) ∧
    spells 0x52 [trip, stop, 0x00] (.stopDone x trip stop.toNat .ok) ∧
    spells 0x52 [trip, stop, 0x01] (.stopDone x trip stop.toNat .empty) ∧
    spells 0x52 [trip, stop, 0x02] (.stopDone x trip stop.toNat .blocked) ∧
    spells 0x52 [trip, stop, 0x03] (.stopDone x trip stop.toNat .jam) ∧
    spells 0x53 [trip] (.tripEnd x trip) ∧ spells 0x54 [] (.ready x) ∧ spells 0x55 [] (.parkedAck x) ∧
    spells 0x56 [level, present front, present rear, trip, stop, code]
      (.state x level.toNat front rear trip stop.toNat code) ∧
    spells 0x57 [code] (.fault x code)

/-- A STATE reconciled (R126 to R128). Settlement: only where the STATE names the trip's number, and then in index order, each stop
up to the last completed one that is still OPEN: a load by an occupied deck as OK (a claimed head that is no longer the head puts
FOREIGN on the deck), by an empty one as EMPTY, an unload by an empty deck as OK (from a deck recorded empty it only gives its
reservation back: log 49, DESIGN CHOICE), by an occupied one as BLOCKED; it ends SETTLED, and its deck's and place's mirror
records are written. Then no lane of the trip is LIFT-locked. Deck check: a card on a deck reported empty fails LOST, FOREIGN there is
removed, an empty deck reported occupied holds FOREIGN, otherwise the deck stands; its mirror record is written. What follows: without a
trip record CLEAR where the STATE names a trip or a level (00h where it names no trip: log 47, DESIGN CHOICE), and IDLE where it
names neither; in RUN the stops that are not impossible (a load needs its deck empty now; unloads and claims are judged in order, with
decks and places as the kept stops before leave them: log 24, DEDUCED) make the remainder (its kind: log 46, DESIGN CHOICE; its stops
numbered from 1: log 25, DEDUCED), which is sent behind the CLEAR; otherwise, and outside RUN, every OPEN stop ends PASSED,
the trip record is gone and READY is awaited behind the CLEAR.
Each stop that ends PASSED gives its reservation back, and a STORE card on the deck of an inbound unload among them becomes RETURNING with
LEVEL_CLOSED and the lane's number (R115).
RECONCILED is raised with the sum of what happened, if anything did. -/
def Obligations.Reconciled : Prop :=
  (∀ (s : State) (x : Side) (trip : Byte) (last i : Nat),
    (i ∈ s.settled x trip last ↔ i < last ∧ ∃ t st, (s.lift x).trip = some t ∧ t.number = trip ∧ t.stop i = some st ∧
      st.outcome = .stillOpen) ∧ (s.settled x trip last).Pairwise (· < ·)) ∧
  (∀ (s : State) (x : Side) (front rear : Bool) (t : Trip) (i : Nat) (st : Stop) (is : List Nat),
    (s.lift x).trip = some t → t.stop i = some st →
    s.settleStops x front rear [] = (s, false) ∧
    (s.settleStops x front rear (i :: is)).1 =
      ((s.settleStop x i st t.number (match st.deck with | .front => front | .rear => rear)).settleStops x front rear is).1) ∧
  (∀ (s : State) (x : Side) (t : Trip) (i : Nat) (st : Stop) (trip : Byte) (occupied : Bool),
    (s.lift x).trip = some t → t.stop i = some st → st.place < 164 →
    let u := s.settleStop x i st trip occupied
    let d := deckPlace x st.deck
    let freed := if st.reserved then (s.place st.place).res - 1 else (s.place st.place).res
    ((u.lift x).trip.bind (fun w => w.stop i)) = some { st with outcome := .settled, claim := none, reserved := false } ∧
    u.Mirrored st.place ∧ u.Mirrored d ∧
    (∀ e, st.action = .load → occupied = true → s.deck x st.deck = none → s.claimHeads st = true →
      s.head st.place = some e → u.entries d = [e] ∧ u.entries st.place = (s.entries st.place).tail) ∧
    (st.action = .load → occupied = true → s.deck x st.deck = none → s.claimHeads st = false →
      u.entries d = [.foreign] ∧ u.entries st.place = s.entries st.place) ∧
    (st.action = .load → occupied = false → (u.place st.place).frozen = some .loadEmpty ∧
      u.entries st.place = s.entries st.place ∧ u.entries d = s.entries d) ∧
    (∀ e, st.action = .unload → occupied = false → s.deck x st.deck = some e →
      u.entries d = [] ∧ u.entries st.place = s.entries st.place ++ [e] ∧ (u.place st.place).res = freed) ∧
    (st.action = .unload → occupied = false → s.deck x st.deck = none →
      u.entries d = s.entries d ∧ u.entries st.place = s.entries st.place ∧ (u.place st.place).res = freed) ∧
    (st.action = .unload → occupied = true → (u.place st.place).frozen = some .unloadBlocked ∧
      u.entries st.place = s.entries st.place ∧ u.entries d = s.entries d ∧ (u.place st.place).res = freed)) ∧
  (∀ (s : State) (x : Side) (t : Trip), (s.lift x).trip = some t → ∀ st ∈ t.plan.stops, isLane st.place = true →
    ((s.unlockTrip x).place st.place).lock ≠ .lift) ∧
  (∀ (s : State) (x : Side) (d : Deck) (occupied : Bool),
    let u := s.checkDeck x d occupied
    let p := deckPlace x d
    u.Mirrored p ∧ (∀ q, q ≠ p → u.place q = s.place q) ∧
    (∀ n c, s.deck x d = some (.card n) → s.ctx n = some c → occupied = false →
      u.entries p = [] ∧ u.ctx n = none ∧ u.cardState n = cardFailed ∧ u.cardByte n 32 = 0x12 ∧
      u.cardByte n 33 = byteOf p) ∧
    (s.deck x d = some .foreign → occupied = false → u.entries p = []) ∧
    (s.deck x d = none → occupied = true → u.entries p = [.foreign]) ∧
    ((s.deck x d).isSome = occupied → u.entries p = s.entries p ∧ u.contexts = s.contexts)) ∧
  (∀ (s : State) (x : Side) (level : Nat) (trip : Byte),
    let l := s.lift x
    let r := s.afterCheck x level trip
    (l.trip = none → trip ≠ 0 ∨ level ≠ 0 → r.2 = false ∧ (r.1.lift x).state = l.state ∧ (r.1.lift x).awaitReady = true ∧
      (r.1.lift x).queue = l.queue ++ [.clear trip]) ∧
    (l.trip = none → trip = 0 → level = 0 → r = (s.becomeIdle x, false)) ∧
    (∀ t, l.trip = some t →
      let named := if trip = 0 then t.number else trip
      let kept := s.keptStops x level t.openStops (s.deck x .front) (s.deck x .rear) []
      let rest := (t.plan.stops.zipIdx.filter (fun q => q.1.outcome == .stillOpen && kept.contains q.2)).map (fun q => q.1)
      let passed := (t.plan.stops.zipIdx.filter (fun q => q.1.outcome == .stillOpen &&
        !(s.mode == .run && kept.contains q.2))).map (fun q => q.1)
      (s.mode ≠ .run ∨ rest = [] → r.2 = false ∧ (r.1.lift x).trip = none ∧ (r.1.lift x).awaitReady = true ∧
        (r.1.lift x).state = l.state ∧ (r.1.lift x).queue = l.queue ++ [.clear named]) ∧
      (∀ p, p < 164 → (r.1.place p).res = (s.place p).res -
        (passed.filter (fun w => w.action == .unload && w.reserved && w.place == p)).length) ∧
      (∀ st n c, st ∈ passed → st.action = .unload → isInbound st.place = true → st.expected = .card n →
        s.deck x st.deck = some (.card n) → s.ctx n = some c → c.kind = .store → c.phase = .onCar →
        (∀ w ∈ passed, w.expected = .card n → w.action = .unload → w = st) →
        r.1.ctx n = some { c with phase := .returning, failure := some (.levelClosed, byteOf st.place) }) ∧
      (s.mode = .run → rest ≠ [] → r.2 = true ∧ (r.1.lift x).state = .onTrip ∧
        (∃ w, (r.1.lift x).trip = some w ∧ w.number = nextTrip l.counter ∧ w.phase = .moving ∧ w.plan.kind = t.plan.kind ∧
          w.plan.start = level ∧ w.plan.stops = rest ∧ w.plan.estimate = s.estimate level rest ∧
          w.plan.deadline = s.deadlineOf (s.estimate level rest) ∧ w.left = 10 * w.plan.deadline) ∧
        ∃ c, (r.1.lift x).queue = l.queue ++ [.clear named, .trip (nextTrip l.counter) c])) ∧
    (∀ i st more front rear taken,
      let left := match st.deck with | .front => front | .rear => rear
      let next (e : Option Entry) (taken : List Nat) : List Nat := match st.deck with
        | .front => s.keptStops x level more e rear taken
        | .rear => s.keptStops x level more front e taken
      let nth := (taken.filter (fun p => p == st.place)).length
      let possible := match st.action with
        | .load => s.deck x st.deck = none ∧ s.claimAt st.place nth st.claim = true ∧ (isEntrySpur st.place = true → level = 0)
        | .unload => left = some st.expected
      (¬possible → s.keptStops x level ((i, st) :: more) front rear taken = s.keptStops x level more front rear taken) ∧
      (possible → s.keptStops x level ((i, st) :: more) front rear taken = i :: (match st.action with
        | .load => next (some st.expected) (st.place :: taken)
        | .unload => next none taken)))) ∧
  ∀ (s : State) (x : Side) (level : Nat) (front rear : Bool) (trip : Byte) (last : Nat),
    let idx := s.settled x trip last
    let w := s.settleStops x front rear idx
    let v := w.1.unlockTrip x
    let r := ((v.checkDeck x .front front).checkDeck x .rear rear).afterCheck x level trip
    let lost (d : Deck) (here : Bool) : Prop := here = false ∧ ∃ n, v.deck x d = some (.card n)
    let found (d : Deck) (here : Bool) : Prop := here = true ∧ v.deck x d = none
    ∃ d : Byte, s.reconcile x level front rear trip last = (if d = 0x00 then r.1 else r.1.raiseLift x .reconciled d) ∧
      d.toNat < 16 ∧ (d.getLsbD 0 = true ↔ idx ≠ []) ∧ (d.getLsbD 1 = true ↔ lost .front front ∨ lost .rear rear) ∧
      (d.getLsbD 2 = true ↔ w.2 = true ∨ found .front front ∨ found .rear rear) ∧ (d.getLsbD 3 = true ↔ r.2 = true)

/-- The lift unit's timers (R109, R121, R122, R124, R125): silence and a command sent three times lose the link lock, which
raises LOST_LOCK and leaves the lift OFFLINE with an empty queue, no pending plan and its trip record; the park timer parks an
IDLE lift; the wake timer leaves it FAULTED with an empty queue, no pending plan, its trip record, and WAKE_FAIL alone raised, no FAULT
(log 38, DEDUCED); STATE-ASK is asked again while SYNCING, but with a command still queued only its 300 ms start anew (log 50, DESIGN
CHOICE); the deadline raises OVERRUN once with the trip's number. -/
def Obligations.LiftTimers : Prop :=
  ∀ (s : State) (x : Side), s.mode ≠ .init →
    let b := s.begin
    let l := s.lift x
    (l.silence = some 0 → Leads (.silenceTimerExpiry x) s (b.loseLink x 0x01)) ∧
    (∀ d, let u := b.loseLink x d
      (u.lift x).state = .offline ∧ (u.lift x).queue = [] ∧ (u.lift x).pending = none ∧
      (u.lift x).trip.map (·.number) = l.trip.map (·.number) ∧
      u.cond (srcLift x) = (s.cond (srcLift x)).raised .lostLock d (byteOf l.stray) s.stamp) ∧
    (l.state = .idle → l.park = some 0 → Leads (.parkTimerExpiry x) s (b.parkLift x)) ∧
    (((b.parkLift x).lift x).state = .parking ∧ ((b.parkLift x).lift x).queue = l.queue ++ [.park] ∧
      ((b.parkLift x).lift x).wake = some 5000) ∧
    (l.wake = some 0 → l.state = .parking → Leads (.wakeTimerExpiry x) s ((b.raiseLift x .wakeFail 0x01).enterFaulted x)) ∧
    (l.wake = some 0 → l.state = .waking → Leads (.wakeTimerExpiry x) s ((b.raiseLift x .wakeFail 0x02).enterFaulted x)) ∧
    (∀ d, let u := (b.raiseLift x .wakeFail d).enterFaulted x
      (u.lift x).state = .faulted ∧ (u.lift x).queue = [] ∧ (u.lift x).pending = none ∧ (u.lift x).trip = l.trip ∧
      (u.lift x).park = none ∧ (u.lift x).wake = none ∧ u.places = (b.discardPlan x).places ∧ u.mode = s.mode ∧
      (∀ src, src ≠ srcLift x → u.cond src = b.cond src) ∧
      u.cond (srcLift x) = (s.cond (srcLift x)).raised .wakeFail d (byteOf l.stray) s.stamp) ∧
    (l.state = .syncing → l.ask = some 0 → l.queue ≠ [] →
      Leads (.stateAskRepeat x) s (b.updateLift x (fun l => { l with ask := some 300 }))) ∧
    (l.state = .syncing → l.ask = some 0 → l.queue = [] →
      Leads (.stateAskRepeat x) s ((b.updateLift x (fun l => { l with ask := some 300 })).queueLift x .stateAsk)) ∧
    (∀ t, l.state = .onTrip → l.trip = some t → t.expired = false → t.phase ≠ .waitingMode → t.left = 0 →
      let u := b.deadlineExpires x
      Leads (.deadlineExpiry x) s u ∧ (u.lift x).trip = some { t with expired := true } ∧
        u.cond (srcLift x) = (s.cond (srcLift x)).raised .overrun t.number (byteOf l.stray) s.stamp ∧
        (∀ d n c, s.deck x d = some (.card n) → s.ctx n = some c → u.ctx n = some { c with overrun := true }) ∧
        u.places = s.places ∧ u.release = s.release)

/-- The estimate and the deadline of a trip, and what its plan holds. D = E + the ceiling of E × MARGIN_M / 16, + MARGIN_F, where E
is the travel time from the start level over the stops and back to level 0 and the transfer time of each stop (R100, R101). The try
that yields a plan makes one reservation for each of its unloads, claims the entry of each of its loads, moves no entry, keeps every
place within its capacity, and hands the plan to the lift: sent as a trip from IDLE, waking a PARKED lift, kept in PARKING; the STORE
card of a TURN-BACK is RETURNING with LEVEL_CLOSED and its lane, and no other card changes (R91, R94, R102). -/
def Obligations.TripDeadline : Prop :=
  (∀ (s : State) (k : PlanKind) (start : Nat) (stops : List Stop),
    let p := s.planOf k start stops
    p.kind = k ∧ p.start = start ∧ p.stops = stops ∧
    p.estimate = s.pathTime (start :: stops.map (·.level) ++ [0]) +
      (stops.map (fun st => match st.action with | .load => s.tLoad | .unload => s.tUnload)).sum ∧
    p.estimate + s.marginF ≤ p.deadline ∧
    16 * (p.deadline - p.estimate - s.marginF) < p.estimate * s.marginM + 16 ∧
    p.estimate * s.marginM ≤ 16 * (p.deadline - p.estimate - s.marginF)) ∧
  (∀ (s : State) (a b : Nat) (path : List Nat),
    s.pathTime (a :: b :: path) = s.travel (if a ≤ b then b - a else a - b) + s.pathTime (b :: path) ∧ s.pathTime [a] = 0) ∧
  ∀ (s : State) (x : Side) (p : Plan), s.mode = .run → s.hasProfile = true → (s.lift x).plannable = true →
    s.planFor x = some p →
    ∃ t, s.tryPlan x = some t ∧
      (∀ st ∈ p.stops, st.outcome = .stillOpen ∧
        (st.action = .load → st.reserved = false ∧ ∃ k, (s.entries st.place)[k]? = some st.expected ∧
          st.claim = some (match st.expected with | .card n => .card n | .foreign => .foreign k)) ∧
        (st.action = .unload → st.reserved = true ∧ st.claim = none)) ∧
      (∀ q, t.entries q = s.entries q ∧ (t.place q).res = (s.place q).res +
        (p.stops.filter (fun st => st.action == .unload && st.place == q)).length) ∧
      (Roster s → ∀ q, q < 164 → s.Within q → t.Within q) ∧
      ((s.lift x).state = .idle → (t.lift x).state = .onTrip ∧ (t.lift x).pending = none ∧ (t.lift x).trip =
        some { number := nextTrip (s.lift x).counter, plan := p, phase := .moving, left := 10 * p.deadline, expired := false,
               jammed := none }) ∧
      ((s.lift x).state = .parked → (t.lift x).state = .waking ∧ (t.lift x).pending = some p) ∧
      ((s.lift x).state = .parking → (t.lift x).state = .parking ∧ (t.lift x).pending = some p) ∧
      t.lift (otherSide x) = s.lift (otherSide x) ∧
      (∀ n c, s.ctx n = some c → t.ctx n =
        if p.kind = .turnBack ∧ (p.stops.head?.map (·.expected)) = some (.card n) then
          some { c with phase := .returning, failure := some (.levelClosed, byteOf (inLaneOf c.level x)) }
        else some c)

/-- The planning rules (R91 to R99). A try makes a plan only in RUN, with a profile, for a lift IDLE, PARKING or PARKED without a
plan. While a tote that is not order-held stands on a deck, only a CARRY-BACK is planned, where the exit has room for all such totes;
otherwise an entry head that is FOREIGN, or a STORE card whose lane admits no arrivals, is turned back, where a deck is free and the
exit has room (where not, no trip is planned: log 29, DEDUCED); otherwise a NORMAL trip. Its outbound choice takes at most as many
totes as decks are free and the exit has room for: n1, behind an unsequenced head where it stands second, then n2, then unsequenced
heads, FOREIGN before cards, of the lowest level or the greatest age. Its inbound set is the largest of e1 and e2 whose detour is at
most DETOUR. Its stops: entry loads, inbound unloads by ascending level, outbound loads by descending level, exit unloads in the
order chosen, and last an order-held tote that every entry ahead of it lets go. -/
def Obligations.PlannerRules : Prop :=
  ∀ (s : State) (x : Side),
    let l := s.lift x
    let spur := entrySpur x
    let free (d : Deck) : Prop := s.deck x d = none
    let room := if s.admitsArrivals (exitSpur x) = true then 3 - (s.entries (exitSpur x)).length - (s.place (exitSpur x)).res else 0
    let held (d : Deck) : Prop := ∃ n, s.deck x d = some (.card n) ∧ s.sequenced n = true ∧
      ∃ m ∈ s.aheadInBound x n, s.inPhase m .inSpur = false ∧ s.deck x (otherDeck d) ≠ some (.card m)
    let loads (level p : Nat) (d : Deck) (k : Nat) (e : Entry) : Stop := {
      level := level, place := p, action := .load, deck := d, expected := e, reserved := false, guarded := false, outcome := .stillOpen
      claim := some (match e with | .card n => .card n | .foreign => .foreign k) }
    let unloads (level p : Nat) (d : Deck) (e : Entry) (guarded : Bool) : Stop := {
      level := level, place := p, action := .unload, deck := d, expected := e, reserved := true, guarded := guarded
      outcome := .stillOpen, claim := none }
    let exits (d : Deck) (e : Entry) : Stop := unloads 0 (exitSpur x) d e (s.seqEntry e)
    let back (e : Entry) : Prop := s.admitsDepartures spur = true ∧ s.head spur = some e ∧ (e = .foreign ∨ ∃ n c,
      e = .card n ∧ s.ctx n = some c ∧ c.kind = .store ∧ c.phase = .inSpur ∧ s.admitsArrivals (inLaneOf c.level x) = false)
    -- the try, and the order of the three rules
    (s.tryPlan x = none ↔ s.planFor x = none ∨ ¬(s.mode = .run ∧ s.hasProfile = true ∧
      (l.state = .idle ∨ l.state = .parking ∨ l.state = .parked) ∧ l.pending = none ∧ l.trip = none)) ∧
    (∀ d e, (d, e) ∈ s.carried x ↔ s.deck x d = some e ∧ ¬held d) ∧
    (s.carried x ≠ [] →
      let swapped := ∃ m n, s.carried x = [(.front, .card m), (.rear, .card n)] ∧ s.sequenced m = true ∧
        s.sequenced n = true ∧ n ∈ s.aheadInBound x m
      (room < (s.carried x).length → s.planFor x = none) ∧
      ((s.carried x).length ≤ room →
        (swapped → s.planFor x = some (s.planOf .carryBack 0 ((s.carried x).reverse.map (fun p => exits p.1 p.2)))) ∧
        (¬swapped → s.planFor x = some (s.planOf .carryBack 0 ((s.carried x).map (fun p => exits p.1 p.2)))))) ∧
    (∀ e, s.carried x = [] → back e →
      (∀ d, room ≠ 0 → free d → (d = .rear → ¬free .front) →
        s.planFor x = some (s.planOf .turnBack 0 [loads 0 spur d 0 e, exits d e])) ∧
      (room = 0 ∨ (∀ d, ¬free d) → s.planFor x = none)) ∧
    (s.carried x = [] → (∀ e, ¬back e) → s.planFor x = s.normalPlan x) ∧
    -- the outbound choice
    (let most := min (s.freeDecks x).length room
     let picks := s.outboundChoice x
     let first := s.sequencedPicks x most
     let ready (n : Nat) : Prop := s.inPhase n .granted = true ∨ s.inPhase n .inLane = true
     let stands (n p : Nat) : Prop := ∃ c, s.ctx n = some c ∧ c.phase = .inLane ∧ c.place = some p
     let offered (p : Nat) (e : Entry) : Prop := s.admitsDepartures p = true ∧ s.head p = some e ∧ s.claimed x p 0 e = false
     let second (p : Nat) (e : Entry) : Prop := (s.entries p)[1]? = some e ∧ s.claimed x p 1 e = false
     let candidate (chosen : List Pick) (k : Pick) : Prop := (∃ level, 1 ≤ level ∧ level ≤ 40 ∧ k.place = outLane level x) ∧
       s.admitsDepartures k.place = true ∧ (s.entries k.place)[k.position]? = some k.entry ∧ s.seqEntry k.entry = false ∧
       s.claimed x k.place k.position k.entry = false ∧
       if ∃ j ∈ chosen, j.place = k.place ∧ j.position = 0 then k.position = 1 ∧ ∀ j ∈ chosen, j.place = k.place → j.position ≠ 1
       else k.position = 0
     let sooner (k j : Pick) : Prop := match k.entry, j.entry with
       | .foreign, .foreign => laneLevel k.place ≤ laneLevel j.place
       | .foreign, .card _ => True
       | .card _, .foreign => False
       | .card m, .card n => s.age n < s.age m ∨ (s.age n = s.age m ∧ laneLevel k.place ≤ laneLevel j.place)
     (s.freeDecks x).length = (if s.deck x .front = none then 1 else 0) + (if s.deck x .rear = none then 1 else 0) ∧
     (∀ n c, s.ctx n = some c → s.age n = (s.board.clock - c.loaded).toNat) ∧
     (l.trip = none → l.pending = none → ∀ p k e, s.claimed x p k e = false) ∧
     ((∀ n ∈ s.release.bound.get x, ¬ready n) → first = []) ∧
     (∀ pre n post, s.release.bound.get x = pre ++ n :: post → (∀ m ∈ pre, ¬ready m) → ready n →
       (∀ p, stands n p → offered p (.card n) →
         (∀ m q, post.head? = some m → stands m q → offered q (.card m) →
           first = ([⟨p, 0, .card n⟩, ⟨q, 0, .card m⟩] : List Pick).take most) ∧
         (∀ m, post.head? = some m → stands m p → ¬offered p (.card m) → second p (.card m) →
           first = ([⟨p, 0, .card n⟩, ⟨p, 1, .card m⟩] : List Pick).take most) ∧
         ((∀ m q, post.head? = some m → stands m q → ¬offered q (.card m) ∧ (q = p → ¬second p (.card m))) →
           first = ([⟨p, 0, .card n⟩] : List Pick).take most)) ∧
       (∀ p h, stands n p → offered p h → h ≠ .card n → (s.entries p)[1]? = some (.card n) → s.seqEntry h = false →
         first = ([⟨p, 0, h⟩, ⟨p, 1, .card n⟩] : List Pick).take most) ∧
       ((∀ p h, stands n p → offered p h → h ≠ .card n ∧ ¬((s.entries p)[1]? = some (.card n) ∧ s.seqEntry h = false)) →
         first = [])) ∧
     picks.take first.length = first ∧ picks.length ≤ most ∧
     (∀ i k, first.length ≤ i → picks[i]? = some k → candidate (picks.take i) k ∧ ∀ j, candidate (picks.take i) j → sooner k j) ∧
     (picks.length < most → ∀ k, ¬candidate picks k) ∧
     -- the inbound set
     (let inb := s.inboundSet x picks (s.inboundCandidates x)
      let fits (i n p : Nat) : Prop := s.admitsDepartures spur = true ∧ (s.entries spur)[i]? = some (.card n) ∧
        s.claimed x spur i (.card n) = false ∧ s.admitsArrivals p = true ∧
        ∃ c, s.ctx n = some c ∧ c.kind = .store ∧ c.phase = .inSpur ∧ p = inLaneOf c.level x
      let e1 (n p : Nat) : Prop := (∃ d, free d) ∧ fits 0 n p ∧ s.hasRoom p = true
      let e2 (p m q : Nat) : Prop := free .front ∧ free .rear ∧ fits 1 m q ∧
        (s.entries q).length + (s.place q).res + (if q = p then 1 else 0) < capacity q
      let passes (i : List (Nat × Nat)) : Prop :=
        s.estimate 0 (s.normalStops x picks i) ≤ s.estimate 0 (s.normalStops x picks []) + s.detour
      ((∀ n p, ¬e1 n p) → s.inboundCandidates x = []) ∧
      (∀ n p, e1 n p → (∀ m q, ¬e2 p m q) → s.inboundCandidates x = [(n, p)]) ∧
      (∀ n p m q, e1 n p → e2 p m q → s.inboundCandidates x = [(n, p), (m, q)]) ∧
      (picks = [] → inb = s.inboundCandidates x) ∧
      (picks ≠ [] →
        (passes (s.inboundCandidates x) → inb = s.inboundCandidates x) ∧
        (¬passes (s.inboundCandidates x) → passes ((s.inboundCandidates x).take 1) → inb = (s.inboundCandidates x).take 1) ∧
        (¬passes (s.inboundCandidates x) → ¬passes ((s.inboundCandidates x).take 1) → inb = [])) ∧
      -- the stops
      (picks = [] → inb = [] → s.normalPlan x = none) ∧
      (picks ≠ [] ∨ inb ≠ [] → s.normalPlan x = some (s.planOf .normal 0 (s.normalStops x picks inb))) ∧
      (∀ d e, (d, e) ∈ s.heldOut x picks ↔ s.deck x d = some e ∧ held d ∧ picks.length < room ∧
        ∃ n, e = .card n ∧ ∀ m ∈ s.aheadInBound x n, s.inPhase m .inSpur = true ∨ ∃ k ∈ picks, k.entry = .card m) ∧
      (∀ d, (if d = Deck.front then free .front else ¬free .front) →
        let inbound (i : List (Nat × Nat)) : List Stop := match i with
          | [] => []
          | [(n, p)] => [loads 0 spur d 0 (.card n), unloads (laneLevel p) p d (.card n) false]
          | (n, p) :: (m, q) :: _ =>
            let one := unloads (laneLevel p) p d (.card n) false
            let two := unloads (laneLevel q) q .rear (.card m) false
            [loads 0 spur d 0 (.card n), loads 0 spur .rear 1 (.card m)] ++
              (if laneLevel q < laneLevel p then [two, one] else [one, two])
        let outbound : List Stop := match picks with
          | [] => []
          | [k] => [loads (laneLevel k.place) k.place d k.position k.entry, exits d k.entry]
          | k :: j :: _ =>
            let one := loads (laneLevel k.place) k.place d k.position k.entry
            let two := loads (laneLevel j.place) j.place .rear j.position j.entry
            (if laneLevel k.place < laneLevel j.place then [two, one] else [one, two]) ++ [exits d k.entry, exits .rear j.entry]
        ∀ i ∈ ([inb, s.inboundCandidates x, (s.inboundCandidates x).take 1, []] : List (List (Nat × Nat))),
          s.normalStops x picks i = inbound i ++ outbound ++ (s.heldOut x picks).map (fun p => exits p.1 p.2))))

/-! ### The entry divert (chapter 7) -/

/-- The entry unit (R129 to R138). An arrival at the idle, empty divert takes the held read, 0 being UNREADABLE: the lowest AWAITED
STORE card of that tote stands in the divert and its side is chosen, or FOREIGN does, with NO_CARD or UNREADABLE raised, and is
rejected. The side choice of a waiting card: no lane of its level fitted and not retired on a side it may use, and it ends FAILED
LEVEL_CLOSED, FOREIGN in its stead; otherwise it waits exactly while no candidate's spur admits arrivals with room in RUN; otherwise
the divert moves to a candidate, of two to the spur with fewer entries, or A, with one reservation there and the card AT_DIVERT.
DIVERT-DONE puts the entry at the tail of its spur, its card IN_SPUR and the reservation used up, or ends a reject; a tote standing
at the divert then arrives. A tote taken out by hand leaves the idle divert. A reject moves in RUN while REJECT-FULL is off, and
REJECT_FULL is raised once while it is on. -/
def Obligations.EntryEvents : Prop :=
  (∀ w : State,
    let u := w.arrival
    let awaits (c : Context) (t : Word) : Prop := c.kind = .store ∧ c.phase = .awaited ∧ c.tote = t
    u.entry = { w.entry with read := none } ∧
    (∀ t n c, w.entry.read = some (.tote t) → w.ctx n = some c → awaits c t →
      (∀ m d, m < n → w.ctx m = some d → ¬awaits d t) →
      u.entries divert = [.card n] ∧ u.ctx n = some { c with place := some divert } ∧ u.conditions = w.conditions ∧
      Retry.divert ∈ u.wake) ∧
    (∀ t, w.entry.read = some (.tote t) → (∀ m d, w.ctx m = some d → ¬awaits d t) →
      u.entries divert = [.foreign] ∧ u.contexts = w.contexts ∧ Retry.reject ∈ u.wake ∧ u.cond srcEntry =
        (w.cond srcEntry).raised .noCard (t.extractLsb' 0 8) (t.extractLsb' 8 8) w.stamp) ∧
    (w.entry.read = none ∨ w.entry.read = some .unreadable →
      u.entries divert = [.foreign] ∧ u.contexts = w.contexts ∧ Retry.reject ∈ u.wake ∧
      u.cond srcEntry = (w.cond srcEntry).raised .unreadable 0x00 0x00 w.stamp)) ∧
  (∀ w : State,
    (w.entry.motion ≠ .idle ∨ (∀ n, w.head divert ≠ some (.card n)) → w.divertChoice = none) ∧
    (∀ n c, w.head divert = some (.card n) → w.ctx n = some c → w.entry.motion = .idle →
      let can (x : Side) : Prop := (w.place (inLaneOf c.level x)).fitted = true ∧ (w.place (inLaneOf c.level x)).retired = false
      let prefers (x : Side) : Prop := c.pref = (match x with | .a => Pref.a | .b => Pref.b)
      let candidate (x : Side) (substituted : Bool) : Prop := can x ∧
        if substituted then prefers (otherSide x) ∧ ¬can (otherSide x) else c.pref = .any ∨ prefers x
      let takes (x : Side) : Prop := w.mode = .run ∧ w.admitsArrivals (entrySpur x) = true ∧
        (w.entries (entrySpur x)).length + (w.place (entrySpur x)).res < 3
      let held (x : Side) : Nat := (w.entries (entrySpur x)).length
      ((∀ x, ¬can x) → ∃ u, w.divertChoice = some u ∧ u.ctx n = none ∧ u.cardState n = cardFailed ∧
        u.cardByte n 32 = 0x0B ∧ u.cardByte n 33 = byteOf c.level ∧ u.board.finishList = w.board.finishList ++ [n] ∧
        u.entries divert = [.foreign] ∧ Retry.reject ∈ u.wake ∧ u.entry = w.entry ∧
        u.cond srcEntry = (w.cond srcEntry).raised .levelClosed (byteOf c.level) (byteOf n) w.stamp) ∧
      ((∃ x, can x) → (∀ x b, candidate x b → ¬takes x) → w.divertChoice = none) ∧
      (∀ x b, candidate x b → takes x →
        (∀ b', candidate (otherSide x) b' → takes (otherSide x) →
          held x < held (otherSide x) ∨ (held x = held (otherSide x) ∧ x = .a)) →
        ∃ u, w.divertChoice = some u ∧ u.entry = { w.entry with motion := .toSpur x } ∧ u.divertDriven x = true ∧
          u.divertDriven (otherSide x) = false ∧ (u.place (entrySpur x)).res = (w.place (entrySpur x)).res + 1 ∧
          (∀ q, u.entries q = w.entries q) ∧ (∀ q, q ≠ entrySpur x → u.place q = w.place q) ∧
          u.ctx n = some { c with phase := .atDivert, side := some x, sideChanged := b, bound := w.stamp } ∧
          u.Mirrored divert ∧ u.Mirrored (entrySpur x) ∧
          { u with entry := w.entry, places := w.places, contexts := w.contexts, board := w.board } = w))) ∧
  (∀ w : State,
    (w.head divert ≠ some .foreign ∨ w.entry.motion ≠ .idle ∨ w.mode ≠ .run → w.tryReject = none) ∧
    (w.head divert = some .foreign → w.entry.motion = .idle → w.mode = .run →
      (w.lines.rejectFull = false → ∃ u, w.tryReject = some u ∧
        u.entry = { w.entry with motion := .toReject, rejectReported := false } ∧ u.rejectDriven = true ∧ u.Mirrored divert ∧
        { u with entry := w.entry, board := w.board } = w) ∧
      (w.lines.rejectFull = true → w.entry.rejectReported = true → w.tryReject = none) ∧
      (w.lines.rejectFull = true → w.entry.rejectReported = false → ∃ u, w.tryReject = some u ∧
        u.entry = { w.entry with rejectReported := true } ∧
        u.cond srcEntry = (w.cond srcEntry).raised .rejectFull 0x00 0x00 w.stamp ∧
        { u with entry := w.entry, conditions := w.conditions } = w))) ∧
  ∀ s : State, Live s →
    let a := { s.begin with lines := { s.lines with entryArrive := true } }
    let d := { s.begin with lines := { s.lines with entryArrive := false } }
    let arrives (v : State) : State := if s.lines.entryArrive = true then v.arrival else v
    (∀ r, s.wake = [] → exec (.entryReaderResult r) s = .next { s with
      sent := [], entry := { s.entry with read := some (if r = .tote 0 then .unreadable else r) } }) ∧
    (s.entry.motion = .idle → s.entries divert = [] → Leads .entryArrive s a.arrival) ∧
    (s.entry.motion ≠ .idle ∨ s.entries divert ≠ [] → s.wake = [] → exec .entryArrive s = .next a) ∧
    (∀ x e, s.entry.motion = .toSpur x → s.head divert = some e →
      (let v := s.begin.divertReaches x
       Leads .divertDone s (arrives v) ∧ v.entry = { s.entry with motion := .idle } ∧ v.entries divert = [] ∧
       v.entries (entrySpur x) = s.entries (entrySpur x) ++ [e] ∧
       (v.place (entrySpur x)).res = (s.place (entrySpur x)).res - 1 ∧ Retry.plan x ∈ v.wake ∧
       (∀ n c, e = .card n → s.ctx n = some c →
         v.ctx n = some { c with phase := .inSpur, place := some (entrySpur x), loaded := s.stamp }))) ∧
    (s.entry.motion = .toReject → ∃ v, Leads .divertDone s (arrives v) ∧
      v.entry = { s.entry with motion := .idle } ∧ v.entries divert = [] ∧ (∀ q, q ≠ divert → v.place q = s.place q) ∧
      v.contexts = s.contexts ∧ v.conditions = s.conditions ∧ v.wake = s.wake) ∧
    (s.entry.motion = .idle → s.wake = [] → exec .divertDone s = .next { s with sent := [] }) ∧
    (∀ n c, s.entry.motion = .idle → s.head divert = some (.card n) → s.ctx n = some c → s.wake = [] →
      ∃ t, exec .entryArriveDeassert s = .next t ∧ t.lines = d.lines ∧ t.entries divert = [] ∧
        t.ctx n = some { c with place := none } ∧ (∀ q, q ≠ divert → t.place q = s.place q) ∧ t.entry = s.entry) ∧
    (s.entry.motion = .idle → s.head divert = some .foreign → s.wake = [] →
      ∃ t, exec .entryArriveDeassert s = .next t ∧ t.lines = d.lines ∧ t.entries divert = [] ∧
        t.entry = { s.entry with rejectReported := false } ∧ (∀ q, q ≠ divert → t.place q = s.place q) ∧
        t.contexts = s.contexts ∧ t.conditions = s.conditions) ∧
    (s.entry.motion ≠ .idle ∨ s.entries divert = [] → s.wake = [] → exec .entryArriveDeassert s = .next d) ∧
    (s.wake = [] → exec (.rejectFullChange true) s = .next { s with
      sent := [], lines := { s.lines with rejectFull := true } }) ∧
    Leads (.rejectFullChange false) s ({ s.begin with lines := { s.lines with rejectFull := false } }.tell .reject)

/-! ### The place map's sensors (chapter 1) -/

/-- SPUR_COUNT_CHANGE and MISMATCH_TIMER_EXPIRY (R10 to R13): the spur's sensed count is its input's, and its mismatch timer runs
while it differs from the record of a spur that is neither frozen nor locked and there is a profile. At the timer's expiry as
many FOREIGN entries are appended as the count shows and the place has room for, the place is frozen SENSE, and FROZEN is
raised; the row taken while the timer has not run out changes nothing (log 2, DEDUCED). What is appended, reserved where there is
room, consumed with an arrival or rebuilt keeps entries and reservations within the place's capacity (R4, R14). -/
def Obligations.SpurCountAndMismatch : Prop :=
  (∀ s : State, Live s →
    (∀ spur count, s.wake = [] → count ≤ 3 →
      let p := spurPlace spur
      let differs := s.hasProfile = true ∧ (s.place p).frozen = none ∧ (s.place p).lock = .none ∧
        count ≠ (s.entries p).length
      ∃ t, exec (.spurCountChange spur count) s = .next t ∧ (t.place p).sensed = some count ∧
        t.lines = { s.lines with spurCounts := s.lines.spurCounts.setIfInBounds (p - 160) count } ∧
        (differs → (s.place p).mismatch = none → (t.place p).mismatch = some (100 * s.senseGrace)) ∧
        (∀ r, differs → (s.place p).mismatch = some r → (t.place p).mismatch = some r) ∧
        (¬differs → (t.place p).mismatch = none) ∧ t.entries p = s.entries p ∧ (∀ q, q ≠ p → t.place q = s.place q) ∧
        t.conditions = s.conditions ∧ t.contexts = s.contexts) ∧
    (∀ p, p < 164 → (s.place p).mismatch = some 0 →
      let u := s.begin.mismatchExpires p
      let missing := min ((s.place p).sensed.getD 0) (capacity p - (s.place p).res) - (s.entries p).length
      Leads (.mismatchTimerExpiry p) s u ∧ (u.place p).frozen = some .sense ∧
      u.entries p = s.entries p ++ List.replicate missing .foreign ∧ (u.place p).mismatch = none ∧
      u.cond (srcPlace p) = (s.cond (srcPlace p)).raised .frozen (byteOf p) 0x01 s.stamp ∧
      (∀ q, q ≠ p → u.place q = s.place q)) ∧
    (∀ p, s.wake = [] → (s.place p).mismatch ≠ some 0 → exec (.mismatchTimerExpiry p) s = .next { s with sent := [] })) ∧
  (∀ (s : State) (p : Nat), p < 164 → s.Within p →
    (s.begin.mismatchExpires p).Within p ∧ (s.hasRoom p = true → (s.reserve p).Within p) ∧ (s.unreserve p).Within p ∧
    (s.depart p).Within p ∧ (∀ r, (s.freeze p r).Within p) ∧
    (∀ e, 0 < (s.place p).res → (s.arriveReserved p e).Within p ∧
      (s.arriveReserved p e).entries p = s.entries p ++ [e] ∧
      ((s.arriveReserved p e).place p).res + 1 = (s.place p).res)) ∧
  ∀ (q : Place) (p count : Nat), p < 164 → count ≤ capacity p →
    (q.rebuilt count).entries.length + (q.rebuilt count).res ≤ capacity p ∧ (q.rebuilt count).entries.length = count

/-! ### The merge and the release order (chapter 3) -/

/-- The merge (R61 to R65): EXIT-READY is followed, and its assertion brings a try. A try releases only in RUN, with the merge
IDLE and EXIT-READY asserted, the head whose live number is N, or without one an unsequenced head, of the side not released last
where both offer one. The head leaves its spur, its card is RELEASED at no place, and the merge is RELEASING with its gate, its
10 s and no read; a live number of the card is consumed, the card leaves its bound list and N advances, and without one the release order
stands. -/
def Obligations.MergeReleases : Prop :=
  (∀ s : State,
    Leads (.exitReadyChange true) s ({ s.begin with lines := { s.lines with exitReady := true } }.tell .merge) ∧
    (s.Reported → s.wake = [] → exec (.exitReadyChange false) s = .next { s with
      sent := [], lines := { s.lines with exitReady := false } })) ∧
  (∀ s t : State, s.tryMerge = some t →
    s.mode = .run ∧ s.release.merge = .idle ∧ s.lines.exitReady = true ∧
    ∃ x e, s.offered x = some e ∧
      (s.offersN x = true ∨
        (s.headNumber e = none ∧ s.offersN .a = false ∧ s.offersN .b = false ∧
          (s.offersUnsequenced (otherSide x) = true → x = otherSide s.release.lastSide))) ∧
      t.release.merge = .releasing x e (some 10000) ∧ t.release.lastSide = x ∧ t.release.exitRead = none ∧
      t.gateDriven x = true ∧ t.gateDriven (otherSide x) = false ∧
      t.entries (exitSpur x) = (s.entries (exitSpur x)).tail ∧
      (∀ n c, e = .card n → s.ctx n = some c → t.ctx n = some { c with
        phase := .released, place := none, seqState := if c.liveSeq = none then c.seqState else .consumed }) ∧
      (∀ n c q, e = .card n → s.ctx n = some c → c.liveSeq = some q →
        let u := ((s.unlist n).setContext n
          (some { c with phase := .released, place := none, seqState := .consumed })).advance.release
        t.release = { u with merge := .releasing x e (some 10000), exitRead := none, lastSide := x } ∧
        n ∉ t.release.bound.a ∧ n ∉ t.release.bound.b) ∧
      ((∀ n c, e = .card n → s.ctx n = some c → c.liveSeq = none) →
        t.release = { s.release with merge := .releasing x e (some 10000), exitRead := none, lastSide := x })) ∧
  (∀ s : State, s.tryMerge = none → s.mode = .run → s.release.merge = .idle → s.lines.exitReady = true →
    ∀ x e, s.offered x = some e → ∃ q, s.headNumber e = some q ∧ q ≠ s.release.n)

/-- EXIT_READER_RESULT and PASS (R66): a result is held, a later one replacing it. PASS with the merge IDLE changes nothing.
Otherwise it ends the release: a FOREIGN entry raises FOREIGN_OUT with the read's low 16 bits; a card whose read differs gains
ID_MISMATCH, which is raised, and the card finishes: a RETRIEVE card DONE or, cancelled, CANCELLED with DELIVERED, a STORE card
FAILED with its pending failure and RETURNED. A result of tote ID 0 differs from every card's (log 43, DESIGN CHOICE). -/
def Obligations.PassEndsRelease : Prop :=
  ∀ s : State, Live s →
    let read := s.release.exitRead.getD .unreadable
    let u := s.begin.passes
    (∀ r, s.wake = [] → exec (.exitReaderResult r) s = .next { s with
      sent := [], release := { s.release with exitRead := some r } }) ∧
    (s.release.merge = .idle → s.wake = [] → exec .pass s = .next { s with sent := [] }) ∧
    Leads .pass s u ∧
    (∀ x timer, s.release.merge = .releasing x .foreign timer → u.release.merge = .idle ∧ u.contexts = s.contexts ∧
      u.cond srcMerge = (s.cond srcMerge).raised .foreignOut
        (match read with | .tote t => t.extractLsb' 0 8 | .unreadable => 0x00)
        (match read with | .tote t => t.extractLsb' 8 8 | .unreadable => 0x00) s.stamp) ∧
    (∀ x n c timer, s.release.merge = .releasing x (.card n) timer → s.ctx n = some c →
      let differs : Bool := match read with | .tote t => t != c.tote | .unreadable => true
      let c' := { c with idMismatch := c.idMismatch || differs }
      u.release.merge = .idle ∧ u.ctx n = none ∧ u.board.finishList = s.board.finishList ++ [n] ∧
      u.cond srcMerge = (if differs then (s.cond srcMerge).raised .idMismatch (byteOf n)
        (match read with | .tote _ => 0x00 | .unreadable => 0x01) s.stamp else s.cond srcMerge) ∧
      (c.kind = .retrieve → c.cancelRequested = false → u.cardState n = cardDone ∧ u.cardByte n 35 = resultFlags c') ∧
      (c.kind = .retrieve → c.cancelRequested = true →
        u.cardState n = cardCancelled ∧ u.cardByte n 35 = resultFlags { c' with delivered := true }) ∧
      (∀ r d, c.kind = .store → c.failure = some (r, d) → u.cardState n = cardFailed ∧
        u.cardByte n 32 = reasonByte r ∧ u.cardByte n 33 = d ∧ u.cardByte n 35 = resultFlags { c' with returned := true }))

/-- The timers that report and change nothing more than themselves (R67, R70, R86): a release's overdue timer raises OVERDUE once
with its side and entry; the stall timer raises STALL with the whereabouts of N and stops, marked as reported; a grant timer
raises GRANT_OVERDUE with its lane and kind and stops, the grant staying open. -/
def Obligations.TimerReports : Prop :=
  ∀ s : State, Awake s →
    (∀ x e, s.release.merge = .releasing x e (some 0) → ∃ t, exec .overdueTimerExpiry s = .next t ∧
      t.release = { s.release with merge := .releasing x e none } ∧
      t.cond srcMerge = (s.cond srcMerge).raised .overdue (match x with | .a => 0x01 | .b => 0x02)
        (match e with | .card n => byteOf n | .foreign => 0xFF) s.stamp ∧
      { t with release := s.release, conditions := s.conditions, sent := s.sent } = s) ∧
    (s.release.stall = some 0 → ∃ t, exec .stallTimerExpiry s = .next t ∧
      t.release = { s.release with stall := none, stallReported := true } ∧
      (∀ m c, s.findOpen (fun c => c.holds s.release.n) = some m → s.ctx m = some c →
        t.cond srcRelease = (s.cond srcRelease).raised .stall (whereaboutsByte c.phase) (byteOf m) s.stamp) ∧
      (s.findOpen (fun c => c.holds s.release.n) = none → s.release.n ∉ s.release.voids →
        t.cond srcRelease = (s.cond srcRelease).raised .stall 0x00 0xFF s.stamp) ∧
      { t with release := s.release, conditions := s.conditions, sent := s.sent } = s) ∧
    (∀ k g, 1 ≤ k → k ≤ 40 → s.grant k = some g → g.timer = some 0 → ∃ t, exec (.grantTimerExpiry k) s = .next t ∧
      t.grant k = some { g with timer := none } ∧ (∀ j, j ≠ k → t.grant j = s.grant j) ∧
      t.handover.held = s.handover.held ∧
      t.cond (srcLevel k) = (s.cond (srcLevel k)).raised .grantOverdue
        (byteOf (match g.kind with | .drop => outLane k g.side | .take => inLaneOf k g.side))
        (match g.kind with | .drop => 0x01 | .take => 0x02) s.stamp ∧
      { t with handover := s.handover, conditions := s.conditions, sent := s.sent } = s)
end

