-- ==== Sys2Proof/Laws/State.lean ====
section
/-! SUPPORT. What each update of the state leaves: one lemma for each update and each field it does not touch, and the
value of the field it sets. -/

namespace Sys2Proof.Machine

@[simp] theorem State.pending_setContext (s : State) (n : Nat) (c : Option Context) : (s.setContext n c).pending = s.pending := rfl
@[simp] theorem State.wake_setContext (s : State) (n : Nat) (c : Option Context) : (s.setContext n c).wake = s.wake := rfl
@[simp] theorem State.freeCount_setContext (s : State) (n : Nat) (c : Option Context) : (s.setContext n c).freeCount = s.freeCount := rfl
@[simp] theorem State.sent_setContext (s : State) (n : Nat) (c : Option Context) : (s.setContext n c).sent = s.sent := rfl
@[simp] theorem State.mode_setContext (s : State) (n : Nat) (c : Option Context) : (s.setContext n c).mode = s.mode := rfl
@[simp] theorem State.lines_setContext (s : State) (n : Nat) (c : Option Context) : (s.setContext n c).lines = s.lines := rfl
@[simp] theorem State.board_setContext (s : State) (n : Nat) (c : Option Context) : (s.setContext n c).board = s.board := rfl
@[simp] theorem State.conditions_setContext (s : State) (n : Nat) (c : Option Context) : (s.setContext n c).conditions = s.conditions := rfl
@[simp] theorem State.places_setContext (s : State) (n : Nat) (c : Option Context) : (s.setContext n c).places = s.places := rfl
@[simp] theorem State.release_setContext (s : State) (n : Nat) (c : Option Context) : (s.setContext n c).release = s.release := rfl
@[simp] theorem State.handover_setContext (s : State) (n : Nat) (c : Option Context) : (s.setContext n c).handover = s.handover := rfl
@[simp] theorem State.lifts_setContext (s : State) (n : Nat) (c : Option Context) : (s.setContext n c).lifts = s.lifts := rfl
@[simp] theorem State.chain_setContext (s : State) (n : Nat) (c : Option Context) : (s.setContext n c).chain = s.chain := rfl
@[simp] theorem State.entry_setContext (s : State) (n : Nat) (c : Option Context) : (s.setContext n c).entry = s.entry := rfl
@[simp] theorem State.store_setContext (s : State) (n : Nat) (c : Option Context) : (s.setContext n c).store = s.store := rfl

@[simp] theorem State.pending_updateContext (s : State) (n : Nat) (f : Context → Context) : (s.updateContext n f).pending = s.pending := by unfold State.updateContext; split <;> rfl
@[simp] theorem State.wake_updateContext (s : State) (n : Nat) (f : Context → Context) : (s.updateContext n f).wake = s.wake := by unfold State.updateContext; split <;> rfl
@[simp] theorem State.freeCount_updateContext (s : State) (n : Nat) (f : Context → Context) : (s.updateContext n f).freeCount = s.freeCount := by unfold State.updateContext; split <;> rfl
@[simp] theorem State.sent_updateContext (s : State) (n : Nat) (f : Context → Context) : (s.updateContext n f).sent = s.sent := by unfold State.updateContext; split <;> rfl
@[simp] theorem State.mode_updateContext (s : State) (n : Nat) (f : Context → Context) : (s.updateContext n f).mode = s.mode := by unfold State.updateContext; split <;> rfl
@[simp] theorem State.lines_updateContext (s : State) (n : Nat) (f : Context → Context) : (s.updateContext n f).lines = s.lines := by unfold State.updateContext; split <;> rfl
@[simp] theorem State.board_updateContext (s : State) (n : Nat) (f : Context → Context) : (s.updateContext n f).board = s.board := by unfold State.updateContext; split <;> rfl
@[simp] theorem State.conditions_updateContext (s : State) (n : Nat) (f : Context → Context) : (s.updateContext n f).conditions = s.conditions := by unfold State.updateContext; split <;> rfl
@[simp] theorem State.places_updateContext (s : State) (n : Nat) (f : Context → Context) : (s.updateContext n f).places = s.places := by unfold State.updateContext; split <;> rfl
@[simp] theorem State.release_updateContext (s : State) (n : Nat) (f : Context → Context) : (s.updateContext n f).release = s.release := by unfold State.updateContext; split <;> rfl
@[simp] theorem State.handover_updateContext (s : State) (n : Nat) (f : Context → Context) : (s.updateContext n f).handover = s.handover := by unfold State.updateContext; split <;> rfl
@[simp] theorem State.lifts_updateContext (s : State) (n : Nat) (f : Context → Context) : (s.updateContext n f).lifts = s.lifts := by unfold State.updateContext; split <;> rfl
@[simp] theorem State.chain_updateContext (s : State) (n : Nat) (f : Context → Context) : (s.updateContext n f).chain = s.chain := by unfold State.updateContext; split <;> rfl
@[simp] theorem State.entry_updateContext (s : State) (n : Nat) (f : Context → Context) : (s.updateContext n f).entry = s.entry := by unfold State.updateContext; split <;> rfl
@[simp] theorem State.store_updateContext (s : State) (n : Nat) (f : Context → Context) : (s.updateContext n f).store = s.store := by unfold State.updateContext; split <;> rfl

@[simp] theorem State.pending_setGrant (s : State) (n : Nat) (g : Option Grant) : (s.setGrant n g).pending = s.pending := by cases n <;> rfl
@[simp] theorem State.wake_setGrant (s : State) (n : Nat) (g : Option Grant) : (s.setGrant n g).wake = s.wake := by cases n <;> rfl
@[simp] theorem State.freeCount_setGrant (s : State) (n : Nat) (g : Option Grant) : (s.setGrant n g).freeCount = s.freeCount := by cases n <;> rfl
@[simp] theorem State.sent_setGrant (s : State) (n : Nat) (g : Option Grant) : (s.setGrant n g).sent = s.sent := by cases n <;> rfl
@[simp] theorem State.mode_setGrant (s : State) (n : Nat) (g : Option Grant) : (s.setGrant n g).mode = s.mode := by cases n <;> rfl
@[simp] theorem State.lines_setGrant (s : State) (n : Nat) (g : Option Grant) : (s.setGrant n g).lines = s.lines := by cases n <;> rfl
@[simp] theorem State.board_setGrant (s : State) (n : Nat) (g : Option Grant) : (s.setGrant n g).board = s.board := by cases n <;> rfl
@[simp] theorem State.conditions_setGrant (s : State) (n : Nat) (g : Option Grant) : (s.setGrant n g).conditions = s.conditions := by cases n <;> rfl
@[simp] theorem State.contexts_setGrant (s : State) (n : Nat) (g : Option Grant) : (s.setGrant n g).contexts = s.contexts := by cases n <;> rfl
@[simp] theorem State.places_setGrant (s : State) (n : Nat) (g : Option Grant) : (s.setGrant n g).places = s.places := by cases n <;> rfl
@[simp] theorem State.release_setGrant (s : State) (n : Nat) (g : Option Grant) : (s.setGrant n g).release = s.release := by cases n <;> rfl
@[simp] theorem State.lifts_setGrant (s : State) (n : Nat) (g : Option Grant) : (s.setGrant n g).lifts = s.lifts := by cases n <;> rfl
@[simp] theorem State.chain_setGrant (s : State) (n : Nat) (g : Option Grant) : (s.setGrant n g).chain = s.chain := by cases n <;> rfl
@[simp] theorem State.entry_setGrant (s : State) (n : Nat) (g : Option Grant) : (s.setGrant n g).entry = s.entry := by cases n <;> rfl
@[simp] theorem State.store_setGrant (s : State) (n : Nat) (g : Option Grant) : (s.setGrant n g).store = s.store := by cases n <;> rfl

@[simp] theorem State.pending_setHeld (s : State) (l : List HeldAsk) : (s.setHeld l).pending = s.pending := rfl
@[simp] theorem State.wake_setHeld (s : State) (l : List HeldAsk) : (s.setHeld l).wake = s.wake := rfl
@[simp] theorem State.freeCount_setHeld (s : State) (l : List HeldAsk) : (s.setHeld l).freeCount = s.freeCount := rfl
@[simp] theorem State.sent_setHeld (s : State) (l : List HeldAsk) : (s.setHeld l).sent = s.sent := rfl
@[simp] theorem State.mode_setHeld (s : State) (l : List HeldAsk) : (s.setHeld l).mode = s.mode := rfl
@[simp] theorem State.lines_setHeld (s : State) (l : List HeldAsk) : (s.setHeld l).lines = s.lines := rfl
@[simp] theorem State.board_setHeld (s : State) (l : List HeldAsk) : (s.setHeld l).board = s.board := rfl
@[simp] theorem State.conditions_setHeld (s : State) (l : List HeldAsk) : (s.setHeld l).conditions = s.conditions := rfl
@[simp] theorem State.contexts_setHeld (s : State) (l : List HeldAsk) : (s.setHeld l).contexts = s.contexts := rfl
@[simp] theorem State.places_setHeld (s : State) (l : List HeldAsk) : (s.setHeld l).places = s.places := rfl
@[simp] theorem State.release_setHeld (s : State) (l : List HeldAsk) : (s.setHeld l).release = s.release := rfl
@[simp] theorem State.lifts_setHeld (s : State) (l : List HeldAsk) : (s.setHeld l).lifts = s.lifts := rfl
@[simp] theorem State.chain_setHeld (s : State) (l : List HeldAsk) : (s.setHeld l).chain = s.chain := rfl
@[simp] theorem State.entry_setHeld (s : State) (l : List HeldAsk) : (s.setHeld l).entry = s.entry := rfl
@[simp] theorem State.store_setHeld (s : State) (l : List HeldAsk) : (s.setHeld l).store = s.store := rfl

@[simp] theorem State.pending_setNode (s : State) (n : Nat) (nd : Node) : (s.setNode n nd).pending = s.pending := by cases n <;> rfl
@[simp] theorem State.wake_setNode (s : State) (n : Nat) (nd : Node) : (s.setNode n nd).wake = s.wake := by cases n <;> rfl
@[simp] theorem State.freeCount_setNode (s : State) (n : Nat) (nd : Node) : (s.setNode n nd).freeCount = s.freeCount := by cases n <;> rfl
@[simp] theorem State.sent_setNode (s : State) (n : Nat) (nd : Node) : (s.setNode n nd).sent = s.sent := by cases n <;> rfl
@[simp] theorem State.mode_setNode (s : State) (n : Nat) (nd : Node) : (s.setNode n nd).mode = s.mode := by cases n <;> rfl
@[simp] theorem State.lines_setNode (s : State) (n : Nat) (nd : Node) : (s.setNode n nd).lines = s.lines := by cases n <;> rfl
@[simp] theorem State.board_setNode (s : State) (n : Nat) (nd : Node) : (s.setNode n nd).board = s.board := by cases n <;> rfl
@[simp] theorem State.conditions_setNode (s : State) (n : Nat) (nd : Node) : (s.setNode n nd).conditions = s.conditions := by cases n <;> rfl
@[simp] theorem State.contexts_setNode (s : State) (n : Nat) (nd : Node) : (s.setNode n nd).contexts = s.contexts := by cases n <;> rfl
@[simp] theorem State.places_setNode (s : State) (n : Nat) (nd : Node) : (s.setNode n nd).places = s.places := by cases n <;> rfl
@[simp] theorem State.release_setNode (s : State) (n : Nat) (nd : Node) : (s.setNode n nd).release = s.release := by cases n <;> rfl
@[simp] theorem State.handover_setNode (s : State) (n : Nat) (nd : Node) : (s.setNode n nd).handover = s.handover := by cases n <;> rfl
@[simp] theorem State.lifts_setNode (s : State) (n : Nat) (nd : Node) : (s.setNode n nd).lifts = s.lifts := by cases n <;> rfl
@[simp] theorem State.entry_setNode (s : State) (n : Nat) (nd : Node) : (s.setNode n nd).entry = s.entry := by cases n <;> rfl
@[simp] theorem State.store_setNode (s : State) (n : Nat) (nd : Node) : (s.setNode n nd).store = s.store := by cases n <;> rfl

@[simp] theorem State.pending_updateNode (s : State) (n : Nat) (f : Node → Node) : (s.updateNode n f).pending = s.pending := by unfold State.updateNode; simp
@[simp] theorem State.wake_updateNode (s : State) (n : Nat) (f : Node → Node) : (s.updateNode n f).wake = s.wake := by unfold State.updateNode; simp
@[simp] theorem State.freeCount_updateNode (s : State) (n : Nat) (f : Node → Node) : (s.updateNode n f).freeCount = s.freeCount := by unfold State.updateNode; simp
@[simp] theorem State.sent_updateNode (s : State) (n : Nat) (f : Node → Node) : (s.updateNode n f).sent = s.sent := by unfold State.updateNode; simp
@[simp] theorem State.mode_updateNode (s : State) (n : Nat) (f : Node → Node) : (s.updateNode n f).mode = s.mode := by unfold State.updateNode; simp
@[simp] theorem State.lines_updateNode (s : State) (n : Nat) (f : Node → Node) : (s.updateNode n f).lines = s.lines := by unfold State.updateNode; simp
@[simp] theorem State.board_updateNode (s : State) (n : Nat) (f : Node → Node) : (s.updateNode n f).board = s.board := by unfold State.updateNode; simp
@[simp] theorem State.conditions_updateNode (s : State) (n : Nat) (f : Node → Node) : (s.updateNode n f).conditions = s.conditions := by unfold State.updateNode; simp
@[simp] theorem State.contexts_updateNode (s : State) (n : Nat) (f : Node → Node) : (s.updateNode n f).contexts = s.contexts := by unfold State.updateNode; simp
@[simp] theorem State.places_updateNode (s : State) (n : Nat) (f : Node → Node) : (s.updateNode n f).places = s.places := by unfold State.updateNode; simp
@[simp] theorem State.release_updateNode (s : State) (n : Nat) (f : Node → Node) : (s.updateNode n f).release = s.release := by unfold State.updateNode; simp
@[simp] theorem State.handover_updateNode (s : State) (n : Nat) (f : Node → Node) : (s.updateNode n f).handover = s.handover := by unfold State.updateNode; simp
@[simp] theorem State.lifts_updateNode (s : State) (n : Nat) (f : Node → Node) : (s.updateNode n f).lifts = s.lifts := by unfold State.updateNode; simp
@[simp] theorem State.entry_updateNode (s : State) (n : Nat) (f : Node → Node) : (s.updateNode n f).entry = s.entry := by unfold State.updateNode; simp
@[simp] theorem State.store_updateNode (s : State) (n : Nat) (f : Node → Node) : (s.updateNode n f).store = s.store := by unfold State.updateNode; simp

@[simp] theorem State.pending_setPort (s : State) (p : Port) (v : ChainPort) : (s.setPort p v).pending = s.pending := by cases p <;> rfl
@[simp] theorem State.wake_setPort (s : State) (p : Port) (v : ChainPort) : (s.setPort p v).wake = s.wake := by cases p <;> rfl
@[simp] theorem State.freeCount_setPort (s : State) (p : Port) (v : ChainPort) : (s.setPort p v).freeCount = s.freeCount := by cases p <;> rfl
@[simp] theorem State.sent_setPort (s : State) (p : Port) (v : ChainPort) : (s.setPort p v).sent = s.sent := by cases p <;> rfl
@[simp] theorem State.mode_setPort (s : State) (p : Port) (v : ChainPort) : (s.setPort p v).mode = s.mode := by cases p <;> rfl
@[simp] theorem State.lines_setPort (s : State) (p : Port) (v : ChainPort) : (s.setPort p v).lines = s.lines := by cases p <;> rfl
@[simp] theorem State.board_setPort (s : State) (p : Port) (v : ChainPort) : (s.setPort p v).board = s.board := by cases p <;> rfl
@[simp] theorem State.conditions_setPort (s : State) (p : Port) (v : ChainPort) : (s.setPort p v).conditions = s.conditions := by cases p <;> rfl
@[simp] theorem State.contexts_setPort (s : State) (p : Port) (v : ChainPort) : (s.setPort p v).contexts = s.contexts := by cases p <;> rfl
@[simp] theorem State.places_setPort (s : State) (p : Port) (v : ChainPort) : (s.setPort p v).places = s.places := by cases p <;> rfl
@[simp] theorem State.release_setPort (s : State) (p : Port) (v : ChainPort) : (s.setPort p v).release = s.release := by cases p <;> rfl
@[simp] theorem State.handover_setPort (s : State) (p : Port) (v : ChainPort) : (s.setPort p v).handover = s.handover := by cases p <;> rfl
@[simp] theorem State.lifts_setPort (s : State) (p : Port) (v : ChainPort) : (s.setPort p v).lifts = s.lifts := by cases p <;> rfl
@[simp] theorem State.entry_setPort (s : State) (p : Port) (v : ChainPort) : (s.setPort p v).entry = s.entry := by cases p <;> rfl
@[simp] theorem State.store_setPort (s : State) (p : Port) (v : ChainPort) : (s.setPort p v).store = s.store := by cases p <;> rfl

@[simp] theorem State.pending_updatePort (s : State) (p : Port) (f : ChainPort → ChainPort) : (s.updatePort p f).pending = s.pending := by cases p <;> rfl
@[simp] theorem State.wake_updatePort (s : State) (p : Port) (f : ChainPort → ChainPort) : (s.updatePort p f).wake = s.wake := by cases p <;> rfl
@[simp] theorem State.freeCount_updatePort (s : State) (p : Port) (f : ChainPort → ChainPort) : (s.updatePort p f).freeCount = s.freeCount := by cases p <;> rfl
@[simp] theorem State.sent_updatePort (s : State) (p : Port) (f : ChainPort → ChainPort) : (s.updatePort p f).sent = s.sent := by cases p <;> rfl
@[simp] theorem State.mode_updatePort (s : State) (p : Port) (f : ChainPort → ChainPort) : (s.updatePort p f).mode = s.mode := by cases p <;> rfl
@[simp] theorem State.lines_updatePort (s : State) (p : Port) (f : ChainPort → ChainPort) : (s.updatePort p f).lines = s.lines := by cases p <;> rfl
@[simp] theorem State.board_updatePort (s : State) (p : Port) (f : ChainPort → ChainPort) : (s.updatePort p f).board = s.board := by cases p <;> rfl
@[simp] theorem State.conditions_updatePort (s : State) (p : Port) (f : ChainPort → ChainPort) : (s.updatePort p f).conditions = s.conditions := by cases p <;> rfl
@[simp] theorem State.contexts_updatePort (s : State) (p : Port) (f : ChainPort → ChainPort) : (s.updatePort p f).contexts = s.contexts := by cases p <;> rfl
@[simp] theorem State.places_updatePort (s : State) (p : Port) (f : ChainPort → ChainPort) : (s.updatePort p f).places = s.places := by cases p <;> rfl
@[simp] theorem State.release_updatePort (s : State) (p : Port) (f : ChainPort → ChainPort) : (s.updatePort p f).release = s.release := by cases p <;> rfl
@[simp] theorem State.handover_updatePort (s : State) (p : Port) (f : ChainPort → ChainPort) : (s.updatePort p f).handover = s.handover := by cases p <;> rfl
@[simp] theorem State.lifts_updatePort (s : State) (p : Port) (f : ChainPort → ChainPort) : (s.updatePort p f).lifts = s.lifts := by cases p <;> rfl
@[simp] theorem State.entry_updatePort (s : State) (p : Port) (f : ChainPort → ChainPort) : (s.updatePort p f).entry = s.entry := by cases p <;> rfl
@[simp] theorem State.store_updatePort (s : State) (p : Port) (f : ChainPort → ChainPort) : (s.updatePort p f).store = s.store := by cases p <;> rfl

@[simp] theorem State.pending_setLift (s : State) (x : Side) (l : Lift) : (s.setLift x l).pending = s.pending := rfl
@[simp] theorem State.wake_setLift (s : State) (x : Side) (l : Lift) : (s.setLift x l).wake = s.wake := rfl
@[simp] theorem State.freeCount_setLift (s : State) (x : Side) (l : Lift) : (s.setLift x l).freeCount = s.freeCount := rfl
@[simp] theorem State.sent_setLift (s : State) (x : Side) (l : Lift) : (s.setLift x l).sent = s.sent := rfl
@[simp] theorem State.mode_setLift (s : State) (x : Side) (l : Lift) : (s.setLift x l).mode = s.mode := rfl
@[simp] theorem State.lines_setLift (s : State) (x : Side) (l : Lift) : (s.setLift x l).lines = s.lines := rfl
@[simp] theorem State.board_setLift (s : State) (x : Side) (l : Lift) : (s.setLift x l).board = s.board := rfl
@[simp] theorem State.conditions_setLift (s : State) (x : Side) (l : Lift) : (s.setLift x l).conditions = s.conditions := rfl
@[simp] theorem State.contexts_setLift (s : State) (x : Side) (l : Lift) : (s.setLift x l).contexts = s.contexts := rfl
@[simp] theorem State.places_setLift (s : State) (x : Side) (l : Lift) : (s.setLift x l).places = s.places := rfl
@[simp] theorem State.release_setLift (s : State) (x : Side) (l : Lift) : (s.setLift x l).release = s.release := rfl
@[simp] theorem State.handover_setLift (s : State) (x : Side) (l : Lift) : (s.setLift x l).handover = s.handover := rfl
@[simp] theorem State.chain_setLift (s : State) (x : Side) (l : Lift) : (s.setLift x l).chain = s.chain := rfl
@[simp] theorem State.entry_setLift (s : State) (x : Side) (l : Lift) : (s.setLift x l).entry = s.entry := rfl
@[simp] theorem State.store_setLift (s : State) (x : Side) (l : Lift) : (s.setLift x l).store = s.store := rfl

@[simp] theorem State.pending_updateLift (s : State) (x : Side) (f : Lift → Lift) : (s.updateLift x f).pending = s.pending := rfl
@[simp] theorem State.wake_updateLift (s : State) (x : Side) (f : Lift → Lift) : (s.updateLift x f).wake = s.wake := rfl
@[simp] theorem State.freeCount_updateLift (s : State) (x : Side) (f : Lift → Lift) : (s.updateLift x f).freeCount = s.freeCount := rfl
@[simp] theorem State.sent_updateLift (s : State) (x : Side) (f : Lift → Lift) : (s.updateLift x f).sent = s.sent := rfl
@[simp] theorem State.mode_updateLift (s : State) (x : Side) (f : Lift → Lift) : (s.updateLift x f).mode = s.mode := rfl
@[simp] theorem State.lines_updateLift (s : State) (x : Side) (f : Lift → Lift) : (s.updateLift x f).lines = s.lines := rfl
@[simp] theorem State.board_updateLift (s : State) (x : Side) (f : Lift → Lift) : (s.updateLift x f).board = s.board := rfl
@[simp] theorem State.conditions_updateLift (s : State) (x : Side) (f : Lift → Lift) : (s.updateLift x f).conditions = s.conditions := rfl
@[simp] theorem State.contexts_updateLift (s : State) (x : Side) (f : Lift → Lift) : (s.updateLift x f).contexts = s.contexts := rfl
@[simp] theorem State.places_updateLift (s : State) (x : Side) (f : Lift → Lift) : (s.updateLift x f).places = s.places := rfl
@[simp] theorem State.release_updateLift (s : State) (x : Side) (f : Lift → Lift) : (s.updateLift x f).release = s.release := rfl
@[simp] theorem State.handover_updateLift (s : State) (x : Side) (f : Lift → Lift) : (s.updateLift x f).handover = s.handover := rfl
@[simp] theorem State.chain_updateLift (s : State) (x : Side) (f : Lift → Lift) : (s.updateLift x f).chain = s.chain := rfl
@[simp] theorem State.entry_updateLift (s : State) (x : Side) (f : Lift → Lift) : (s.updateLift x f).entry = s.entry := rfl
@[simp] theorem State.store_updateLift (s : State) (x : Side) (f : Lift → Lift) : (s.updateLift x f).store = s.store := rfl

@[simp] theorem State.pending_setRelease (s : State) (r : Release) : (s.setRelease r).pending = s.pending := rfl
@[simp] theorem State.wake_setRelease (s : State) (r : Release) : (s.setRelease r).wake = s.wake := rfl
@[simp] theorem State.freeCount_setRelease (s : State) (r : Release) : (s.setRelease r).freeCount = s.freeCount := rfl
@[simp] theorem State.sent_setRelease (s : State) (r : Release) : (s.setRelease r).sent = s.sent := rfl
@[simp] theorem State.mode_setRelease (s : State) (r : Release) : (s.setRelease r).mode = s.mode := rfl
@[simp] theorem State.lines_setRelease (s : State) (r : Release) : (s.setRelease r).lines = s.lines := rfl
@[simp] theorem State.board_setRelease (s : State) (r : Release) : (s.setRelease r).board = s.board := rfl
@[simp] theorem State.conditions_setRelease (s : State) (r : Release) : (s.setRelease r).conditions = s.conditions := rfl
@[simp] theorem State.contexts_setRelease (s : State) (r : Release) : (s.setRelease r).contexts = s.contexts := rfl
@[simp] theorem State.places_setRelease (s : State) (r : Release) : (s.setRelease r).places = s.places := rfl
@[simp] theorem State.handover_setRelease (s : State) (r : Release) : (s.setRelease r).handover = s.handover := rfl
@[simp] theorem State.lifts_setRelease (s : State) (r : Release) : (s.setRelease r).lifts = s.lifts := rfl
@[simp] theorem State.chain_setRelease (s : State) (r : Release) : (s.setRelease r).chain = s.chain := rfl
@[simp] theorem State.entry_setRelease (s : State) (r : Release) : (s.setRelease r).entry = s.entry := rfl
@[simp] theorem State.store_setRelease (s : State) (r : Release) : (s.setRelease r).store = s.store := rfl

@[simp] theorem State.pending_setBoard (s : State) (b : Board) : (s.setBoard b).pending = s.pending := rfl
@[simp] theorem State.wake_setBoard (s : State) (b : Board) : (s.setBoard b).wake = s.wake := rfl
@[simp] theorem State.freeCount_setBoard (s : State) (b : Board) : (s.setBoard b).freeCount = s.freeCount := rfl
@[simp] theorem State.sent_setBoard (s : State) (b : Board) : (s.setBoard b).sent = s.sent := rfl
@[simp] theorem State.mode_setBoard (s : State) (b : Board) : (s.setBoard b).mode = s.mode := rfl
@[simp] theorem State.lines_setBoard (s : State) (b : Board) : (s.setBoard b).lines = s.lines := rfl
@[simp] theorem State.conditions_setBoard (s : State) (b : Board) : (s.setBoard b).conditions = s.conditions := rfl
@[simp] theorem State.contexts_setBoard (s : State) (b : Board) : (s.setBoard b).contexts = s.contexts := rfl
@[simp] theorem State.places_setBoard (s : State) (b : Board) : (s.setBoard b).places = s.places := rfl
@[simp] theorem State.release_setBoard (s : State) (b : Board) : (s.setBoard b).release = s.release := rfl
@[simp] theorem State.handover_setBoard (s : State) (b : Board) : (s.setBoard b).handover = s.handover := rfl
@[simp] theorem State.lifts_setBoard (s : State) (b : Board) : (s.setBoard b).lifts = s.lifts := rfl
@[simp] theorem State.chain_setBoard (s : State) (b : Board) : (s.setBoard b).chain = s.chain := rfl
@[simp] theorem State.entry_setBoard (s : State) (b : Board) : (s.setBoard b).entry = s.entry := rfl
@[simp] theorem State.store_setBoard (s : State) (b : Board) : (s.setBoard b).store = s.store := rfl

@[simp] theorem State.pending_setEntry (s : State) (e : EntryUnit) : (s.setEntry e).pending = s.pending := rfl
@[simp] theorem State.wake_setEntry (s : State) (e : EntryUnit) : (s.setEntry e).wake = s.wake := rfl
@[simp] theorem State.freeCount_setEntry (s : State) (e : EntryUnit) : (s.setEntry e).freeCount = s.freeCount := rfl
@[simp] theorem State.sent_setEntry (s : State) (e : EntryUnit) : (s.setEntry e).sent = s.sent := rfl
@[simp] theorem State.mode_setEntry (s : State) (e : EntryUnit) : (s.setEntry e).mode = s.mode := rfl
@[simp] theorem State.lines_setEntry (s : State) (e : EntryUnit) : (s.setEntry e).lines = s.lines := rfl
@[simp] theorem State.board_setEntry (s : State) (e : EntryUnit) : (s.setEntry e).board = s.board := rfl
@[simp] theorem State.conditions_setEntry (s : State) (e : EntryUnit) : (s.setEntry e).conditions = s.conditions := rfl
@[simp] theorem State.contexts_setEntry (s : State) (e : EntryUnit) : (s.setEntry e).contexts = s.contexts := rfl
@[simp] theorem State.places_setEntry (s : State) (e : EntryUnit) : (s.setEntry e).places = s.places := rfl
@[simp] theorem State.release_setEntry (s : State) (e : EntryUnit) : (s.setEntry e).release = s.release := rfl
@[simp] theorem State.handover_setEntry (s : State) (e : EntryUnit) : (s.setEntry e).handover = s.handover := rfl
@[simp] theorem State.lifts_setEntry (s : State) (e : EntryUnit) : (s.setEntry e).lifts = s.lifts := rfl
@[simp] theorem State.chain_setEntry (s : State) (e : EntryUnit) : (s.setEntry e).chain = s.chain := rfl
@[simp] theorem State.store_setEntry (s : State) (e : EntryUnit) : (s.setEntry e).store = s.store := rfl

@[simp] theorem State.pending_setStore (s : State) (st : Store) : (s.setStore st).pending = s.pending := rfl
@[simp] theorem State.wake_setStore (s : State) (st : Store) : (s.setStore st).wake = s.wake := rfl
@[simp] theorem State.freeCount_setStore (s : State) (st : Store) : (s.setStore st).freeCount = s.freeCount := rfl
@[simp] theorem State.sent_setStore (s : State) (st : Store) : (s.setStore st).sent = s.sent := rfl
@[simp] theorem State.mode_setStore (s : State) (st : Store) : (s.setStore st).mode = s.mode := rfl
@[simp] theorem State.lines_setStore (s : State) (st : Store) : (s.setStore st).lines = s.lines := rfl
@[simp] theorem State.board_setStore (s : State) (st : Store) : (s.setStore st).board = s.board := rfl
@[simp] theorem State.conditions_setStore (s : State) (st : Store) : (s.setStore st).conditions = s.conditions := rfl
@[simp] theorem State.contexts_setStore (s : State) (st : Store) : (s.setStore st).contexts = s.contexts := rfl
@[simp] theorem State.places_setStore (s : State) (st : Store) : (s.setStore st).places = s.places := rfl
@[simp] theorem State.release_setStore (s : State) (st : Store) : (s.setStore st).release = s.release := rfl
@[simp] theorem State.handover_setStore (s : State) (st : Store) : (s.setStore st).handover = s.handover := rfl
@[simp] theorem State.lifts_setStore (s : State) (st : Store) : (s.setStore st).lifts = s.lifts := rfl
@[simp] theorem State.chain_setStore (s : State) (st : Store) : (s.setStore st).chain = s.chain := rfl
@[simp] theorem State.entry_setStore (s : State) (st : Store) : (s.setStore st).entry = s.entry := rfl

@[simp] theorem State.pending_setMem (s : State) (m : List Host.Cell) : (s.setMem m).pending = s.pending := rfl
@[simp] theorem State.wake_setMem (s : State) (m : List Host.Cell) : (s.setMem m).wake = s.wake := rfl
@[simp] theorem State.freeCount_setMem (s : State) (m : List Host.Cell) : (s.setMem m).freeCount = s.freeCount := rfl
@[simp] theorem State.sent_setMem (s : State) (m : List Host.Cell) : (s.setMem m).sent = s.sent := rfl
@[simp] theorem State.mode_setMem (s : State) (m : List Host.Cell) : (s.setMem m).mode = s.mode := rfl
@[simp] theorem State.lines_setMem (s : State) (m : List Host.Cell) : (s.setMem m).lines = s.lines := rfl
@[simp] theorem State.conditions_setMem (s : State) (m : List Host.Cell) : (s.setMem m).conditions = s.conditions := rfl
@[simp] theorem State.contexts_setMem (s : State) (m : List Host.Cell) : (s.setMem m).contexts = s.contexts := rfl
@[simp] theorem State.places_setMem (s : State) (m : List Host.Cell) : (s.setMem m).places = s.places := rfl
@[simp] theorem State.release_setMem (s : State) (m : List Host.Cell) : (s.setMem m).release = s.release := rfl
@[simp] theorem State.handover_setMem (s : State) (m : List Host.Cell) : (s.setMem m).handover = s.handover := rfl
@[simp] theorem State.lifts_setMem (s : State) (m : List Host.Cell) : (s.setMem m).lifts = s.lifts := rfl
@[simp] theorem State.chain_setMem (s : State) (m : List Host.Cell) : (s.setMem m).chain = s.chain := rfl
@[simp] theorem State.entry_setMem (s : State) (m : List Host.Cell) : (s.setMem m).entry = s.entry := rfl
@[simp] theorem State.store_setMem (s : State) (m : List Host.Cell) : (s.setMem m).store = s.store := rfl


@[simp] theorem State.pending_tell (s : State) (r : Retry) : (s.tell r).pending = s.pending := by unfold State.tell; split <;> rfl
@[simp] theorem State.freeCount_tell (s : State) (r : Retry) : (s.tell r).freeCount = s.freeCount := by unfold State.tell; split <;> rfl
@[simp] theorem State.sent_tell (s : State) (r : Retry) : (s.tell r).sent = s.sent := by unfold State.tell; split <;> rfl
@[simp] theorem State.mode_tell (s : State) (r : Retry) : (s.tell r).mode = s.mode := by unfold State.tell; split <;> rfl
@[simp] theorem State.lines_tell (s : State) (r : Retry) : (s.tell r).lines = s.lines := by unfold State.tell; split <;> rfl
@[simp] theorem State.board_tell (s : State) (r : Retry) : (s.tell r).board = s.board := by unfold State.tell; split <;> rfl
@[simp] theorem State.conditions_tell (s : State) (r : Retry) : (s.tell r).conditions = s.conditions := by unfold State.tell; split <;> rfl
@[simp] theorem State.contexts_tell (s : State) (r : Retry) : (s.tell r).contexts = s.contexts := by unfold State.tell; split <;> rfl
@[simp] theorem State.places_tell (s : State) (r : Retry) : (s.tell r).places = s.places := by unfold State.tell; split <;> rfl
@[simp] theorem State.release_tell (s : State) (r : Retry) : (s.tell r).release = s.release := by unfold State.tell; split <;> rfl
@[simp] theorem State.handover_tell (s : State) (r : Retry) : (s.tell r).handover = s.handover := by unfold State.tell; split <;> rfl
@[simp] theorem State.lifts_tell (s : State) (r : Retry) : (s.tell r).lifts = s.lifts := by unfold State.tell; split <;> rfl
@[simp] theorem State.chain_tell (s : State) (r : Retry) : (s.tell r).chain = s.chain := by unfold State.tell; split <;> rfl
@[simp] theorem State.entry_tell (s : State) (r : Retry) : (s.tell r).entry = s.entry := by unfold State.tell; split <;> rfl
@[simp] theorem State.store_tell (s : State) (r : Retry) : (s.tell r).store = s.store := by unfold State.tell; split <;> rfl

@[simp] theorem State.pending_transmit (s : State) (f : Frame) : (s.transmit f).pending = s.pending := rfl
@[simp] theorem State.wake_transmit (s : State) (f : Frame) : (s.transmit f).wake = s.wake := rfl
@[simp] theorem State.freeCount_transmit (s : State) (f : Frame) : (s.transmit f).freeCount = s.freeCount := rfl
@[simp] theorem State.mode_transmit (s : State) (f : Frame) : (s.transmit f).mode = s.mode := rfl
@[simp] theorem State.lines_transmit (s : State) (f : Frame) : (s.transmit f).lines = s.lines := rfl
@[simp] theorem State.board_transmit (s : State) (f : Frame) : (s.transmit f).board = s.board := rfl
@[simp] theorem State.conditions_transmit (s : State) (f : Frame) : (s.transmit f).conditions = s.conditions := rfl
@[simp] theorem State.contexts_transmit (s : State) (f : Frame) : (s.transmit f).contexts = s.contexts := rfl
@[simp] theorem State.places_transmit (s : State) (f : Frame) : (s.transmit f).places = s.places := rfl
@[simp] theorem State.release_transmit (s : State) (f : Frame) : (s.transmit f).release = s.release := rfl
@[simp] theorem State.handover_transmit (s : State) (f : Frame) : (s.transmit f).handover = s.handover := rfl
@[simp] theorem State.lifts_transmit (s : State) (f : Frame) : (s.transmit f).lifts = s.lifts := rfl
@[simp] theorem State.chain_transmit (s : State) (f : Frame) : (s.transmit f).chain = s.chain := rfl
@[simp] theorem State.entry_transmit (s : State) (f : Frame) : (s.transmit f).entry = s.entry := rfl
@[simp] theorem State.store_transmit (s : State) (f : Frame) : (s.transmit f).store = s.store := rfl

@[simp] theorem State.pending_setCond (s : State) (src : Nat) (e : CondEntry) : (s.setCond src e).pending = s.pending := rfl
@[simp] theorem State.wake_setCond (s : State) (src : Nat) (e : CondEntry) : (s.setCond src e).wake = s.wake := rfl
@[simp] theorem State.freeCount_setCond (s : State) (src : Nat) (e : CondEntry) : (s.setCond src e).freeCount = s.freeCount := rfl
@[simp] theorem State.sent_setCond (s : State) (src : Nat) (e : CondEntry) : (s.setCond src e).sent = s.sent := rfl
@[simp] theorem State.mode_setCond (s : State) (src : Nat) (e : CondEntry) : (s.setCond src e).mode = s.mode := rfl
@[simp] theorem State.lines_setCond (s : State) (src : Nat) (e : CondEntry) : (s.setCond src e).lines = s.lines := rfl
@[simp] theorem State.board_setCond (s : State) (src : Nat) (e : CondEntry) : (s.setCond src e).board = s.board := rfl
@[simp] theorem State.contexts_setCond (s : State) (src : Nat) (e : CondEntry) : (s.setCond src e).contexts = s.contexts := rfl
@[simp] theorem State.places_setCond (s : State) (src : Nat) (e : CondEntry) : (s.setCond src e).places = s.places := rfl
@[simp] theorem State.release_setCond (s : State) (src : Nat) (e : CondEntry) : (s.setCond src e).release = s.release := rfl
@[simp] theorem State.handover_setCond (s : State) (src : Nat) (e : CondEntry) : (s.setCond src e).handover = s.handover := rfl
@[simp] theorem State.lifts_setCond (s : State) (src : Nat) (e : CondEntry) : (s.setCond src e).lifts = s.lifts := rfl
@[simp] theorem State.chain_setCond (s : State) (src : Nat) (e : CondEntry) : (s.setCond src e).chain = s.chain := rfl
@[simp] theorem State.entry_setCond (s : State) (src : Nat) (e : CondEntry) : (s.setCond src e).entry = s.entry := rfl
@[simp] theorem State.store_setCond (s : State) (src : Nat) (e : CondEntry) : (s.setCond src e).store = s.store := rfl

@[simp] theorem State.pending_raise (s : State) (src : Nat) (c : Cond) (a b : Byte) : (s.raise src c a b).pending = s.pending := rfl
@[simp] theorem State.wake_raise (s : State) (src : Nat) (c : Cond) (a b : Byte) : (s.raise src c a b).wake = s.wake := rfl
@[simp] theorem State.freeCount_raise (s : State) (src : Nat) (c : Cond) (a b : Byte) : (s.raise src c a b).freeCount = s.freeCount := rfl
@[simp] theorem State.sent_raise (s : State) (src : Nat) (c : Cond) (a b : Byte) : (s.raise src c a b).sent = s.sent := rfl
@[simp] theorem State.mode_raise (s : State) (src : Nat) (c : Cond) (a b : Byte) : (s.raise src c a b).mode = s.mode := rfl
@[simp] theorem State.lines_raise (s : State) (src : Nat) (c : Cond) (a b : Byte) : (s.raise src c a b).lines = s.lines := rfl
@[simp] theorem State.board_raise (s : State) (src : Nat) (c : Cond) (a b : Byte) : (s.raise src c a b).board = s.board := rfl
@[simp] theorem State.contexts_raise (s : State) (src : Nat) (c : Cond) (a b : Byte) : (s.raise src c a b).contexts = s.contexts := rfl
@[simp] theorem State.places_raise (s : State) (src : Nat) (c : Cond) (a b : Byte) : (s.raise src c a b).places = s.places := rfl
@[simp] theorem State.release_raise (s : State) (src : Nat) (c : Cond) (a b : Byte) : (s.raise src c a b).release = s.release := rfl
@[simp] theorem State.handover_raise (s : State) (src : Nat) (c : Cond) (a b : Byte) : (s.raise src c a b).handover = s.handover := rfl
@[simp] theorem State.lifts_raise (s : State) (src : Nat) (c : Cond) (a b : Byte) : (s.raise src c a b).lifts = s.lifts := rfl
@[simp] theorem State.chain_raise (s : State) (src : Nat) (c : Cond) (a b : Byte) : (s.raise src c a b).chain = s.chain := rfl
@[simp] theorem State.entry_raise (s : State) (src : Nat) (c : Cond) (a b : Byte) : (s.raise src c a b).entry = s.entry := rfl
@[simp] theorem State.store_raise (s : State) (src : Nat) (c : Cond) (a b : Byte) : (s.raise src c a b).store = s.store := rfl

@[simp] theorem State.pending_writeMirror (s : State) (p : Nat) : (s.writeMirror p).pending = s.pending := rfl
@[simp] theorem State.wake_writeMirror (s : State) (p : Nat) : (s.writeMirror p).wake = s.wake := rfl
@[simp] theorem State.freeCount_writeMirror (s : State) (p : Nat) : (s.writeMirror p).freeCount = s.freeCount := rfl
@[simp] theorem State.sent_writeMirror (s : State) (p : Nat) : (s.writeMirror p).sent = s.sent := rfl
@[simp] theorem State.mode_writeMirror (s : State) (p : Nat) : (s.writeMirror p).mode = s.mode := rfl
@[simp] theorem State.lines_writeMirror (s : State) (p : Nat) : (s.writeMirror p).lines = s.lines := rfl
@[simp] theorem State.conditions_writeMirror (s : State) (p : Nat) : (s.writeMirror p).conditions = s.conditions := rfl
@[simp] theorem State.contexts_writeMirror (s : State) (p : Nat) : (s.writeMirror p).contexts = s.contexts := rfl
@[simp] theorem State.places_writeMirror (s : State) (p : Nat) : (s.writeMirror p).places = s.places := rfl
@[simp] theorem State.release_writeMirror (s : State) (p : Nat) : (s.writeMirror p).release = s.release := rfl
@[simp] theorem State.handover_writeMirror (s : State) (p : Nat) : (s.writeMirror p).handover = s.handover := rfl
@[simp] theorem State.lifts_writeMirror (s : State) (p : Nat) : (s.writeMirror p).lifts = s.lifts := rfl
@[simp] theorem State.chain_writeMirror (s : State) (p : Nat) : (s.writeMirror p).chain = s.chain := rfl
@[simp] theorem State.entry_writeMirror (s : State) (p : Nat) : (s.writeMirror p).entry = s.entry := rfl
@[simp] theorem State.store_writeMirror (s : State) (p : Nat) : (s.writeMirror p).store = s.store := rfl
@[simp] theorem State.pending_copyMirror (s old : State) (p : Nat) : (s.copyMirror old p).pending = s.pending := by
  unfold State.copyMirror; split <;> rfl
@[simp] theorem State.wake_copyMirror (s old : State) (p : Nat) : (s.copyMirror old p).wake = s.wake := by
  unfold State.copyMirror; split <;> rfl
@[simp] theorem State.freeCount_copyMirror (s old : State) (p : Nat) : (s.copyMirror old p).freeCount = s.freeCount := by
  unfold State.copyMirror; split <;> rfl
@[simp] theorem State.sent_copyMirror (s old : State) (p : Nat) : (s.copyMirror old p).sent = s.sent := by
  unfold State.copyMirror; split <;> rfl
@[simp] theorem State.mode_copyMirror (s old : State) (p : Nat) : (s.copyMirror old p).mode = s.mode := by
  unfold State.copyMirror; split <;> rfl
@[simp] theorem State.lines_copyMirror (s old : State) (p : Nat) : (s.copyMirror old p).lines = s.lines := by
  unfold State.copyMirror; split <;> rfl
@[simp] theorem State.conditions_copyMirror (s old : State) (p : Nat) : (s.copyMirror old p).conditions = s.conditions := by
  unfold State.copyMirror; split <;> rfl
@[simp] theorem State.contexts_copyMirror (s old : State) (p : Nat) : (s.copyMirror old p).contexts = s.contexts := by
  unfold State.copyMirror; split <;> rfl
@[simp] theorem State.places_copyMirror (s old : State) (p : Nat) : (s.copyMirror old p).places = s.places := by
  unfold State.copyMirror; split <;> rfl
@[simp] theorem State.release_copyMirror (s old : State) (p : Nat) : (s.copyMirror old p).release = s.release := by
  unfold State.copyMirror; split <;> rfl
@[simp] theorem State.handover_copyMirror (s old : State) (p : Nat) : (s.copyMirror old p).handover = s.handover := by
  unfold State.copyMirror; split <;> rfl
@[simp] theorem State.lifts_copyMirror (s old : State) (p : Nat) : (s.copyMirror old p).lifts = s.lifts := by
  unfold State.copyMirror; split <;> rfl
@[simp] theorem State.chain_copyMirror (s old : State) (p : Nat) : (s.copyMirror old p).chain = s.chain := by
  unfold State.copyMirror; split <;> rfl
@[simp] theorem State.entry_copyMirror (s old : State) (p : Nat) : (s.copyMirror old p).entry = s.entry := by
  unfold State.copyMirror; split <;> rfl
@[simp] theorem State.store_copyMirror (s old : State) (p : Nat) : (s.copyMirror old p).store = s.store := by
  unfold State.copyMirror; split <;> rfl

@[simp] theorem State.contexts_setContext (s : State) (n : Nat) (c : Option Context) :
    (s.setContext n c).contexts = s.contexts.setIfInBounds n c := rfl
@[simp] theorem State.handover_setHeld (s : State) (l : List HeldAsk) :
    (s.setHeld l).handover = { s.handover with held := l } := rfl
@[simp] theorem State.lifts_setLift (s : State) (x : Side) (l : Lift) : (s.setLift x l).lifts = s.lifts.set x l := rfl
@[simp] theorem State.release_setRelease (s : State) (r : Release) : (s.setRelease r).release = r := rfl
@[simp] theorem State.board_setBoard (s : State) (b : Board) : (s.setBoard b).board = b := rfl
@[simp] theorem State.entry_setEntry (s : State) (e : EntryUnit) : (s.setEntry e).entry = e := rfl
@[simp] theorem State.store_setStore (s : State) (st : Store) : (s.setStore st).store = st := rfl
@[simp] theorem State.board_setMem (s : State) (m : List Host.Cell) : (s.setMem m).board = { s.board with mem := m } := rfl
@[simp] theorem State.pending_raiseDue (s : State) : s.raiseDue.pending = s.pending := by unfold State.raiseDue; split <;> rfl
@[simp] theorem State.wake_raiseDue (s : State) : s.raiseDue.wake = s.wake := by unfold State.raiseDue; split <;> rfl
@[simp] theorem State.freeCount_raiseDue (s : State) : s.raiseDue.freeCount = s.freeCount := by unfold State.raiseDue; split <;> rfl
@[simp] theorem State.mode_raiseDue (s : State) : s.raiseDue.mode = s.mode := by unfold State.raiseDue; split <;> rfl
@[simp] theorem State.lines_raiseDue (s : State) : s.raiseDue.lines = s.lines := by unfold State.raiseDue; split <;> rfl
@[simp] theorem State.board_raiseDue (s : State) : s.raiseDue.board = s.board := by unfold State.raiseDue; split <;> rfl
@[simp] theorem State.contexts_raiseDue (s : State) : s.raiseDue.contexts = s.contexts := by unfold State.raiseDue; split <;> rfl
@[simp] theorem State.places_raiseDue (s : State) : s.raiseDue.places = s.places := by unfold State.raiseDue; split <;> rfl
@[simp] theorem State.release_raiseDue (s : State) : s.raiseDue.release = s.release := by unfold State.raiseDue; split <;> rfl
@[simp] theorem State.handover_raiseDue (s : State) : s.raiseDue.handover = s.handover := by unfold State.raiseDue; split <;> rfl
@[simp] theorem State.lifts_raiseDue (s : State) : s.raiseDue.lifts = s.lifts := by unfold State.raiseDue; split <;> rfl
@[simp] theorem State.chain_raiseDue (s : State) : s.raiseDue.chain = s.chain := by unfold State.raiseDue; split <;> rfl
@[simp] theorem State.entry_raiseDue (s : State) : s.raiseDue.entry = s.entry := by unfold State.raiseDue; split <;> rfl
@[simp] theorem State.sent_raiseDue (s : State) : s.raiseDue.sent = s.sent := by unfold State.raiseDue; split <;> rfl
/-- Where no NO_PROFILE is due, nothing is raised (R171). -/
theorem State.raiseDue_of_reported {s : State} (h : s.store.noProfileDue = false) : s.raiseDue = s := by
  simp [State.raiseDue, h]
/-- In INIT nothing is raised (R171). -/
theorem State.raiseDue_of_init {s : State} (h : s.mode = .init) : s.raiseDue = s := by
  simp [State.raiseDue, h]
/-- A NO_PROFILE that is due is raised once the mode is not INIT (R171). -/
theorem State.raiseDue_of_due {s : State} (h : s.mode ≠ .init) (d : s.store.noProfileDue = true) :
    s.raiseDue = (s.setStore { s.store with noProfileDue := false }).raise srcStore .noProfile 0x00 0x00 := by
  simp [State.raiseDue, h, d]
theorem State.begin_of_reported {s : State} (h : s.store.noProfileDue = false) : s.begin = { s with sent := [] } := by
  rw [State.begin, State.raiseDue_of_reported h]
theorem State.begin_of_init {s : State} (h : s.mode = .init) : s.begin = { s with sent := [] } := by
  rw [State.begin, State.raiseDue_of_init h]
@[simp] theorem State.pending_begin (s : State) : s.begin.pending = s.pending := State.pending_raiseDue s
@[simp] theorem State.wake_begin (s : State) : s.begin.wake = s.wake := State.wake_raiseDue s
@[simp] theorem State.freeCount_begin (s : State) : s.begin.freeCount = s.freeCount := State.freeCount_raiseDue s
@[simp] theorem State.mode_begin (s : State) : s.begin.mode = s.mode := State.mode_raiseDue s
@[simp] theorem State.lines_begin (s : State) : s.begin.lines = s.lines := State.lines_raiseDue s
@[simp] theorem State.board_begin (s : State) : s.begin.board = s.board := State.board_raiseDue s
@[simp] theorem State.contexts_begin (s : State) : s.begin.contexts = s.contexts := State.contexts_raiseDue s
@[simp] theorem State.places_begin (s : State) : s.begin.places = s.places := State.places_raiseDue s
@[simp] theorem State.release_begin (s : State) : s.begin.release = s.release := State.release_raiseDue s
@[simp] theorem State.handover_begin (s : State) : s.begin.handover = s.handover := State.handover_raiseDue s
@[simp] theorem State.lifts_begin (s : State) : s.begin.lifts = s.lifts := State.lifts_raiseDue s
@[simp] theorem State.chain_begin (s : State) : s.begin.chain = s.chain := State.chain_raiseDue s
@[simp] theorem State.entry_begin (s : State) : s.begin.entry = s.entry := State.entry_raiseDue s
@[simp] theorem State.sent_begin (s : State) : s.begin.sent = [] := rfl
@[simp] theorem State.sent_transmit (s : State) (f : Frame) : (s.transmit f).sent = s.sent ++ [f] := rfl
@[simp] theorem State.conditions_setCond (s : State) (src : Nat) (e : CondEntry) :
    (s.setCond src e).conditions = s.conditions.setIfInBounds src e := rfl
@[simp] theorem State.conditions_raise (s : State) (src : Nat) (c : Cond) (a b : Byte) :
    (s.raise src c a b).conditions = s.conditions.setIfInBounds src ((s.cond src).raised c a b s.stamp) := rfl

/-- A context that is set reads back. -/
@[simp] theorem State.ctx_setContext_self (s : State) (n : Nat) (c : Option Context) (h : n < 128) :
    (s.setContext n c).ctx n = c := by
  simp [State.ctx, State.setContext, h]

/-- Another context stays. -/
theorem State.ctx_setContext_ne (s : State) (n m : Nat) (c : Option Context) (h : n ≠ m) :
    (s.setContext n c).ctx m = s.ctx m := by
  simp [State.ctx, State.setContext, Vector.getElem?_setIfInBounds_ne, h]

/-- A context is live only below 128. -/
theorem State.ctx_lt (s : State) (n : Nat) (c : Context) (h : s.ctx n = some c) : n < 128 := by
  by_contra hn
  simp [State.ctx, Vector.getElem?_eq_none (Nat.le_of_not_lt hn)] at h

@[simp] theorem PerSide.get_set_self {α : Type} (p : PerSide α) (x : Side) (v : α) : (p.set x v).get x = v := by
  cases x <;> rfl

theorem PerSide.get_set_ne {α : Type} (p : PerSide α) (x y : Side) (v : α) (h : x ≠ y) :
    (p.set x v).get y = p.get y := by
  cases x <;> cases y <;> first | rfl | exact absurd rfl h

@[simp] theorem State.lift_setLift_self (s : State) (x : Side) (l : Lift) : (s.setLift x l).lift x = l :=
  PerSide.get_set_self _ _ _

@[simp] theorem State.lift_updateLift_self (s : State) (x : Side) (f : Lift → Lift) :
    (s.updateLift x f).lift x = f (s.lift x) := PerSide.get_set_self _ _ _

theorem State.lift_setLift_ne (s : State) (x y : Side) (l : Lift) (h : x ≠ y) : (s.setLift x l).lift y = s.lift y :=
  PerSide.get_set_ne _ _ _ _ h

theorem State.lift_updateLift_ne (s : State) (x y : Side) (f : Lift → Lift) (h : x ≠ y) :
    (s.updateLift x f).lift y = s.lift y := PerSide.get_set_ne _ _ _ _ h

@[simp] theorem State.chainPort_setPort_self (s : State) (p : Port) (v : ChainPort) : (s.setPort p v).chainPort p = v := by
  cases p <;> rfl

@[simp] theorem State.chainPort_updatePort_self (s : State) (p : Port) (f : ChainPort → ChainPort) :
    (s.updatePort p f).chainPort p = f (s.chainPort p) := by
  cases p <;> rfl

/-- A condition entry that is set reads back. -/
theorem State.cond_setCond_self (s : State) (src : Nat) (e : CondEntry) (h : src < 48) : (s.setCond src e).cond src = e := by
  simp [State.cond, State.setCond, h]

theorem State.cond_setCond_ne (s : State) (src k : Nat) (e : CondEntry) (h : src ≠ k) :
    (s.setCond src e).cond k = s.cond k := by
  simp [State.cond, State.setCond, Vector.getElem?_setIfInBounds_ne, h]

/-- Copying to the mirror either writes the place's record or leaves the state, whose record is then the old one (R21). -/
theorem State.copyMirror_cases (s old : State) (p : Nat) :
    s.copyMirror old p = s.writeMirror p ∨
      (s.copyMirror old p = s ∧ (s.place p).mirrored = (old.place p).mirrored ∧ s.mirrorRecord p = old.mirrorRecord p) := by
  unfold State.copyMirror
  split
  · exact .inl rfl
  · rename_i h
    simp only [State.mirrorChanged, Bool.or_eq_true, bne_iff_ne, ne_eq, not_or, not_not] at h
    exact .inr ⟨rfl, h⟩

end Sys2Proof.Machine
end

