-- ==== Sys2Proof/Laws/Frame.lean ====
section
/-! SUPPORT. What the neighbours told of a change never alter (R7): one lemma for each of their operations. -/

namespace Sys2Proof.Machine

variable {s : State}

theorem foldl_calm {α : Type} (f : State → α → State) (hf : ∀ t x, (f t x).calm = t.calm) (l : List α) (s : State) :
    (l.foldl f s).calm = s.calm := by
  induction l generalizing s with
  | nil => rfl
  | cons a l ih => exact (ih _).trans (hf _ _)

@[simp] theorem ite_calm {c : Prop} [Decidable c] {a b : State} :
    (if c then a else b).calm = if c then a.calm else b.calm := by split <;> rfl

@[simp] theorem State.setContext_calm (n : Nat) (c : Option Context) : (s.setContext n c).calm = s.calm := rfl
@[simp] theorem State.setGrant_calm (n : Nat) (g : Option Grant) : (s.setGrant n g).calm = s.calm := by cases n <;> rfl
@[simp] theorem State.setHeld_calm (l : List HeldAsk) : (s.setHeld l).calm = s.calm := rfl
theorem map_setIfInBounds_same {α β : Type} {n : Nat} (f : α → β) (v : Vector α n) (i : Nat) (d x : α)
    (h : f x = f ((v[i]?).getD d)) : (v.setIfInBounds i x).map f = v.map f := by
  apply Vector.ext
  intro j hj
  simp only [Vector.getElem_map, Vector.getElem_setIfInBounds]
  split
  · rename_i e
    subst e
    simpa [hj] using h
  · rfl
@[simp] theorem State.setNode_calm (n : Nat) (nd : Node)
    (h : { nd with queue := [] } = { s.node n with queue := [] }) : (s.setNode n nd).calm = s.calm := by
  cases n with
  | zero => rfl
  | succ k =>
    have e := map_setIfInBounds_same (fun nd : Node => { nd with queue := [] }) s.chain.nodes k {} nd h
    simp only [State.calm, State.setNode, e]
@[simp] theorem State.setLift_calm (x : Side) (l : Lift) : (s.setLift x l).calm = s.calm := rfl
@[simp] theorem State.setRelease_calm (r : Release) : (s.setRelease r).calm = s.calm := rfl
@[simp] theorem State.setEntry_calm (e : EntryUnit) : (s.setEntry e).calm = s.calm := rfl
@[simp] theorem State.setMem_calm (m : List Host.Cell) : (s.setMem m).calm = s.calm := rfl
@[simp] theorem State.transmit_calm (f : Frame) : (s.transmit f).calm = s.calm := rfl
/-- The one condition entry a neighbour writes is the entry unit's. -/
@[simp] theorem State.raise_calm (c : Cond) (a b : Byte) : (s.raise srcEntry c a b).calm = s.calm := by
  simp [State.raise, State.setCond, State.calm, srcEntry]
@[simp] theorem State.updateContext_calm (n : Nat) (f : Context → Context) : (s.updateContext n f).calm = s.calm := by
  unfold State.updateContext; (repeat' split) <;> simp
@[simp] theorem State.updateLift_calm (x : Side) (f : Lift → Lift) : (s.updateLift x f).calm = s.calm := by
  unfold State.updateLift; simp
@[simp] theorem State.tell_calm (r : Retry) : (s.tell r).calm = s.calm := by
  unfold State.tell; split <;> rfl
@[simp] theorem State.tellAll_calm (rs : List Retry) : (s.tellAll rs).calm = s.calm := by
  exact foldl_calm _ (fun t r => State.tell_calm r) rs s
@[simp] theorem State.queueNode_calm (level : Nat) (c : ChainCmd) : (s.queueNode level c).calm = s.calm := by
  unfold State.queueNode State.updateNode; split <;> simp
@[simp] theorem State.queueResync_calm (level : Nat) : (s.queueResync level).calm = s.calm := by
  unfold State.queueResync; (repeat' split) <;> simp
@[simp] theorem State.writeMirror_calm (p : Nat) : (s.writeMirror p).calm = s.calm := by
  unfold State.writeMirror; simp
@[simp] theorem State.copyMirror_calm (old : State) (p : Nat) : (s.copyMirror old p).calm = s.calm := by
  unfold State.copyMirror; split <;> simp
@[simp] theorem State.setPlace_calm (p : Nat) (q : Place) (h : q.standing = (s.place p).standing) : (s.setPlace p q).calm = s.calm := by
  have hr : Place.standing (s.retimed p q) = Place.standing (s.place p) := by
    unfold State.retimed; split <;> exact h
  have e := map_setIfInBounds_same Place.standing s.places p {} _ hr
  unfold State.setPlace
  rw [State.copyMirror_calm]; simp only [State.calm, e]
@[simp] theorem State.afterReservation_calm (p : Nat) : (s.afterReservation p).calm = s.calm := by
  unfold State.afterReservation; (repeat' split) <;> simp
@[simp] theorem State.arrive_calm (p : Nat) (e : Entry) : (s.arrive p e).calm = s.calm := by
  have h := State.setPlace_calm (s := s) p { s.place p with entries := s.entries p ++ [e] } rfl
  unfold State.arrive; (try dsimp only); simp [h]
@[simp] theorem State.arriveReserved_calm (p : Nat) (e : Entry) : (s.arriveReserved p e).calm = s.calm := by
  have h := State.setPlace_calm (s := s) p { s.place p with entries := s.entries p ++ [e], res := (s.place p).res - 1 } rfl
  unfold State.arriveReserved; (try dsimp only); simp [h]
@[simp] theorem State.depart_calm (p : Nat) : (s.depart p).calm = s.calm := by
  have h := State.setPlace_calm (s := s) p { s.place p with entries := (s.entries p).tail } rfl
  unfold State.depart; (try dsimp only); (repeat' split) <;> simp [h]
@[simp] theorem State.setEntries_calm (p : Nat) (es : List Entry) : (s.setEntries p es).calm = s.calm := by
  have h := State.setPlace_calm (s := s) p { s.place p with entries := es } rfl
  unfold State.setEntries; (try dsimp only); simp [h]
@[simp] theorem State.reserve_calm (p : Nat) : (s.reserve p).calm = s.calm := by
  have h := State.setPlace_calm (s := s) p { s.place p with res := (s.place p).res + 1 } rfl
  unfold State.reserve; (try dsimp only); simp [h]
@[simp] theorem State.unreserve_calm (p : Nat) : (s.unreserve p).calm = s.calm := by
  have h := State.setPlace_calm (s := s) p { s.place p with res := (s.place p).res - 1 } rfl
  unfold State.unreserve; (try dsimp only); simp [h]
@[simp] theorem State.lockLane_calm (p : Nat) (l : Lock) : (s.lockLane p l).calm = s.calm := by
  have h := State.setPlace_calm (s := s) p { s.place p with lock := l } rfl
  unfold State.lockLane; (try dsimp only); simp [h]
@[simp] theorem State.unlockLane_calm (p : Nat) : (s.unlockLane p).calm = s.calm := by
  have h := State.setPlace_calm (s := s) p { s.place p with lock := .none } rfl
  unfold State.unlockLane; (try dsimp only); simp [h]
@[simp] theorem State.setStatus_calm (p : Nat) (q : Place) (h : q.standing = (s.place p).standing) : (s.setStatus p q).calm = s.calm := by
  unfold State.setStatus; simp [h]
@[simp] theorem State.advance_calm : (s.advance).calm = s.calm := by
  unfold State.advance; (try dsimp only); (repeat' split) <;> simp
@[simp] theorem State.voiding_calm (x : Half) : (s.voiding x).calm = s.calm := by
  unfold State.voiding; (try dsimp only); (repeat' split) <;> simp
@[simp] theorem State.unlist_calm (n : Nat) : (s.unlist n).calm = s.calm := by
  unfold State.unlist; (try dsimp only); simp
@[simp] theorem State.unbind_calm (n : Nat) : (s.unbind n).calm = s.calm := by
  unfold State.unbind; simp
@[simp] theorem State.restStall_calm : (s.restStall).calm = s.calm := by
  unfold State.restStall; (try dsimp only); (repeat' split) <;> simp
@[simp] theorem State.giveUp_calm (n : Nat) (stays : Bool) : (s.giveUp n stays).calm = s.calm := by
  unfold State.giveUp; (try dsimp only); (repeat' split) <;> simp
@[simp] theorem State.writeCard_calm (n i : Nat) (bs : List Byte) : (s.writeCard n i bs).calm = s.calm := by
  unfold State.writeCard; simp
@[simp] theorem State.setCardState_calm (n : Nat) (b : Byte) : (s.setCardState n b).calm = s.calm := by
  unfold State.setCardState; simp
@[simp] theorem State.appendFinish_calm (n : Nat) : (s.appendFinish n).calm = s.calm := by
  rfl
@[simp] theorem State.finishOrder_calm (n : Nat) (final : Byte) (r : ReasonCode) (detail : Byte) (gives : Bool) : (s.finishOrder n final r detail gives).calm = s.calm := by
  cases gives <;> unfold State.finishOrder <;> dsimp only <;> split <;> simp
@[simp] theorem State.dropHeld_calm (level : Nat) : (s.dropHeld level).calm = s.calm := by
  unfold State.dropHeld; refine (foldl_calm _ (fun t a => ?_) _ _).trans rfl; cases a <;> simp
@[simp] theorem State.grantDrop_calm (n : Nat) (c : Context) (level : Nat) (x : Side) (substituted : Bool) : (s.grantDrop n c level x substituted).calm = s.calm := by
  unfold State.grantDrop; (try dsimp only); (repeat' split) <;> simp
@[simp] theorem State.closeDrop_calm (n : Nat) (level : Nat) : (s.closeDrop n level).calm = s.calm := by
  unfold State.closeDrop; simp
@[simp] theorem State.grantTake_calm (level : Nat) (x : Side) (e : Entry) : (s.grantTake level x e).calm = s.calm := by
  unfold State.grantTake; (try dsimp only); (repeat' split) <;> simp
theorem State.tryHeld_calm (a : HeldAsk) (t : State) (e : s.tryHeld a = some t) : t.calm = s.calm := by
  unfold State.tryHeld at e; (repeat' split at e) <;> first | (simp at e; done) | (obtain rfl := Option.some.inj e; simp)
theorem State.walkOver_calm (l : List HeldAsk) : (State.walkOver l s).1.calm = s.calm := by
  induction l generalizing s with
  | nil => rfl
  | cons a l ih =>
    unfold State.walkOver
    split
    · exact ih
    · rename_i t ht
      exact ih.trans (State.tryHeld_calm a t ht)
theorem State.walk_calm (t : State) (e : s.walk = some t) : t.calm = s.calm := by
  unfold State.walk at e
  split at e
  · have hw := State.walkOver_calm (s := s) s.handover.held
    split at e
    · rename_i u hu
      obtain rfl := Option.some.inj e
      rw [hu] at hw; exact hw
    · cases e
  · cases e
@[simp] theorem State.releaseCard_calm (n : Nat) : (s.releaseCard n).calm = s.calm := by
  unfold State.releaseCard; (repeat' split) <;> simp
@[simp] theorem State.releaseHead_calm (x : Side) (e : Entry) : (s.releaseHead x e).calm = s.calm := by
  cases e <;> simp [State.releaseHead]
theorem State.tryMerge_calm  (t : State) (e : s.tryMerge = some t) : t.calm = s.calm := by
  unfold State.tryMerge at e; (repeat' split at e) <;> first | (simp at e; done) | (obtain rfl := Option.some.inj e; simp)
@[simp] theorem State.setMotion_calm (m : Motion) : (s.setMotion m).calm = s.calm := by
  unfold State.setMotion; (try dsimp only); simp
@[simp] theorem State.setDivert_calm (e : Entry) : (s.setDivert e).calm = s.calm := by
  unfold State.setDivert; (try dsimp only); (repeat' split) <;> simp
@[simp] theorem State.closeDivert_calm (n : Nat) (c : Context) : (s.closeDivert n c).calm = s.calm := by
  unfold State.closeDivert; simp
@[simp] theorem State.moveDivert_calm (n : Nat) (c : Context) (x : Side) (substituted : Bool) : (s.moveDivert n c x substituted).calm = s.calm := by
  unfold State.moveDivert; simp
theorem State.divertChoice_calm  (t : State) (e : s.divertChoice = some t) : t.calm = s.calm := by
  unfold State.divertChoice at e; (repeat' split at e) <;> first | (simp at e; done) | (obtain rfl := Option.some.inj e; simp)
theorem State.tryReject_calm  (t : State) (e : s.tryReject = some t) : t.calm = s.calm := by
  unfold State.tryReject at e; (try dsimp only at e); (repeat' split at e) <;> first | (simp at e; done) | (obtain rfl := Option.some.inj e; simp)
@[simp] theorem State.pump_calm (x : Side) : (s.pump x).calm = s.calm := by
  unfold State.pump; (try dsimp only); (repeat' split) <;> simp
@[simp] theorem State.queueLift_calm (x : Side) (c : LiftCmd) : (s.queueLift x c).calm = s.calm := by
  unfold State.queueLift; simp
@[simp] theorem State.wakeLift_calm (x : Side) : (s.wakeLift x).calm = s.calm := by
  unfold State.wakeLift; simp
@[simp] theorem State.sendTrip_calm (x : Side) (p : Plan) : (s.sendTrip x p).calm = s.calm := by
  unfold State.sendTrip; (try dsimp only); simp
theorem State.trySend_calm (x : Side) (t : State) (e : s.trySend x = some t) : t.calm = s.calm := by
  unfold State.trySend at e; (repeat' split at e) <;> first | (simp at e; done) | (obtain rfl := Option.some.inj e; simp)
@[simp] theorem State.handPlan_calm (x : Side) (p : Plan) : (s.handPlan x p).calm = s.calm := by
  unfold State.handPlan; (repeat' split) <;> simp
@[simp] theorem State.endStop_calm (x : Side) (i : Nat) (o : StopOutcome) : (s.endStop x i o).calm = s.calm := by
  unfold State.endStop; simp
@[simp] theorem State.turnBack_calm (n p : Nat) (r : ReasonCode) : (s.turnBack n p r).calm = s.calm := by
  unfold State.turnBack; simp
@[simp] theorem State.passHoldings_calm (x : Side) (st : Stop) : (s.passHoldings x st).calm = s.calm := by
  unfold State.passHoldings; (try dsimp only); (repeat' split) <;> simp
@[simp] theorem State.passQuiet_calm (x : Side) (i : Nat) (st : Stop) : (s.passQuiet x i st).calm = s.calm := by
  unfold State.passQuiet; simp
@[simp] theorem State.passStop_calm (x : Side) (i : Nat) (st : Stop) : (s.passStop x i st).calm = s.calm := by
  unfold State.passStop; simp
@[simp] theorem State.proceedStop_calm (x : Side) (i : Nat) (st : Stop) : (s.proceedStop x i st).calm = s.calm := by
  unfold State.proceedStop; (repeat' split) <;> simp
@[simp] theorem State.takeDecision_calm (x : Side) (i : Nat) (st : Stop) (d : Decision) : (s.takeDecision x i st d).calm = s.calm := by
  unfold State.takeDecision; (repeat' split) <;> simp
theorem State.retest_calm (x : Side) (w : Prompt) (t : State) (e : s.retest x w = some t) : t.calm = s.calm := by
  unfold State.retest at e; (repeat' split at e) <;> first | (simp at e; done) | (obtain rfl := Option.some.inj e; simp)
@[simp] theorem State.planReturns_calm (x : Side) (p : Plan) : (s.planReturns x p).calm = s.calm := by
  unfold State.planReturns; (repeat' split) <;> simp
@[simp] theorem State.reservePlan_calm (p : Plan) : (s.reservePlan p).calm = s.calm := by
  unfold State.reservePlan; exact foldl_calm _ (fun t st => by split <;> simp) _ _
theorem State.tryPlan_calm (x : Side) (t : State) (e : s.tryPlan x = some t) : t.calm = s.calm := by
  unfold State.tryPlan at e; (repeat' split at e) <;> first | (simp at e; done) | (obtain rfl := Option.some.inj e; simp)

/-! ### Settling -/

theorem State.runRetry_calm (r : Retry) (t : State) (e : s.runRetry r = some t) : t.calm = s.calm := by
  cases r
  · exact State.walk_calm t e
  · exact State.tryMerge_calm t e
  · exact State.tryPlan_calm _ t e
  · exact State.retest_calm _ _ t e
  · exact State.trySend_calm _ t e
  · exact State.divertChoice_calm t e
  · exact State.tryReject_calm t e

theorem State.act_calm (r : Retry) : (s.act r).calm = s.calm := by
  unfold State.act
  dsimp only
  cases e : State.runRetry { s with wake := s.wake.filter (fun q => q != r) } r with
  | none => rfl
  | some t => exact (State.runRetry_calm r t e).trans rfl

theorem State.settle_calm (k : Nat) : (State.settle k s).calm = s.calm := by
  induction k generalizing s with
  | zero => rfl
  | succ k ih =>
    unfold State.settle
    split
    · rfl
    · exact ih.trans (State.act_calm _)
    · exact (ih.trans (State.act_calm _)).trans rfl

/-- What no neighbour alters stands after settling as it stood before. -/
@[simp] theorem State.resolved_calm : s.resolved.calm = s.calm := State.settle_calm _

end Sys2Proof.Machine
end

