-- ==== Sys2Proof/Laws/Frames.lean ====
section
/-! SUPPORT. What the receive side makes of the bytes of a whole frame, and of the queue. -/

namespace Sys2Proof.Machine

/-- The bytes of a frame with at most 32 bytes of payload pass the tests of R154 and give the frame back. -/
theorem receivedFrame_frameBytes (f : Frame) (h : f.payload.length ≤ 32) :
    receivedFrame (frameBytes f) = some ⟨f.address, f.kind, f.number, f.payload⟩ := by
  obtain ⟨link, address, kind, number, payload⟩ := f
  simp only at h
  have hl : (byteOf payload.length).toNat = payload.length := by simp [byteOf]; omega
  have hn : (number.setWidth 8 : Byte).toNat < 16 := by
    rw [BitVec.toNat_setWidth]; have := number.isLt; omega
  have hc : (number.setWidth 8 : Byte).setWidth 4 = number := by
    apply BitVec.eq_of_toNat_eq; rw [BitVec.toNat_setWidth, BitVec.toNat_setWidth]; have := number.isLt; omega
  have h4 : 4 + payload.length = payload.length + 1 + 1 + 1 + 1 := by omega
  have hd : frameDiscarded (frameBytes ⟨link, address, kind, number, payload⟩) = false := by
    have := number.isLt
    simp [frameDiscarded, frameBytes, frameLength, frameCheck, hl, h4]
    omega
  simp [receivedFrame, hd]
  simp [frameBytes, frameLength, hl, hc]

/-- Received bytes wait behind the commands already there, and nothing else changes (R108). -/
theorem State.receive_eq (s : State) (l : Link) (bs : List Byte) :
    s.receive l bs = { s with pending := s.pending ++ [linkCommand l bs] } := rfl

/-- What a chain port makes of a frame addressed 00h. -/
theorem linkCommand_chain_frameBytes (p : Port) (f : Frame) (h : f.payload.length ≤ 32) (z : f.address = 0x00) :
    linkCommand (.chain p) (frameBytes f) =
      (nodeCommand p ⟨0x00, f.kind, f.number, f.payload⟩).getD (.relayedFrame p) := by
  simp [linkCommand, chainCommand, receivedFrame_frameBytes f h, z]

/-- What a lift link makes of a frame addressed 00h. -/
theorem linkCommand_lift_frameBytes (x : Side) (f : Frame) (h : f.payload.length ≤ 32) (z : f.address = 0x00) :
    linkCommand (.lift x) (frameBytes f) =
      (liftKindCommand x ⟨0x00, f.kind, f.number, f.payload⟩).getD (.unknownKindFrame x) := by
  simp [linkCommand, liftCommand, receivedFrame_frameBytes f h, z]

end Sys2Proof.Machine
end

