-- ==== Sys2Proof/Laws/Memory.lean ====
section
/-! SUPPORT. What a write of the exchange memory's cells does: it stores its bytes, leaves every other byte, and keeps the
canonical form. -/

namespace Sys2Proof.Machine

theorem Memory.read_append_of_not_mem (m n : List Host.Cell) (x : Nat) (h : ∀ c ∈ m, c.1 ≠ x) :
    Memory.read (m ++ n) x = Memory.read n x := by
  induction m with
  | nil => rfl
  | cons c m ih =>
    have hc : c.1 ≠ x := h c (by simp)
    obtain ⟨k, v⟩ := c
    simp only [List.cons_append, Memory.read]
    rw [if_neg hc]
    exact ih (fun d hd => h d (by simp [hd]))

theorem Memory.read_of_not_mem (m : List Host.Cell) (x : Nat) (h : ∀ c ∈ m, c.1 ≠ x) :
    Memory.read m x = Memory.blank x := by
  simpa [Memory.read] using Memory.read_append_of_not_mem m [] x h

theorem Memory.read_append_of_mem (m n : List Host.Cell) (x : Nat) (h : ∀ c ∈ n, c.1 ≠ x) :
    Memory.read (m ++ n) x = Memory.read m x := by
  induction m with
  | nil => simpa [Memory.read] using Memory.read_of_not_mem n x h
  | cons c m ih =>
    obtain ⟨k, v⟩ := c
    simp only [List.cons_append, Memory.read, ih]

theorem Memory.read_filter (m : List Host.Cell) (p : Host.Cell → Bool) (x : Nat) (h : ∀ c : Host.Cell, c.1 = x → p c = true) :
    Memory.read (m.filter p) x = Memory.read m x := by
  induction m with
  | nil => rfl
  | cons c m ih =>
    obtain ⟨k, v⟩ := c
    by_cases hk : k = x
    · subst hk
      simp [h (k, v) rfl, Memory.read]
    · by_cases hp : p (k, v) = true
      · simp [hp, Memory.read, hk, ih]
      · simp [hp, Memory.read, hk, ih]

theorem Memory.cells_range (a : Nat) (bs : List Byte) : ∀ c ∈ Memory.cells a bs, a ≤ c.1 ∧ c.1 < a + bs.length := by
  induction bs generalizing a with
  | nil => simp [Memory.cells]
  | cons b bs ih =>
    intro c hc
    simp only [Memory.cells] at hc
    have := ih (a + 1) c
    split at hc
    · rcases List.mem_cons.mp hc with rfl | h
      · simp
      · have := this h
        simp only [List.length_cons]; omega
    · have := this hc
      simp only [List.length_cons]; omega

/-- The cells of a block read back its bytes at home addresses. -/
theorem Memory.read_cells (a : Nat) (bs : List Byte) (i : Nat) (h : i < bs.length) (hh : Memory.home (a + i) = true) :
    Memory.read (Memory.cells a bs) (a + i) = bs[i] := by
  induction bs generalizing a i with
  | nil => simp at h
  | cons b bs ih =>
    cases i with
    | zero =>
      simp only [Memory.cells, List.getElem_cons_zero, Nat.add_zero] at hh ⊢
      by_cases hb : b = Memory.blank a
      · rw [if_neg (by simp [hb])]
        rw [Memory.read_of_not_mem]
        · exact hb.symm
        · intro c hc
          have := Memory.cells_range (a + 1) bs c hc
          omega
      · rw [if_pos ⟨hh, hb⟩]
        simp [Memory.read]
    | succ i =>
      have e : a + (i + 1) = (a + 1) + i := by omega
      have hi : i < bs.length := by simpa using h
      rw [e] at hh ⊢
      simp only [Memory.cells, List.getElem_cons_succ]
      split
      · simp only [Memory.read]
        rw [if_neg (by omega)]
        exact ih (a + 1) i hi hh
      · exact ih (a + 1) i hi hh

/-- A byte outside the block written keeps its value. -/
theorem Memory.read_write_outside (m : List Host.Cell) (a : Nat) (bs : List Byte) (x : Nat)
    (h : x < a ∨ a + bs.length ≤ x) : Memory.read (Memory.write m a bs) x = Memory.read m x := by
  have hc : ∀ c ∈ Memory.cells a bs, c.1 ≠ x := fun c hc => by
    have := Memory.cells_range a bs c hc
    omega
  unfold Memory.write
  rcases h with h | h
  · rw [List.append_assoc, Memory.read_append_of_mem]
    · exact Memory.read_filter m _ x (fun c e => by simp; omega)
    · intro c hm
      rcases List.mem_append.mp hm with hm | hm
      · exact hc c hm
      · have := (List.mem_filter.mp hm).2
        simp at this
        omega
  · rw [Memory.read_append_of_not_mem]
    · exact Memory.read_filter m _ x (fun c e => by simp; omega)
    · intro c hm
      rcases List.mem_append.mp hm with hm | hm
      · have := (List.mem_filter.mp hm).2
        simp at this
        omega
      · exact hc c hm

/-- A byte of the block written reads as written, at a home address. -/
theorem Memory.read_write_inside (m : List Host.Cell) (a : Nat) (bs : List Byte) (i : Nat) (h : i < bs.length)
    (hh : Memory.home (a + i) = true) : Memory.read (Memory.write m a bs) (a + i) = bs[i] := by
  unfold Memory.write
  rw [Memory.read_append_of_mem]
  · rw [Memory.read_append_of_not_mem]
    · exact Memory.read_cells a bs i h hh
    · intro c hm
      have := (List.mem_filter.mp hm).2
      simp at this
      omega
  · intro c hm
    have := (List.mem_filter.mp hm).2
    simp at this
    omega

/-- The canonical form, as a proposition. -/
theorem Memory.wf_iff (m : List Host.Cell) :
    Memory.wf m = true ↔
      m.Pairwise (fun c d => c.1 < d.1) ∧ ∀ c ∈ m, Memory.home c.1 = true ∧ c.2 ≠ Memory.blank c.1 := by
  simp [Memory.wf, List.all_eq_true]

theorem Memory.cells_wf (a : Nat) (bs : List Byte) : Memory.wf (Memory.cells a bs) = true := by
  rw [Memory.wf_iff]
  induction bs generalizing a with
  | nil => simp [Memory.cells]
  | cons b bs ih =>
    simp only [Memory.cells]
    obtain ⟨h1, h2⟩ := ih (a + 1)
    split
    · rename_i hb
      refine ⟨List.pairwise_cons.mpr ⟨fun d hd => ?_, h1⟩, fun c hc => ?_⟩
      · have := Memory.cells_range (a + 1) bs d hd
        simp only
        omega
      · rcases List.mem_cons.mp hc with rfl | h
        · exact hb
        · exact h2 c h
    · exact ⟨h1, h2⟩

theorem Memory.filter_wf (m : List Host.Cell) (p : Host.Cell → Bool) (h : Memory.wf m = true) :
    Memory.wf (m.filter p) = true := by
  rw [Memory.wf_iff] at h ⊢
  exact ⟨h.1.filter p, fun c hc => h.2 c (List.mem_filter.mp hc).1⟩

/-- Every write keeps the canonical form. -/
theorem Memory.write_wf (m : List Host.Cell) (a : Nat) (bs : List Byte) (h : Memory.wf m = true) :
    Memory.wf (Memory.write m a bs) = true := by
  have h1 := (Memory.wf_iff _).mp (Memory.filter_wf m (fun c => decide (c.1 < a)) h)
  have h2 := (Memory.wf_iff _).mp (Memory.cells_wf a bs)
  have h3 := (Memory.wf_iff _).mp (Memory.filter_wf m (fun c => decide (a + bs.length ≤ c.1)) h)
  rw [Memory.wf_iff]
  unfold Memory.write
  refine ⟨?_, ?_⟩
  · rw [List.pairwise_append, List.pairwise_append]
    refine ⟨⟨h1.1, h2.1, ?_⟩, h3.1, ?_⟩
    · intro c hc d hd
      have e1 := (List.mem_filter.mp hc).2
      have e2 := Memory.cells_range a bs d hd
      simp at e1
      omega
    · intro c hc d hd
      have e2 := (List.mem_filter.mp hd).2
      simp at e2
      rcases List.mem_append.mp hc with hc | hc
      · have e1 := (List.mem_filter.mp hc).2
        simp at e1
        omega
      · have e1 := Memory.cells_range a bs c hc
        omega
  · intro c hc
    rcases List.mem_append.mp hc with hc | hc
    · rcases List.mem_append.mp hc with hc | hc
      · exact h1.2 c hc
      · exact h2.2 c hc
    · exact h3.2 c hc

end Sys2Proof.Machine
end

