-- ==== Sys2Proof/WellFormed.lean ====
section
/-! DEFINITION. Which commands the outside can express: widths, lengths and ranges of what an event carries. The
meanings are total and do not lean on it; a command that is not well-formed names nothing of the machine. -/

namespace Sys2Proof

/-- An access of the local bus is 1, 2 or 4 bytes wide (R155). -/
def busWidth (n : Nat) : Bool := n == 1 || n == 2 || n == 4

/-- The well-formed commands. -/
def Instr.wellFormed : Instr → Bool
  | .powerOn _ => true
  | .reset _ => true
  | .initEnd => true
  | .noProfile => true
  | .eStopAssert => true
  | .eStopRelease => true
  -- the access lies inside the 32 KiB window (R155)
  | .exchangeWrite offset bytes => busWidth bytes.length && decide (offset.toNat + bytes.length ≤ 0x8000)
  -- a card slot is 0 to 127; a write of 00h is FREE_WRITE (R158)
  | .postedWrite card value => decide (card < 128) && value != 0
  | .freeWrite card => decide (card < 128)
  -- the condition table has 48 entries (R167)
  | .acknowledge index => decide (index < 48)
  | .clearEntry index => decide (index < 48)
  | .requestConfig => true
  | .requestRun => true
  | .requestHold => true
  | .causeWrite _ => true
  | .causeEnableWrite _ => true
  | .registerWrite _ width _ => busWidth width
  | .badKind => true
  | .retrieve => true
  | .store => true
  | .cancel => true
  | .flush => true
  | .skip => true
  | .renumber => true
  | .bar => true
  | .unbarKeep => true
  | .unbarClear => true
  | .retire => true
  | .commit => true
  | .erase => true
  -- the profile area is 138 bytes (10.1)
  | .commitEnd _ readBack => readBack.length == 138
  | .eraseEnd profile _ => profile.length == 138
  | .retireEnd _ => true
  | .dropAsk _ _ _ _ => true
  | .dropDone _ _ _ _ _ => true
  | .dropAbort _ _ _ _ _ => true
  | .takeAsk _ _ _ _ => true
  | .takeDone _ _ _ _ _ => true
  | .takeAbort _ _ _ _ => true
  | .grantTimerExpiry level => decide (1 ≤ level ∧ level ≤ 40)
  | .laneCount _ _ _ _ => true
  | .nothing _ _ => true
  | .overflow _ _ => true
  | .restarted _ _ => true
  | .resyncReport _ _ _ _ _ _ _ => true
  | .ack _ _ _ => true
  | .visit _ => true
  | .exchangeUnanswered _ => true
  | .hello _ => true
  | .checkError _ => true
  | .relayedFrame _ => true
  -- ranges of the lift link's payloads (6.2.1)
  | .status _ level _ => decide (level ≤ 40)
  | .arrived _ _ stop => decide (stop < 256)
  | .stopDone _ _ stop _ => decide (stop < 256)
  | .tripEnd _ _ => true
  | .ready _ => true
  | .parkedAck _ => true
  | .state _ level _ _ _ last _ => decide (level ≤ 40 ∧ last ≤ 8)
  | .fault _ code => code != 0
  | .liftFrameDiscard _ => true
  | .unknownKindFrame _ => true
  | .silenceTimerExpiry _ => true
  | .commandResend _ => true
  | .stateAskRepeat _ => true
  | .parkTimerExpiry _ => true
  | .wakeTimerExpiry _ => true
  | .deadlineExpiry _ => true
  | .entryReaderResult _ => true
  | .entryArrive => true
  | .divertDone => true
  | .entryArriveDeassert => true
  | .rejectFullChange _ => true
  -- a spur count input reads 0 to 3 (R10); the place map has 169 places (R1)
  | .spurCountChange _ count => decide (count ≤ 3)
  | .mismatchTimerExpiry place => decide (place < 169)
  | .exitReadyChange _ => true
  | .exitReaderResult _ => true
  | .pass => true
  | .overdueTimerExpiry => true
  | .stallTimerExpiry => true

end Sys2Proof
end

