-- ==== Sys2Proof/Laws/PerInstr.lean ====
section
/-! SUPPORT. A statement about every command as syntax: what a well-formed command names exists in the machine. One lemma
for each constructor. -/

namespace Sys2Proof.Laws.InRange

/-- The card slot a command names (R158). -/
def namesCard : Instr → Option Nat
  | .postedWrite n _ => some n
  | .freeWrite n => some n
  | _ => none

/-- The condition entry a command names (R167). -/
def namesSource : Instr → Option Nat
  | .acknowledge k => some k
  | .clearEntry k => some k
  | _ => none

/-- The place a command names (R1). -/
def namesPlace : Instr → Option Nat
  | .mismatchTimerExpiry p => some p
  | _ => none

/-- The level a command names by a number (8.1, 6.2.1). -/
def namesLevel : Instr → Option Nat
  | .grantTimerExpiry k => some k
  | .status _ k _ => some k
  | .state _ k _ _ _ _ _ => some k
  | _ => none

/-- The last byte of the window a command writes (R155). -/
def lastByte : Instr → Option Nat
  | .exchangeWrite offset bytes => some (offset.toNat + bytes.length - 1)
  | _ => none

/-- Whatever number satisfies a name is below a bound. -/
def below (o : Option Nat) (b : Nat) : Prop := ∀ n, o = some n → n < b

/-- What a well-formed command names exists. -/
def Statement (i : Instr) : Prop :=
  i.wellFormed = true →
    below (namesCard i) 128 ∧ below (namesSource i) 48 ∧ below (namesPlace i) 169 ∧ below (namesLevel i) 41 ∧ below (lastByte i) 0x8000

/-- Nothing is named. -/
theorem below_none {b : Nat} : below none b := fun _ h => nomatch h

/-- The number named is below the bound. -/
theorem below_some {k b : Nat} (h : k < b) : below (some k) b := fun _ e => Option.some.inj e ▸ h

/-- A command that names nothing. -/
theorem of_nothing {i : Instr} (card : namesCard i = none) (source : namesSource i = none) (place : namesPlace i = none)
    (level : namesLevel i = none) (last : lastByte i = none) : Statement i := fun _ =>
  ⟨card ▸ below_none, source ▸ below_none, place ▸ below_none, level ▸ below_none, last ▸ below_none⟩

theorem powerOn aisle : Statement (.powerOn aisle) := of_nothing rfl rfl rfl rfl rfl
theorem reset aisle : Statement (.reset aisle) := of_nothing rfl rfl rfl rfl rfl
theorem initEnd : Statement (.initEnd) := of_nothing rfl rfl rfl rfl rfl
theorem noProfile : Statement (.noProfile) := of_nothing rfl rfl rfl rfl rfl
theorem eStopAssert : Statement (.eStopAssert) := of_nothing rfl rfl rfl rfl rfl
theorem eStopRelease : Statement (.eStopRelease) := of_nothing rfl rfl rfl rfl rfl
theorem exchangeWrite offset bytes : Statement (.exchangeWrite offset bytes) := fun h =>
  have w : (busWidth bytes.length && decide (offset.toNat + bytes.length ≤ 0x8000)) = true := h
  have fits : offset.toNat + bytes.length ≤ 0x8000 := of_decide_eq_true (Bool.and_eq_true_iff.mp w).2
  have inside : offset.toNat < 0x8000 := offset.isLt
  ⟨below_none, below_none, below_none, below_none, below_some (by omega)⟩
theorem postedWrite card value : Statement (.postedWrite card value) := fun h =>
  have w : (decide (card < 128) && value != 0) = true := h
  ⟨below_some (of_decide_eq_true (Bool.and_eq_true_iff.mp w).1), below_none, below_none, below_none, below_none⟩
theorem freeWrite card : Statement (.freeWrite card) := fun h =>
  ⟨below_some (of_decide_eq_true h), below_none, below_none, below_none, below_none⟩
theorem acknowledge index : Statement (.acknowledge index) := fun h =>
  ⟨below_none, below_some (of_decide_eq_true h), below_none, below_none, below_none⟩
theorem clearEntry index : Statement (.clearEntry index) := fun h =>
  ⟨below_none, below_some (of_decide_eq_true h), below_none, below_none, below_none⟩
theorem requestConfig : Statement (.requestConfig) := of_nothing rfl rfl rfl rfl rfl
theorem requestRun : Statement (.requestRun) := of_nothing rfl rfl rfl rfl rfl
theorem requestHold : Statement (.requestHold) := of_nothing rfl rfl rfl rfl rfl
theorem causeWrite value : Statement (.causeWrite value) := of_nothing rfl rfl rfl rfl rfl
theorem causeEnableWrite value : Statement (.causeEnableWrite value) := of_nothing rfl rfl rfl rfl rfl
theorem registerWrite offset width value : Statement (.registerWrite offset width value) := of_nothing rfl rfl rfl rfl rfl
theorem badKind : Statement (.badKind) := of_nothing rfl rfl rfl rfl rfl
theorem retrieve : Statement (.retrieve) := of_nothing rfl rfl rfl rfl rfl
theorem store : Statement (.store) := of_nothing rfl rfl rfl rfl rfl
theorem cancel : Statement (.cancel) := of_nothing rfl rfl rfl rfl rfl
theorem flush : Statement (.flush) := of_nothing rfl rfl rfl rfl rfl
theorem skip : Statement (.skip) := of_nothing rfl rfl rfl rfl rfl
theorem renumber : Statement (.renumber) := of_nothing rfl rfl rfl rfl rfl
theorem bar : Statement (.bar) := of_nothing rfl rfl rfl rfl rfl
theorem unbarKeep : Statement (.unbarKeep) := of_nothing rfl rfl rfl rfl rfl
theorem unbarClear : Statement (.unbarClear) := of_nothing rfl rfl rfl rfl rfl
theorem retire : Statement (.retire) := of_nothing rfl rfl rfl rfl rfl
theorem commit : Statement (.commit) := of_nothing rfl rfl rfl rfl rfl
theorem erase : Statement (.erase) := of_nothing rfl rfl rfl rfl rfl
theorem commitEnd completed readBack : Statement (.commitEnd completed readBack) := of_nothing rfl rfl rfl rfl rfl
theorem eraseEnd profile slots : Statement (.eraseEnd profile slots) := of_nothing rfl rfl rfl rfl rfl
theorem retireEnd readBack : Statement (.retireEnd readBack) := of_nothing rfl rfl rfl rfl rfl
theorem dropAsk port level number tote : Statement (.dropAsk port level number tote) := of_nothing rfl rfl rfl rfl rfl
theorem dropDone port level number side tote : Statement (.dropDone port level number side tote) := of_nothing rfl rfl rfl rfl rfl
theorem dropAbort port level number side tote : Statement (.dropAbort port level number side tote) := of_nothing rfl rfl rfl rfl rfl
theorem takeAsk port level number side : Statement (.takeAsk port level number side) := of_nothing rfl rfl rfl rfl rfl
theorem takeDone port level number side tote : Statement (.takeDone port level number side tote) := of_nothing rfl rfl rfl rfl rfl
theorem takeAbort port level number side : Statement (.takeAbort port level number side) := of_nothing rfl rfl rfl rfl rfl
theorem grantTimerExpiry level : Statement (.grantTimerExpiry level) := fun h =>
  ⟨below_none, below_none, below_none, below_some (Nat.lt_succ_of_le (of_decide_eq_true h).2), below_none⟩
theorem laneCount port level number counts : Statement (.laneCount port level number counts) := of_nothing rfl rfl rfl rfl rfl
theorem nothing port level : Statement (.nothing port level) := of_nothing rfl rfl rfl rfl rfl
theorem overflow port level : Statement (.overflow port level) := of_nothing rfl rfl rfl rfl rfl
theorem restarted port level : Statement (.restarted port level) := of_nothing rfl rfl rfl rfl rfl
theorem resyncReport port level number next counts held last : Statement (.resyncReport port level number next counts held last) := of_nothing rfl rfl rfl rfl rfl
theorem ack port level number : Statement (.ack port level number) := of_nothing rfl rfl rfl rfl rfl
theorem visit port : Statement (.visit port) := of_nothing rfl rfl rfl rfl rfl
theorem exchangeUnanswered port : Statement (.exchangeUnanswered port) := of_nothing rfl rfl rfl rfl rfl
theorem hello port : Statement (.hello port) := of_nothing rfl rfl rfl rfl rfl
theorem checkError port : Statement (.checkError port) := of_nothing rfl rfl rfl rfl rfl
theorem relayedFrame port : Statement (.relayedFrame port) := of_nothing rfl rfl rfl rfl rfl
theorem status lift level accepted : Statement (.status lift level accepted) := fun h =>
  ⟨below_none, below_none, below_none, below_some (Nat.lt_succ_of_le (of_decide_eq_true h)), below_none⟩
theorem arrived lift trip stop : Statement (.arrived lift trip stop) := of_nothing rfl rfl rfl rfl rfl
theorem stopDone lift trip stop result : Statement (.stopDone lift trip stop result) := of_nothing rfl rfl rfl rfl rfl
theorem tripEnd lift trip : Statement (.tripEnd lift trip) := of_nothing rfl rfl rfl rfl rfl
theorem ready lift : Statement (.ready lift) := of_nothing rfl rfl rfl rfl rfl
theorem parkedAck lift : Statement (.parkedAck lift) := of_nothing rfl rfl rfl rfl rfl
theorem state lift level front rear trip last fault : Statement (.state lift level front rear trip last fault) := fun h =>
  ⟨below_none, below_none, below_none, below_some (Nat.lt_succ_of_le (of_decide_eq_true h).1), below_none⟩
theorem fault lift code : Statement (.fault lift code) := of_nothing rfl rfl rfl rfl rfl
theorem liftFrameDiscard lift : Statement (.liftFrameDiscard lift) := of_nothing rfl rfl rfl rfl rfl
theorem unknownKindFrame lift : Statement (.unknownKindFrame lift) := of_nothing rfl rfl rfl rfl rfl
theorem silenceTimerExpiry lift : Statement (.silenceTimerExpiry lift) := of_nothing rfl rfl rfl rfl rfl
theorem commandResend lift : Statement (.commandResend lift) := of_nothing rfl rfl rfl rfl rfl
theorem stateAskRepeat lift : Statement (.stateAskRepeat lift) := of_nothing rfl rfl rfl rfl rfl
theorem parkTimerExpiry lift : Statement (.parkTimerExpiry lift) := of_nothing rfl rfl rfl rfl rfl
theorem wakeTimerExpiry lift : Statement (.wakeTimerExpiry lift) := of_nothing rfl rfl rfl rfl rfl
theorem deadlineExpiry lift : Statement (.deadlineExpiry lift) := of_nothing rfl rfl rfl rfl rfl
theorem entryReaderResult read : Statement (.entryReaderResult read) := of_nothing rfl rfl rfl rfl rfl
theorem entryArrive : Statement (.entryArrive) := of_nothing rfl rfl rfl rfl rfl
theorem divertDone : Statement (.divertDone) := of_nothing rfl rfl rfl rfl rfl
theorem entryArriveDeassert : Statement (.entryArriveDeassert) := of_nothing rfl rfl rfl rfl rfl
theorem rejectFullChange full : Statement (.rejectFullChange full) := of_nothing rfl rfl rfl rfl rfl
theorem spurCountChange spur count : Statement (.spurCountChange spur count) := of_nothing rfl rfl rfl rfl rfl
theorem mismatchTimerExpiry place : Statement (.mismatchTimerExpiry place) := fun h =>
  ⟨below_none, below_none, below_some (of_decide_eq_true h), below_none, below_none⟩
theorem exitReadyChange ready : Statement (.exitReadyChange ready) := of_nothing rfl rfl rfl rfl rfl
theorem exitReaderResult read : Statement (.exitReaderResult read) := of_nothing rfl rfl rfl rfl rfl
theorem pass : Statement (.pass) := of_nothing rfl rfl rfl rfl rfl
theorem overdueTimerExpiry : Statement (.overdueTimerExpiry) := of_nothing rfl rfl rfl rfl rfl
theorem stallTimerExpiry : Statement (.stallTimerExpiry) := of_nothing rfl rfl rfl rfl rfl

end Sys2Proof.Laws.InRange
end

