-- ==== Sys2Proof/Laws/Safe.lean ====
section
/-! SUPPORT. Every operation keeps the queue, the evenness of the change count and the memory's canonical form: one lemma
for each operation. -/

namespace Sys2Proof.Machine

variable {Q : List Instr} {s : State}

@[simp] theorem State.setContext_safe (h : Safe Q s) (n : Nat) (c : Option Context) : Safe Q (s.setContext n c) := ⟨h.1, h.2, h.3, h.4⟩
@[simp] theorem State.updateContext_safe (h : Safe Q s) (n : Nat) (f : Context → Context) : Safe Q (s.updateContext n f) := by
  unfold State.updateContext; split <;> simp [h]
@[simp] theorem State.setGrant_safe (h : Safe Q s) (n : Nat) (g : Option Grant) : Safe Q (s.setGrant n g) := by
  cases n <;> exact ⟨h.1, h.2, h.3, h.4⟩
@[simp] theorem State.setHeld_safe (h : Safe Q s) (l : List HeldAsk) : Safe Q (s.setHeld l) := ⟨h.1, h.2, h.3, h.4⟩
@[simp] theorem State.setNode_safe (h : Safe Q s) (n : Nat) (nd : Node) : Safe Q (s.setNode n nd) := by
  cases n <;> exact ⟨h.1, h.2, h.3, h.4⟩
@[simp] theorem State.updateNode_safe (h : Safe Q s) (n : Nat) (f : Node → Node) : Safe Q (s.updateNode n f) := by
  unfold State.updateNode; simp [h]
@[simp] theorem State.setPort_safe (h : Safe Q s) (p : Port) (v : ChainPort) : Safe Q (s.setPort p v) := by
  cases p <;> exact ⟨h.1, h.2, h.3, h.4⟩
@[simp] theorem State.updatePort_safe (h : Safe Q s) (p : Port) (f : ChainPort → ChainPort) : Safe Q (s.updatePort p f) := by
  unfold State.updatePort; simp [h]
@[simp] theorem State.setLift_safe (h : Safe Q s) (x : Side) (l : Lift) : Safe Q (s.setLift x l) := ⟨h.1, h.2, h.3, h.4⟩
@[simp] theorem State.updateLift_safe (h : Safe Q s) (x : Side) (f : Lift → Lift) : Safe Q (s.updateLift x f) := ⟨h.1, h.2, h.3, h.4⟩
@[simp] theorem State.setRelease_safe (h : Safe Q s) (r : Release) : Safe Q (s.setRelease r) := ⟨h.1, h.2, h.3, h.4⟩
@[simp] theorem State.setEntry_safe (h : Safe Q s) (e : EntryUnit) : Safe Q (s.setEntry e) := ⟨h.1, h.2, h.3, h.4⟩
@[simp] theorem State.setStore_safe (h : Safe Q s) (st : Store) (hs : st.Sound) : Safe Q (s.setStore st) := ⟨h.1, h.2, h.3, hs⟩
@[simp] theorem State.tell_safe (h : Safe Q s) (r : Retry) : Safe Q (s.tell r) := by
  unfold State.tell; split
  · exact h
  · exact ⟨h.1, h.2, h.3, h.4⟩
@[simp] theorem State.transmit_safe (h : Safe Q s) (f : Frame) : Safe Q (s.transmit f) := ⟨h.1, h.2, h.3, h.4⟩
@[simp] theorem State.setCond_safe (h : Safe Q s) (src : Nat) (e : CondEntry) : Safe Q (s.setCond src e) := ⟨h.1, h.2, h.3, h.4⟩
@[simp] theorem State.raise_safe (h : Safe Q s) (src : Nat) (c : Cond) (a b : Byte) : Safe Q (s.raise src c a b) := ⟨h.1, h.2, h.3, h.4⟩
/-- A state with the same queue, memory port and profile store. -/
theorem Safe.congr {t : State} (h : Safe Q s) (hp : t.pending = s.pending) (hb : t.board = s.board)
    (hs : t.store = s.store) : Safe Q t :=
  ⟨hp.trans h.1, by rw [hb]; exact h.2, by rw [hb]; exact h.3, by rw [hs]; exact h.4⟩

@[simp] theorem State.raiseDue_safe (h : Safe Q s) : Safe Q s.raiseDue := by
  unfold State.raiseDue
  split
  · have hs : Safe Q (s.setStore { s.store with noProfileDue := false }) := State.setStore_safe h _ ⟨h.4.active, h.4.copy⟩
    exact State.raise_safe hs _ _ _ _
  · exact h
@[simp] theorem State.begin_safe (h : Safe Q s) : Safe Q s.begin := (State.raiseDue_safe h).congr rfl rfl rfl
/-- A change of the memory port that leaves the change count and the cells alone. -/
@[simp] theorem State.setBoard_safe (h : Safe Q s) (b : Board) (hc : b.changeCount = s.board.changeCount)
    (hm : b.mem = s.board.mem) : Safe Q (s.setBoard b) := ⟨h.1, by rw [State.board_setBoard, hc]; exact h.2, by rw [State.board_setBoard, hm]; exact h.3, h.4⟩
@[simp] theorem State.write_safe (h : Safe Q s) (a : Nat) (bs : List Byte) :
    Safe Q (s.setMem (Memory.write s.board.mem a bs)) := ⟨h.1, h.2, Memory.write_wf _ _ _ h.3, h.4⟩

@[simp] theorem ite_safe {c : Prop} [Decidable c] {a b : State} (ha : Safe Q a) (hb : Safe Q b) :
    Safe Q (if c then a else b) := by
  split
  · exact ha
  · exact hb

theorem foldl_safe {α : Type} (f : State → α → State) (hf : ∀ t x, Safe Q t → Safe Q (f t x)) (l : List α) (s : State)
    (h : Safe Q s) : Safe Q (l.foldl f s) := by
  induction l generalizing s with
  | nil => exact h
  | cons a l ih => exact ih _ (hf _ _ h)

@[simp] theorem State.tellAll_safe (h : Safe Q s) (rs : List Retry) : Safe Q (s.tellAll rs) :=
  foldl_safe _ (fun _ _ ht => State.tell_safe ht _) rs s h

theorem even_add_two (x : Half) : (x + 2).toNat % 2 = x.toNat % 2 := by
  rw [BitVec.toNat_add]
  have : (2 : Half).toNat = 2 := rfl
  omega

@[simp] theorem State.appendFinish_safe (h : Safe Q s) (n : Nat) : Safe Q (s.appendFinish n) :=
  ⟨h.1, (even_add_two _).trans h.2, h.3, h.4⟩

@[simp] theorem State.queueNode_safe (h : Safe Q s) (level : Nat) (c : ChainCmd) : Safe Q (s.queueNode level c) := by
  unfold State.queueNode; (repeat' split) <;> simp (maxDischargeDepth := 30) [h]
@[simp] theorem State.queueResync_safe (h : Safe Q s) (level : Nat) : Safe Q (s.queueResync level) := by
  unfold State.queueResync; (repeat' split) <;> simp (maxDischargeDepth := 30) [h]
@[simp] theorem State.writeMirror_safe (h : Safe Q s) (p : Nat) : Safe Q (s.writeMirror p) := by
  unfold State.writeMirror; simp (maxDischargeDepth := 30) [h]
@[simp] theorem State.copyMirror_safe (h : Safe Q s) (old : State) (p : Nat) : Safe Q (s.copyMirror old p) := by
  unfold State.copyMirror; split <;> simp [h]
@[simp] theorem State.setPlace_safe (h : Safe Q s) (p : Nat) (r : Place) : Safe Q (s.setPlace p r) := by
  have ht : Safe Q { s with places := s.places.setIfInBounds p (s.retimed p r) } := h.congr rfl rfl rfl
  exact State.copyMirror_safe ht s p
@[simp] theorem State.retime_safe (h : Safe Q s) (p : Nat) : Safe Q (s.retime p) := by
  unfold State.retime; simp (maxDischargeDepth := 30) [h]
@[simp] theorem State.afterReservation_safe (h : Safe Q s) (p : Nat) : Safe Q (s.afterReservation p) := by
  unfold State.afterReservation; (repeat' split) <;> simp (maxDischargeDepth := 30) [h]
@[simp] theorem State.arrive_safe (h : Safe Q s) (p : Nat) (e : Entry) : Safe Q (s.arrive p e) := by
  unfold State.arrive; (try dsimp only); simp (maxDischargeDepth := 30) [h]
@[simp] theorem State.arriveReserved_safe (h : Safe Q s) (p : Nat) (e : Entry) : Safe Q (s.arriveReserved p e) := by
  unfold State.arriveReserved; (try dsimp only); simp (maxDischargeDepth := 30) [h]
@[simp] theorem State.depart_safe (h : Safe Q s) (p : Nat) : Safe Q (s.depart p) := by
  unfold State.depart; (try dsimp only); (repeat' split) <;> simp (maxDischargeDepth := 30) [h]
@[simp] theorem State.setEntries_safe (h : Safe Q s) (p : Nat) (es : List Entry) : Safe Q (s.setEntries p es) := by
  unfold State.setEntries; (try dsimp only); simp (maxDischargeDepth := 30) [h]
@[simp] theorem State.reserve_safe (h : Safe Q s) (p : Nat) : Safe Q (s.reserve p) := by
  unfold State.reserve; (try dsimp only); simp (maxDischargeDepth := 30) [h]
@[simp] theorem State.unreserve_safe (h : Safe Q s) (p : Nat) : Safe Q (s.unreserve p) := by
  unfold State.unreserve; (try dsimp only); simp (maxDischargeDepth := 30) [h]
@[simp] theorem State.lockLane_safe (h : Safe Q s) (p : Nat) (l : Lock) : Safe Q (s.lockLane p l) := by
  unfold State.lockLane; (try dsimp only); simp (maxDischargeDepth := 30) [h]
@[simp] theorem State.unlockLane_safe (h : Safe Q s) (p : Nat) : Safe Q (s.unlockLane p) := by
  unfold State.unlockLane; (try dsimp only); simp (maxDischargeDepth := 30) [h]
@[simp] theorem State.setStatus_safe (h : Safe Q s) (p : Nat) (q : Place) : Safe Q (s.setStatus p q) := by
  unfold State.setStatus; simp (maxDischargeDepth := 30) [h]
@[simp] theorem State.freeze_safe (h : Safe Q s) (p : Nat) (r : Freeze) : Safe Q (s.freeze p r) := by
  unfold State.freeze; (try dsimp only); simp (maxDischargeDepth := 30) [h]
@[simp] theorem State.advance_safe (h : Safe Q s)  : Safe Q (s.advance) := by
  unfold State.advance; (try dsimp only); (repeat' split) <;> simp (maxDischargeDepth := 30) [h]
@[simp] theorem State.voiding_safe (h : Safe Q s) (x : Half) : Safe Q (s.voiding x) := by
  unfold State.voiding; (try dsimp only); (repeat' split) <;> simp (maxDischargeDepth := 30) [h]
@[simp] theorem State.unlist_safe (h : Safe Q s) (n : Nat) : Safe Q (s.unlist n) := by
  unfold State.unlist; (try dsimp only); simp (maxDischargeDepth := 30) [h]
@[simp] theorem State.unbind_safe (h : Safe Q s) (n : Nat) : Safe Q (s.unbind n) := by
  unfold State.unbind; simp (maxDischargeDepth := 30) [h]
@[simp] theorem State.restStall_safe (h : Safe Q s)  : Safe Q (s.restStall) := by
  unfold State.restStall; (try dsimp only); (repeat' split) <;> simp (maxDischargeDepth := 30) [h]
@[simp] theorem State.giveUp_safe (h : Safe Q s) (n : Nat) (stays : Bool) : Safe Q (s.giveUp n stays) := by
  unfold State.giveUp; (try dsimp only); (repeat' split) <;> simp (maxDischargeDepth := 30) [h]
@[simp] theorem State.writeCard_safe (h : Safe Q s) (n i : Nat) (bs : List Byte) : Safe Q (s.writeCard n i bs) := by
  unfold State.writeCard; simp (maxDischargeDepth := 30) [h]
@[simp] theorem State.setCardState_safe (h : Safe Q s) (n : Nat) (b : Byte) : Safe Q (s.setCardState n b) := by
  unfold State.setCardState; simp (maxDischargeDepth := 30) [h]
@[simp] theorem State.finishCard_safe (h : Safe Q s) (n : Nat) (final : Byte) (r : ReasonCode) (detail : Byte) (examined : Word) : Safe Q (s.finishCard n final r detail examined) := by
  unfold State.finishCard; (try dsimp only); (repeat' split) <;> simp (maxDischargeDepth := 30) [h]
@[simp] theorem State.finishNow_safe (h : Safe Q s) (n : Nat) (final : Byte) (r : ReasonCode) (detail : Byte) : Safe Q (s.finishNow n final r detail) := by
  unfold State.finishNow; simp (maxDischargeDepth := 30) [h]
@[simp] theorem State.refuse_safe (h : Safe Q s) (n : Nat) (r : ReasonCode) (detail : Byte) : Safe Q (s.refuse n r detail) := by
  unfold State.refuse; simp (maxDischargeDepth := 30) [h]
@[simp] theorem State.finishOrder_safe (h : Safe Q s) (n : Nat) (final : Byte) (r : ReasonCode) (detail : Byte) (gives : Bool) :
    Safe Q (s.finishOrder n final r detail gives) := by
  cases gives <;> unfold State.finishOrder <;> dsimp only <;> split <;> simp (maxDischargeDepth := 30) [h]
@[simp] theorem State.dropHeld_safe (h : Safe Q s) (level : Nat) : Safe Q (s.dropHeld level) := by
  unfold State.dropHeld
  refine foldl_safe _ (fun t a ht => ?_) _ _ (State.setHeld_safe h _)
  cases a
  · exact State.updateContext_safe ht _ _
  · exact ht
@[simp] theorem State.grantDrop_safe (h : Safe Q s) (n : Nat) (c : Context) (level : Nat) (x : Side) (substituted : Bool) : Safe Q (s.grantDrop n c level x substituted) := by
  unfold State.grantDrop; (try dsimp only); (repeat' split) <;> simp (maxDischargeDepth := 30) [h]
@[simp] theorem State.closeDrop_safe (h : Safe Q s) (n : Nat) (level : Nat) : Safe Q (s.closeDrop n level) := by
  unfold State.closeDrop; simp (maxDischargeDepth := 30) [h]
@[simp] theorem State.grantTake_safe (h : Safe Q s) (level : Nat) (x : Side) (e : Entry) : Safe Q (s.grantTake level x e) := by
  unfold State.grantTake; (try dsimp only); (repeat' split) <;> simp (maxDischargeDepth := 30) [h]
@[simp] theorem State.askDrop_safe (h : Safe Q s) (level : Nat) (tote : Word) : Safe Q (s.askDrop level tote) := by
  unfold State.askDrop; (try dsimp only); (repeat' split) <;> simp (maxDischargeDepth := 30) [h]
@[simp] theorem State.askTake_safe (h : Safe Q s) (level : Nat) (x : Side) : Safe Q (s.askTake level x) := by
  unfold State.askTake; (try dsimp only); (repeat' split) <;> simp (maxDischargeDepth := 30) [h]
theorem State.tryHeld_safe (h : Safe Q s) (h : HeldAsk) (t : State) (e : s.tryHeld h = some t) : Safe Q t := by
  unfold State.tryHeld at e; (repeat' split at e) <;> first | (simp at e; done) | (obtain rfl := Option.some.inj e; simp (maxDischargeDepth := 30) [h])
theorem State.walkOver_safe (l : List HeldAsk) (h : Safe Q s) : Safe Q (State.walkOver l s).1 := by
  induction l generalizing s with
  | nil => exact h
  | cons a l ih =>
    unfold State.walkOver
    split
    · exact ih h
    · rename_i t ht
      exact ih (State.tryHeld_safe h a t ht)
theorem State.walk_safe (h : Safe Q s)  (t : State) (e : s.walk = some t) : Safe Q t := by
  unfold State.walk at e
  split at e
  · have hw := State.walkOver_safe s.handover.held h
    split at e
    · rename_i u hu
      obtain rfl := Option.some.inj e
      rw [hu] at hw; exact hw
    · cases e
  · cases e
@[simp] theorem State.dropDone_safe (h : Safe Q s) (level : Nat) (g : Grant) : Safe Q (s.dropDone level g) := by
  unfold State.dropDone; (try dsimp only); (repeat' split) <;> simp (maxDischargeDepth := 30) [h]
@[simp] theorem State.dropAbort_safe (h : Safe Q s) (level : Nat) (g : Grant) : Safe Q (s.dropAbort level g) := by
  unfold State.dropAbort; (try dsimp only); (repeat' split) <;> simp (maxDischargeDepth := 30) [h]
@[simp] theorem State.takeDone_safe (h : Safe Q s) (level : Nat) (g : Grant) (read : Word) : Safe Q (s.takeDone level g read) := by
  unfold State.takeDone; (try dsimp only); (repeat' split) <;> simp (maxDischargeDepth := 30) [h]
@[simp] theorem State.takeAbort_safe (h : Safe Q s) (level : Nat) (g : Grant) : Safe Q (s.takeAbort level g) := by
  unfold State.takeAbort; (try dsimp only); (repeat' split) <;> simp (maxDischargeDepth := 30) [h]
@[simp] theorem State.releaseCard_safe (h : Safe Q s) (n : Nat) : Safe Q (s.releaseCard n) := by
  unfold State.releaseCard; (repeat' split) <;> simp (maxDischargeDepth := 30) [h]
@[simp] theorem State.releaseHead_safe (h : Safe Q s) (x : Side) (e : Entry) : Safe Q (s.releaseHead x e) := by
  unfold State.releaseHead; (try dsimp only); (repeat' split) <;> simp (maxDischargeDepth := 30) [h]
theorem State.tryMerge_safe (h : Safe Q s)  (t : State) (e : s.tryMerge = some t) : Safe Q t := by
  unfold State.tryMerge at e; (repeat' split at e) <;> first | (simp at e; done) | (obtain rfl := Option.some.inj e; simp (maxDischargeDepth := 30) [h])
@[simp] theorem State.setMotion_safe (h : Safe Q s) (m : Motion) : Safe Q (s.setMotion m) := by
  unfold State.setMotion; (try dsimp only); simp (maxDischargeDepth := 30) [h]
@[simp] theorem State.setDivert_safe (h : Safe Q s) (e : Entry) : Safe Q (s.setDivert e) := by
  unfold State.setDivert; (try dsimp only); (repeat' split) <;> simp (maxDischargeDepth := 30) [h]
@[simp] theorem State.closeDivert_safe (h : Safe Q s) (n : Nat) (c : Context) : Safe Q (s.closeDivert n c) := by
  unfold State.closeDivert; simp (maxDischargeDepth := 30) [h]
@[simp] theorem State.moveDivert_safe (h : Safe Q s) (n : Nat) (c : Context) (x : Side) (substituted : Bool) : Safe Q (s.moveDivert n c x substituted) := by
  unfold State.moveDivert; simp (maxDischargeDepth := 30) [h]
theorem State.divertChoice_safe (h : Safe Q s)  (t : State) (e : s.divertChoice = some t) : Safe Q t := by
  unfold State.divertChoice at e; (repeat' split at e) <;> first | (simp at e; done) | (obtain rfl := Option.some.inj e; simp (maxDischargeDepth := 30) [h])
theorem State.tryReject_safe (h : Safe Q s)  (t : State) (e : s.tryReject = some t) : Safe Q t := by
  unfold State.tryReject at e; (try dsimp only at e); (repeat' split at e) <;> first | (simp at e; done) | (obtain rfl := Option.some.inj e; simp (maxDischargeDepth := 30) [h])
@[simp] theorem State.foreignArrival_safe (h : Safe Q s) (c : Cond) (d1 d2 : Byte) : Safe Q (s.foreignArrival c d1 d2) := by
  unfold State.foreignArrival; simp (maxDischargeDepth := 30) [h]
@[simp] theorem State.arrival_safe (h : Safe Q s)  : Safe Q (s.arrival) := by
  unfold State.arrival; (try dsimp only); (repeat' split) <;> simp (maxDischargeDepth := 30) [h]
@[simp] theorem State.divertFreed_safe (h : Safe Q s)  : Safe Q (s.divertFreed) := by
  unfold State.divertFreed; (repeat' split) <;> simp (maxDischargeDepth := 30) [h]
@[simp] theorem State.pump_safe (h : Safe Q s) (x : Side) : Safe Q (s.pump x) := by
  unfold State.pump; (try dsimp only); (repeat' split) <;> simp (maxDischargeDepth := 30) [h]
@[simp] theorem State.queueLift_safe (h : Safe Q s) (x : Side) (c : LiftCmd) : Safe Q (s.queueLift x c) := by
  unfold State.queueLift; simp (maxDischargeDepth := 30) [h]
@[simp] theorem State.echoed_safe (h : Safe Q s) (x : Side) : Safe Q (s.echoed x) := by
  unfold State.echoed; simp (maxDischargeDepth := 30) [h]
@[simp] theorem State.raiseLift_safe (h : Safe Q s) (x : Side) (c : Cond) (d : Byte) : Safe Q (s.raiseLift x c d) := by
  unfold State.raiseLift; simp (maxDischargeDepth := 30) [h]
@[simp] theorem State.strayFrame_safe (h : Safe Q s) (x : Side) : Safe Q (s.strayFrame x) := by
  unfold State.strayFrame; simp (maxDischargeDepth := 30) [h]
@[simp] theorem State.releaseStops_safe (h : Safe Q s) (stops : List Stop) : Safe Q (s.releaseStops stops) := by
  unfold State.releaseStops
  refine foldl_safe _ (fun t a ht => ?_) _ _ h
  split <;> simp [ht]
@[simp] theorem State.discardPlan_safe (h : Safe Q s) (x : Side) : Safe Q (s.discardPlan x) := by
  unfold State.discardPlan; (repeat' split) <;> simp (maxDischargeDepth := 30) [h]
@[simp] theorem State.parkLift_safe (h : Safe Q s) (x : Side) : Safe Q (s.parkLift x) := by
  unfold State.parkLift; simp (maxDischargeDepth := 30) [h]
@[simp] theorem State.wakeLift_safe (h : Safe Q s) (x : Side) : Safe Q (s.wakeLift x) := by
  unfold State.wakeLift; simp (maxDischargeDepth := 30) [h]
@[simp] theorem State.becomeIdle_safe (h : Safe Q s) (x : Side) : Safe Q (s.becomeIdle x) := by
  unfold State.becomeIdle; (try dsimp only); (repeat' split) <;> simp (maxDischargeDepth := 30) [h]
@[simp] theorem State.sendTrip_safe (h : Safe Q s) (x : Side) (p : Plan) : Safe Q (s.sendTrip x p) := by
  unfold State.sendTrip; (try dsimp only); simp (maxDischargeDepth := 30) [h]
theorem State.trySend_safe (h : Safe Q s) (x : Side) (t : State) (e : s.trySend x = some t) : Safe Q t := by
  unfold State.trySend at e; (repeat' split at e) <;> first | (simp at e; done) | (obtain rfl := Option.some.inj e; simp (maxDischargeDepth := 30) [h])
@[simp] theorem State.handPlan_safe (h : Safe Q s) (x : Side) (p : Plan) : Safe Q (s.handPlan x p) := by
  unfold State.handPlan; (repeat' split) <;> simp (maxDischargeDepth := 30) [h]
@[simp] theorem State.endStop_safe (h : Safe Q s) (x : Side) (i : Nat) (o : StopOutcome) : Safe Q (s.endStop x i o) := by
  unfold State.endStop; simp (maxDischargeDepth := 30) [h]
@[simp] theorem State.turnBack_safe (h : Safe Q s) (n p : Nat) (r : ReasonCode) : Safe Q (s.turnBack n p r) := by
  unfold State.turnBack; simp (maxDischargeDepth := 30) [h]
@[simp] theorem State.passHoldings_safe (h : Safe Q s) (x : Side) (st : Stop) : Safe Q (s.passHoldings x st) := by
  unfold State.passHoldings; (try dsimp only); (repeat' split) <;> simp (maxDischargeDepth := 30) [h]
@[simp] theorem State.passQuiet_safe (h : Safe Q s) (x : Side) (i : Nat) (st : Stop) : Safe Q (s.passQuiet x i st) := by
  unfold State.passQuiet; simp (maxDischargeDepth := 30) [h]
@[simp] theorem State.passStop_safe (h : Safe Q s) (x : Side) (i : Nat) (st : Stop) : Safe Q (s.passStop x i st) := by
  unfold State.passStop; simp (maxDischargeDepth := 30) [h]
@[simp] theorem State.proceedStop_safe (h : Safe Q s) (x : Side) (i : Nat) (st : Stop) : Safe Q (s.proceedStop x i st) := by
  unfold State.proceedStop; (repeat' split) <;> simp (maxDischargeDepth := 30) [h]
@[simp] theorem State.takeDecision_safe (h : Safe Q s) (x : Side) (i : Nat) (st : Stop) (d : Decision) : Safe Q (s.takeDecision x i st d) := by
  unfold State.takeDecision; (repeat' split) <;> simp (maxDischargeDepth := 30) [h]
theorem State.retest_safe (h : Safe Q s) (x : Side) (w : Prompt) (t : State) (e : s.retest x w = some t) : Safe Q t := by
  unfold State.retest at e; (repeat' split at e) <;> first | (simp at e; done) | (obtain rfl := Option.some.inj e; simp (maxDischargeDepth := 30) [h])
@[simp] theorem State.loadOk_safe (h : Safe Q s) (x : Side) (st : Stop) (trip : Byte) : Safe Q (s.loadOk x st trip) := by
  unfold State.loadOk; (try dsimp only); (repeat' split) <;> simp (maxDischargeDepth := 30) [h]
@[simp] theorem State.unloadOk_safe (h : Safe Q s) (x : Side) (st : Stop) (trip : Byte) : Safe Q (s.unloadOk x st trip) := by
  unfold State.unloadOk; (try dsimp only); (repeat' split) <;> simp (maxDischargeDepth := 30) [h]
@[simp] theorem State.deckLost_safe (h : Safe Q s) (x : Side) (d : Deck) : Safe Q (s.deckLost x d) := by
  unfold State.deckLost; (repeat' split) <;> simp (maxDischargeDepth := 30) [h]
@[simp] theorem State.unloadBlocked_safe (h : Safe Q s) (x : Side) (st : Stop) : Safe Q (s.unloadBlocked x st) := by
  unfold State.unloadBlocked; (try dsimp only); (repeat' split) <;> simp (maxDischargeDepth := 30) [h]
@[simp] theorem State.stopEffect_safe (h : Safe Q s) (x : Side) (st : Stop) (trip : Byte) (r : StopResult) : Safe Q (s.stopEffect x st trip r) := by
  unfold State.stopEffect; (try dsimp only); (repeat' split) <;> simp (maxDischargeDepth := 30) [h]
@[simp] theorem State.stopResult_safe (h : Safe Q s) (x : Side) (st : Stop) (trip : Byte) (r : StopResult) : Safe Q (s.stopResult x st trip r) := by
  unfold State.stopResult; simp (maxDischargeDepth := 30) [h]
@[simp] theorem State.unlockStop_safe (h : Safe Q s) (st : Stop) : Safe Q (s.unlockStop st) := by
  unfold State.unlockStop; (repeat' split) <;> simp (maxDischargeDepth := 30) [h]
@[simp] theorem State.enterFaulted_safe (h : Safe Q s) (x : Side) : Safe Q (s.enterFaulted x) := by
  unfold State.enterFaulted; (try dsimp only); simp (maxDischargeDepth := 30) [h]
@[simp] theorem State.enterSyncing_safe (h : Safe Q s) (x : Side) : Safe Q (s.enterSyncing x) := by
  unfold State.enterSyncing; simp (maxDischargeDepth := 30) [h]
@[simp] theorem State.loseLink_safe (h : Safe Q s) (x : Side) (detail : Byte) : Safe Q (s.loseLink x detail) := by
  unfold State.loseLink; (try dsimp only); (repeat' split) <;> simp (maxDischargeDepth := 30) [h]
@[simp] theorem State.hear_safe (h : Safe Q s) (x : Side) : Safe Q (s.hear x) := by
  unfold State.hear; (repeat' split) <;> simp (maxDischargeDepth := 30) [h]
@[simp] theorem State.settleStop_safe (h : Safe Q s) (x : Side) (i : Nat) (st : Stop) (trip : Byte) (occupied : Bool) : Safe Q (s.settleStop x i st trip occupied) := by
  unfold State.settleStop; simp (maxDischargeDepth := 30) [h]
@[simp] theorem State.unlockTrip_safe (h : Safe Q s) (x : Side) : Safe Q (s.unlockTrip x) := by
  unfold State.unlockTrip
  split
  · exact h
  · exact foldl_safe _ (fun t a ht => State.unlockStop_safe ht a) _ _ h
@[simp] theorem State.checkDeck_safe (h : Safe Q s) (x : Side) (d : Deck) (occupied : Bool) : Safe Q (s.checkDeck x d occupied) := by
  unfold State.checkDeck; (try dsimp only); (repeat' split) <;> simp (maxDischargeDepth := 30) [h]
@[simp] theorem State.endTripAwaitReady_safe (h : Safe Q s) (x : Side) : Safe Q (s.endTripAwaitReady x) := by
  unfold State.endTripAwaitReady; simp (maxDischargeDepth := 30) [h]
theorem State.settleStops_safe (h : Safe Q s) (x : Side) (front rear : Bool) (is : List Nat) :
    Safe Q (s.settleStops x front rear is).1 := by
  induction is generalizing s with
  | nil => exact h
  | cons i is ih =>
    unfold State.settleStops
    split
    · exact ih h
    · exact ih (State.settleStop_safe h _ _ _ _ _)
theorem State.passOthers_safe (h : Safe Q s) (x : Side) (kept : List Nat) (l : List (Nat × Stop)) :
    Safe Q (s.passOthers x kept l) := by
  induction l generalizing s with
  | nil => exact h
  | cons a l ih =>
    unfold State.passOthers
    exact ih (ite_safe h (State.passQuiet_safe h _ _ _))
theorem State.afterCheck_safe (h : Safe Q s) (x : Side) (level : Nat) (trip : Byte) :
    Safe Q (s.afterCheck x level trip).1 := by
  unfold State.afterCheck; (try dsimp only); (repeat' split) <;>
    simp (maxDischargeDepth := 30) [h, State.passOthers_safe]
@[simp] theorem State.reconcile_safe (h : Safe Q s) (x : Side) (level : Nat) (front rear : Bool) (trip : Byte) (last : Nat) : Safe Q (s.reconcile x level front rear trip last) := by
  have h1 : Safe Q (s.settleStops x front rear (s.settled x trip last)).1 := State.settleStops_safe h _ _ _ _
  have h2 := State.checkDeck_safe (State.checkDeck_safe (State.unlockTrip_safe h1 x) x .front front) x .rear rear
  have h3 := State.afterCheck_safe h2 x level trip
  unfold State.reconcile
  dsimp only
  split
  · exact h3
  · exact State.raiseLift_safe h3 _ _ _
@[simp] theorem State.planReturns_safe (h : Safe Q s) (x : Side) (p : Plan) : Safe Q (s.planReturns x p) := by
  unfold State.planReturns; (repeat' split) <;> simp (maxDischargeDepth := 30) [h]
@[simp] theorem State.reservePlan_safe (h : Safe Q s) (p : Plan) : Safe Q (s.reservePlan p) := by
  unfold State.reservePlan
  refine foldl_safe _ (fun t a ht => ?_) _ _ h
  split <;> simp [ht]
theorem State.tryPlan_safe (h : Safe Q s) (x : Side) (t : State) (e : s.tryPlan x = some t) : Safe Q t := by
  unfold State.tryPlan at e; (repeat' split at e) <;> first | (simp at e; done) | (obtain rfl := Option.some.inj e; simp (maxDischargeDepth := 30) [h])
@[simp] theorem State.syncLane_safe (h : Safe Q s) (old : State) (p : Nat) : Safe Q (s.syncLane old p) := by
  have ht : Safe Q { s with places := s.places.setIfInBounds p (s.retimed p (s.place p)) } := h.congr rfl rfl rfl
  exact State.copyMirror_safe ht old p
@[simp] theorem State.changeNode_safe (h : Safe Q s) (level : Nat) (f : Node → Node) : Safe Q (s.changeNode level f) := by
  have hu : Safe Q ((levelLanes level).foldl (fun v p => (v.syncLane s p).tellAll
      (toldStatus p ++ toldStop p))
      (s.updateNode level f)) :=
    foldl_safe _ (fun v p hv => State.tellAll_safe (State.syncLane_safe hv _ _) _) _ _ (State.updateNode_safe h _ _)
  unfold State.changeNode
  dsimp only
  split
  · exact State.updateNode_safe h _ _
  · split
    · exact hu
    · exact State.dropHeld_safe hu _
@[simp] theorem State.reassign_safe (h : Safe Q s) (level : Nat) : Safe Q (s.reassign level) := by
  unfold State.reassign; (try dsimp only); (repeat' split) <;> simp (maxDischargeDepth := 30) [h]
@[simp] theorem State.recompute_safe (h : Safe Q s)  : Safe Q (s.recompute) := by
  exact foldl_safe _ (fun t a ht => State.reassign_safe ht a) _ _ h
@[simp] theorem State.recomputeAfterDeath_safe (h : Safe Q s) (p : Port) : Safe Q (s.recomputeAfterDeath p) := by
  unfold State.recomputeAfterDeath; (try dsimp only); (repeat' split) <;> simp (maxDischargeDepth := 30) [h]
@[simp] theorem State.nodeDies_safe (h : Safe Q s) (level : Nat) : Safe Q (s.nodeDies level) := by
  unfold State.nodeDies; (try dsimp only); simp (maxDischargeDepth := 30) [h]
@[simp] theorem State.revive_safe (h : Safe Q s) (level : Nat) (p : Port) : Safe Q (s.revive level p) := by
  unfold State.revive; simp (maxDischargeDepth := 30) [h]
@[simp] theorem State.firstAnswer_safe (h : Safe Q s) (level : Nat) : Safe Q (s.firstAnswer level) := by
  unfold State.firstAnswer; simp (maxDischargeDepth := 30) [h]
@[simp] theorem State.startExchange_safe (h : Safe Q s) (p : Port) (level : Nat) (what : Sending) : Safe Q (s.startExchange p level what) := by
  unfold State.startExchange; simp (maxDischargeDepth := 30) [h]
@[simp] theorem State.sendCommand_safe (h : Safe Q s) (p : Port) (level : Nat) : Safe Q (s.sendCommand p level) := by
  unfold State.sendCommand; (try dsimp only); (repeat' split) <;> simp (maxDischargeDepth := 30) [h]
@[simp] theorem State.advanceVisit_safe (h : Safe Q s) (p : Port) : Safe Q (s.advanceVisit p) := by
  unfold State.advanceVisit; (try dsimp only); (repeat' split) <;> simp (maxDischargeDepth := 30) [h]
@[simp] theorem State.visitPort_safe (h : Safe Q s) (p : Port) : Safe Q (s.visitPort p) := by
  unfold State.visitPort; (try dsimp only); (repeat' split) <;> simp (maxDischargeDepth := 30) [h]
@[simp] theorem State.helloPort_safe (h : Safe Q s) (p : Port) : Safe Q (s.helloPort p) := by
  unfold State.helloPort; (try dsimp only); (repeat' split) <;> simp (maxDischargeDepth := 30) [h]
@[simp] theorem State.answered_safe (h : Safe Q s) (p : Port) (level : Nat) (next : VisitNext) : Safe Q (s.answered p level next) := by
  unfold State.answered; simp (maxDischargeDepth := 30) [h]
@[simp] theorem State.pollAnswer_safe (h : Safe Q s) (p : Port) (level : Byte) (take : State → Nat → State) (h_take : ∀ t k, Safe Q t → Safe Q (take t k)) : Safe Q (s.pollAnswer p level take) := by
  unfold State.pollAnswer; (try dsimp only); (repeat' split) <;> simp (maxDischargeDepth := 30) [h, h_take]
@[simp] theorem State.numberedReport_safe (h : Safe Q s) (level : Nat) (number : BitVec 4) (hand : State → State) (h_hand : ∀ t, Safe Q t → Safe Q (hand t)) : Safe Q (s.numberedReport level number hand) := by
  unfold State.numberedReport; (try dsimp only); (repeat' split) <;> simp (maxDischargeDepth := 30) [h, h_hand]
@[simp] theorem State.report_safe (h : Safe Q s) (p : Port) (level : Byte) (number : BitVec 4) (hand : State → Nat → State) (h_hand : ∀ t k, Safe Q t → Safe Q (hand t k)) : Safe Q (s.report p level number hand) := by
  exact State.pollAnswer_safe h _ _ _ (fun t k ht => State.numberedReport_safe ht _ _ _ (fun u hu => h_hand u k hu))
@[simp] theorem State.grantReport_safe (h : Safe Q s) (level : Nat) (matchesGrant : Grant → Bool) (act : State → Grant → State) (h_act : ∀ t g, Safe Q t → Safe Q (act t g)) : Safe Q (s.grantReport level matchesGrant act) := by
  unfold State.grantReport; (repeat' split) <;> simp (maxDischargeDepth := 30) [h, h_act]
@[simp] theorem State.commandAnswer_safe (h : Safe Q s) (p : Port) (level : Nat) (number : BitVec 4) (take : State → State) (h_take : ∀ t, Safe Q t → Safe Q (take t)) : Safe Q (s.commandAnswer p level number take) := by
  unfold State.commandAnswer; (try dsimp only); (repeat' split) <;> simp (maxDischargeDepth := 30) [h, h_take]
@[simp] theorem State.resyncLane_safe (h : Safe Q s) (p count : Nat) : Safe Q (s.resyncLane p count) := by
  unfold State.resyncLane; (try dsimp only); (repeat' split) <;> simp (maxDischargeDepth := 30) [h]
@[simp] theorem State.settleGrant_safe (h : Safe Q s) (level : Nat) (g : Grant) (r : Settlement) : Safe Q (s.settleGrant level g r) := by
  unfold State.settleGrant; (repeat' split) <;> simp (maxDischargeDepth := 30) [h]
@[simp] theorem State.resync_safe (h : Safe Q s) (level : Nat) (next : BitVec 4) (counts : LaneCounts) (held : Word) (last : LastEvent) : Safe Q (s.resync level next counts held last) := by
  unfold State.resync
  dsimp only
  refine foldl_safe _ (fun t p ht => State.resyncLane_safe ht _ _) _ _ ?_
  split <;> simp (maxDischargeDepth := 30) [h]
@[simp] theorem State.laneCounts_safe (h : Safe Q s) (level : Nat) (counts : LaneCounts) : Safe Q (s.laneCounts level counts) := by
  refine foldl_safe _ (fun t p ht => ?_) _ _ h
  split
  · exact State.setPlace_safe ht _ _
  · exact ht
@[simp] theorem State.startChain_safe (h : Safe Q s)  : Safe Q (s.startChain) := by
  unfold State.startChain
  refine State.transmit_safe (State.transmit_safe ?_ _) _
  exact h.congr rfl rfl rfl
@[simp] theorem State.silenceChain_safe (h : Safe Q s)  : Safe Q (s.silenceChain) := by
  exact h.congr rfl rfl rfl
@[simp] theorem State.mapPlaces_safe (h : Safe Q s) (f : Nat → Place → Place) : Safe Q (s.mapPlaces f) := by
  exact h.congr rfl rfl rfl
@[simp] theorem State.writeMirrors_safe (h : Safe Q s) (first n : Nat) : Safe Q (s.writeMirrors first n) := by
  unfold State.writeMirrors; simp (maxDischargeDepth := 30) [h]
@[simp] theorem State.syncMirrors_safe (h : Safe Q s) (old : State) : Safe Q (s.syncMirrors old) := by
  exact foldl_safe _ (fun t p ht => State.copyMirror_safe ht old p) _ _ h
@[simp] theorem State.initPlaces_safe (h : Safe Q s)  : Safe Q (s.initPlaces) := by
  unfold State.initPlaces; simp (maxDischargeDepth := 30) [h]
@[simp] theorem State.rereadInputs_safe (h : Safe Q s)  : Safe Q (s.rereadInputs) := by
  refine foldl_safe _ (fun t p ht => ?_) _ _ h
  split
  · exact State.setPlace_safe ht _ _
  · exact ht
@[simp] theorem State.flushPlaces_safe (h : Safe Q s)  : Safe Q (s.flushPlaces) := by
  exact State.writeMirrors_safe (State.mapPlaces_safe h _) _ _
@[simp] theorem State.commitPlaces_safe (h : Safe Q s)  : Safe Q (s.commitPlaces) := by
  unfold State.commitPlaces; simp (maxDischargeDepth := 30) [h]
@[simp] theorem State.losePlaces_safe (h : Safe Q s) (clears : Bool) : Safe Q (s.losePlaces clears) := by
  unfold State.losePlaces; simp (maxDischargeDepth := 30) [h]
@[simp] theorem State.dropWork_safe (h : Safe Q s)  : Safe Q (s.dropWork) := by
  exact (State.discardPlan_safe (State.discardPlan_safe h .a) .b).congr rfl rfl rfl
@[simp] theorem State.adoptProfile_safe (h : Safe Q s) (record : List Byte) (hr : checkRecord record = none) : Safe Q (s.adoptProfile record) := by
  have ht := State.dropWork_safe h
  refine State.startChain_safe (State.commitPlaces_safe (State.setStore_safe ht _ ⟨fun r e => ?_, ht.4.copy⟩))
  obtain rfl := Option.some.inj e
  exact hr
@[simp] theorem State.loseProfile_safe (h : Safe Q s) (clears : Bool) : Safe Q (s.loseProfile clears) := by
  unfold State.loseProfile
  dsimp only
  refine State.silenceChain_safe (State.losePlaces_safe (State.setStore_safe (State.dropWork_safe h) _ ⟨?_, ?_⟩) clears)
  · intro r e
    exact absurd e.symm (Option.some_ne_none r)
  · exact (State.dropWork_safe h).4.copy
@[simp] theorem State.changeMode_safe (h : Safe Q s) (m : Mode) : Safe Q (s.changeMode m) := by
  exact ⟨h.1, h.2, h.3, h.4⟩
@[simp] theorem State.refuseRequest_safe (h : Safe Q s)  : Safe Q (s.refuseRequest) := by
  unfold State.refuseRequest; (try dsimp only); simp (maxDischargeDepth := 30) [h]
@[simp] theorem State.enterRun_safe (h : Safe Q s)  : Safe Q (s.enterRun) := by
  unfold State.enterRun; simp (maxDischargeDepth := 30) [h]
@[simp] theorem State.parkWhenIdle_safe (h : Safe Q s) (x : Side) : Safe Q (s.parkWhenIdle x) := by
  unfold State.parkWhenIdle; (repeat' split) <;> simp (maxDischargeDepth := 30) [h]
@[simp] theorem State.enterConfig_safe (h : Safe Q s)  : Safe Q (s.enterConfig) := by
  unfold State.enterConfig; simp (maxDischargeDepth := 30) [h]
@[simp] theorem State.requestedRun_safe (h : Safe Q s)  : Safe Q (s.requestedRun) := by
  unfold State.requestedRun; (repeat' split) <;> simp (maxDischargeDepth := 30) [h]
@[simp] theorem State.requestedHold_safe (h : Safe Q s)  : Safe Q (s.requestedHold) := by
  unfold State.requestedHold; (repeat' split) <;> simp (maxDischargeDepth := 30) [h]
@[simp] theorem State.requestedConfig_safe (h : Safe Q s)  : Safe Q (s.requestedConfig) := by
  unfold State.requestedConfig; (repeat' split) <;> simp (maxDischargeDepth := 30) [h]
@[simp] theorem State.misuse_safe (h : Safe Q s)  : Safe Q (s.misuse) := by
  unfold State.misuse; (try dsimp only); simp (maxDischargeDepth := 30) [h]
@[simp] theorem State.writeCardState_safe (h : Safe Q s) (n : Nat) (v : Byte) : Safe Q (s.writeCardState n v) := by
  have hs : ∀ b, Safe Q (s.setCardState n b) := fun b => State.setCardState_safe h n b
  unfold State.writeCardState
  dsimp only
  split
  · exact h
  · split
    · exact ⟨(hs cardPosted).1, (hs cardPosted).2, (hs cardPosted).3, (hs cardPosted).4⟩
    · split
      · exact h
      · split
        · exact ⟨(hs cardFree).1, (even_add_two _).trans (hs cardFree).2, (hs cardFree).3, (hs cardFree).4⟩
        · exact State.misuse_safe h
@[simp] theorem State.writeAcknowledge_safe (h : Safe Q s) (src : Nat) (v : Byte) : Safe Q (s.writeAcknowledge src v) := by
  unfold State.writeAcknowledge; (try dsimp only); (repeat' split) <;> simp (maxDischargeDepth := 30) [h]
@[simp] theorem State.writeByte_safe (h : Safe Q s) (a : Nat) (v : Byte) : Safe Q (s.writeByte a v) := by
  unfold State.writeByte; (repeat' split) <;> simp (maxDischargeDepth := 30) [h]
@[simp] theorem State.clearCauses_safe (h : Safe Q s) (v : Word) : Safe Q (s.clearCauses v) := by
  unfold State.clearCauses; (try dsimp only); simp (maxDischargeDepth := 30) [h]
@[simp] theorem State.setEnables_safe (h : Safe Q s) (v : Word) : Safe Q (s.setEnables v) := by
  unfold State.setEnables; (try dsimp only); simp (maxDischargeDepth := 30) [h]
@[simp] theorem State.writeRegister_safe (h : Safe Q s) (offset : Nat) (v : Word) : Safe Q (s.writeRegister offset v) := by
  unfold State.writeRegister; (repeat' split) <;> simp (maxDischargeDepth := 30) [h]
@[simp] theorem State.takeHead_safe (h : Safe Q s) (rest : List Nat) : Safe Q (s.takeHead rest) := by
  unfold State.takeHead; (try dsimp only); simp (maxDischargeDepth := 30) [h]
@[simp] theorem State.done_safe (h : Safe Q s) (n : Nat) (detail : Byte) : Safe Q (s.done n detail) := by
  unfold State.done; simp (maxDischargeDepth := 30) [h]
@[simp] theorem State.startStall_safe (h : Safe Q s)  : Safe Q (s.startStall) := by
  unfold State.startStall; (try dsimp only); (repeat' split) <;> simp (maxDischargeDepth := 30) [h]
@[simp] theorem State.accept_safe (h : Safe Q s) (n : Nat) (k : OrderKind) : Safe Q (s.accept n k) := by
  unfold State.accept; (try dsimp only); (repeat' split) <;> simp (maxDischargeDepth := 30) [h]
@[simp] theorem State.examineOrder_safe (h : Safe Q s) (n : Nat) (k : OrderKind) : Safe Q (s.examineOrder n k) := by
  unfold State.examineOrder; (repeat' split) <;> simp (maxDischargeDepth := 30) [h]
@[simp] theorem State.cancelAtDivert_safe (h : Safe Q s) (c : Context) : Safe Q (s.cancelAtDivert c) := by
  unfold State.cancelAtDivert; (repeat' split) <;> simp (maxDischargeDepth := 30) [h]
theorem State.cancelTarget_safe (h : Safe Q s) (m : Nat) (c : Context) (t : State) (e : s.cancelTarget m c = some t) : Safe Q t := by
  unfold State.cancelTarget at e; (repeat' split at e) <;> first | (simp at e; done) | (obtain rfl := Option.some.inj e; simp (maxDischargeDepth := 30) [h])
@[simp] theorem State.examineCancel_safe (h : Safe Q s) (n : Nat) : Safe Q (s.examineCancel n) := by
  unfold State.examineCancel
  split
  · exact State.refuse_safe h _ _ _
  · split
    · exact State.refuse_safe h _ _ _
    · split
      · exact State.refuse_safe h _ _ _
      · rename_i c _ t ht
        exact State.done_safe (State.cancelTarget_safe h _ _ _ ht) _ _
@[simp] theorem State.makeForeign_safe (h : Safe Q s) (m p : Nat) : Safe Q (s.makeForeign m p) := by
  unfold State.makeForeign; simp (maxDischargeDepth := 30) [h]
@[simp] theorem State.flushCard_safe (h : Safe Q s) (m : Nat) : Safe Q (s.flushCard m) := by
  unfold State.flushCard; (try dsimp only); (repeat' split) <;> simp (maxDischargeDepth := 30) [h]
@[simp] theorem State.flushCards_safe (h : Safe Q s)  : Safe Q (s.flushCards) := by
  exact foldl_safe _ (fun t m ht => State.flushCard_safe ht m) _ _ h
@[simp] theorem State.flush_safe (h : Safe Q s) (n : Nat) : Safe Q (s.flush n) := by
  unfold State.flush; (try dsimp only); simp (maxDischargeDepth := 30) [h]
@[simp] theorem State.examineFlush_safe (h : Safe Q s) (n : Nat) : Safe Q (s.examineFlush n) := by
  unfold State.examineFlush; (repeat' split) <;> simp (maxDischargeDepth := 30) [h]
@[simp] theorem State.examineSkip_safe (h : Safe Q s) (n : Nat) : Safe Q (s.examineSkip n) := by
  unfold State.examineSkip; (try dsimp only); (repeat' split) <;> simp (maxDischargeDepth := 30) [h]
@[simp] theorem State.examineRenumber_safe (h : Safe Q s) (n : Nat) : Safe Q (s.examineRenumber n) := by
  unfold State.examineRenumber; (try dsimp only); (repeat' split) <;> simp (maxDischargeDepth := 30) [h]
@[simp] theorem State.bar_safe (h : Safe Q s) (p : Nat) : Safe Q (s.bar p) := by
  unfold State.bar; (try dsimp only); (repeat' split) <;> simp (maxDischargeDepth := 30) [h]
@[simp] theorem State.unbarKeep_safe (h : Safe Q s) (p : Nat) : Safe Q (s.unbarKeep p) := by
  unfold State.unbarKeep; (try dsimp only); (repeat' split) <;> simp (maxDischargeDepth := 30) [h]
@[simp] theorem State.endClaims_safe (h : Safe Q s) (p : Nat) : Safe Q (s.endClaims p) := by
  unfold State.endClaims; (repeat' split) <;> simp (maxDischargeDepth := 30) [h]
@[simp] theorem State.loseEntry_safe (h : Safe Q s) (p : Nat) (e : Entry) : Safe Q (State.loseEntry p s e) := by
  unfold State.loseEntry; (repeat' split) <;> simp (maxDischargeDepth := 30) [h]
@[simp] theorem State.unbarClear_safe (h : Safe Q s) (p : Nat) : Safe Q (s.unbarClear p) := by
  exact State.tellAll_safe (State.setPlace_safe
    (foldl_safe _ (fun t e ht => State.loseEntry_safe ht p e) _ _ (State.setEntries_safe (State.endClaims_safe h p) _ _)) _ _) _
@[simp] theorem State.examineBar_safe (h : Safe Q s) (n : Nat) : Safe Q (s.examineBar n) := by
  unfold State.examineBar; (repeat' split) <;> simp (maxDischargeDepth := 30) [h]
@[simp] theorem State.examineUnbarKeep_safe (h : Safe Q s) (n : Nat) : Safe Q (s.examineUnbarKeep n) := by
  unfold State.examineUnbarKeep; (repeat' split) <;> simp (maxDischargeDepth := 30) [h]
@[simp] theorem State.examineUnbarClear_safe (h : Safe Q s) (n : Nat) : Safe Q (s.examineUnbarClear n) := by
  unfold State.examineUnbarClear; (repeat' split) <;> simp (maxDischargeDepth := 30) [h]
@[simp] theorem State.startStore_safe (h : Safe Q s) (n : Nat) (w : StoreWork) (hw : ∀ r, w = .commit r → checkRecord r = none) : Safe Q (s.startStore n w) := by
  have ht := State.setCardState_safe h n cardTaken
  refine State.setStore_safe ht _ ⟨ht.4.active, fun o r e he => ?_⟩
  obtain rfl := Option.some.inj e
  exact hw r he
@[simp] theorem State.examineRetire_safe (h : Safe Q s) (n : Nat) : Safe Q (s.examineRetire n) := by
  unfold State.examineRetire
  (repeat' split) <;> simp (maxDischargeDepth := 30) [h]
@[simp] theorem State.examineCommit_safe (h : Safe Q s) (n : Nat) : Safe Q (s.examineCommit n) := by
  unfold State.examineCommit
  split
  · exact State.refuse_safe h _ _ _
  · split
    · exact State.refuse_safe h _ _ _
    · rename_i hc
      refine State.startStore_safe h n _ (fun r e => ?_)
      injection e with e
      rw [← e]; exact hc
@[simp] theorem State.examineErase_safe (h : Safe Q s) (n : Nat) : Safe Q (s.examineErase n) := by
  unfold State.examineErase; (repeat' split) <;> simp (maxDischargeDepth := 30) [h]
@[simp] theorem State.endStore_safe (h : Safe Q s) (profile : List Byte) (slots : Vector Slot 32) : Safe Q (s.endStore profile slots) := by
  exact State.setStore_safe h _ ⟨h.4.active, fun o r e => by simp at e⟩
@[simp] theorem State.raiseStoreLost_safe (h : Safe Q s) (kind : Byte) (card : Nat) : Safe Q (s.raiseStoreLost kind card) := by
  unfold State.raiseStoreLost; simp (maxDischargeDepth := 30) [h]
@[simp] theorem State.commitEnded_safe (h : Safe Q s) (o : StoreOp) (copy : List Byte) (completed : Bool) (readBack : List Byte)
    (hc : checkRecord copy = none) : Safe Q (s.commitEnded o copy completed readBack) := by
  have ht := State.endStore_safe h (areaOf readBack) s.store.slots
  unfold State.commitEnded
  dsimp only
  split
  · exact State.finishCard_safe (State.adoptProfile_safe ht copy hc) _ _ _ _ _
  · exact State.finishCard_safe (State.raiseStoreLost_safe (State.loseProfile_safe ht _) _ _) _ _ _ _ _
@[simp] theorem State.forgetFailures_safe (h : Safe Q s) : Safe Q s.forgetFailures :=
  State.setStore_safe h _ ⟨h.4.active, h.4.copy⟩
@[simp] theorem State.markFailed_safe (h : Safe Q s) (slot : Nat) : Safe Q (s.markFailed slot) :=
  State.setStore_safe h _ ⟨h.4.active, h.4.copy⟩
@[simp] theorem State.eraseEnded_safe (h : Safe Q s) (o : StoreOp) (profile : List Byte) (slots : Vector Slot 32) : Safe Q (s.eraseEnded o profile slots) := by
  unfold State.eraseEnded; (try dsimp only); (repeat' split) <;> simp (maxDischargeDepth := 30) [h]
@[simp] theorem State.retireEnded_safe (h : Safe Q s) (o : StoreOp) (p slot : Nat) (readBack : Slot) : Safe Q (s.retireEnded o p slot readBack) := by
  unfold State.retireEnded; (try dsimp only); (repeat' split) <;> simp (maxDischargeDepth := 30) [h]
@[simp] theorem State.ackAt_safe (h : Safe Q s) (p : Port) (level : Byte) (number : BitVec 4) : Safe Q (s.ackAt p level number) := by
  unfold State.ackAt; (try dsimp only); (repeat' split) <;> simp (maxDischargeDepth := 30) [h]
@[simp] theorem State.resyncAt_safe (h : Safe Q s) (p : Port) (level : Byte) (number next : BitVec 4) (counts : LaneCounts) (held : Word) (last : LastEvent) : Safe Q (s.resyncAt p level number next counts held last) := by
  unfold State.resyncAt
  split
  · split
    · exact State.commandAnswer_safe h _ _ _ _ (fun t ht => State.resync_safe ht _ _ _ _ _)
    · exact h
  · exact h
@[simp] theorem State.unansweredAt_safe (h : Safe Q s) (p : Port) : Safe Q (s.unansweredAt p) := by
  unfold State.unansweredAt; (try dsimp only); (repeat' split) <;> simp (maxDischargeDepth := 30) [h]
@[simp] theorem State.checkErrorAt_safe (h : Safe Q s) (p : Port) : Safe Q (s.checkErrorAt p) := by
  unfold State.checkErrorAt; (try dsimp only); (repeat' split) <;> simp (maxDischargeDepth := 30) [h]
@[simp] theorem State.grantOverdue_safe (h : Safe Q s) (level : Nat) : Safe Q (s.grantOverdue level) := by
  unfold State.grantOverdue; (repeat' split) <;> simp (maxDischargeDepth := 30) [h]
@[simp] theorem State.takeStatus_safe (h : Safe Q s) (x : Side) (accepted : BitVec 4) : Safe Q (s.takeStatus x accepted) := by
  unfold State.takeStatus; (try dsimp only); (repeat' split) <;> simp (maxDischargeDepth := 30) [h]
@[simp] theorem State.takeArrived_safe (h : Safe Q s) (x : Side) (trip : Byte) (stop : Nat) : Safe Q (s.takeArrived x trip stop) := by
  unfold State.takeArrived; (repeat' split) <;> simp (maxDischargeDepth := 30) [h]
@[simp] theorem State.liftFaults_safe (h : Safe Q s) (x : Side) (code : Byte) : Safe Q (s.liftFaults x code) := by
  unfold State.liftFaults; simp (maxDischargeDepth := 30) [h]
@[simp] theorem State.takeStopDone_safe (h : Safe Q s) (x : Side) (trip : Byte) (stop : Nat) (result : StopResult) : Safe Q (s.takeStopDone x trip stop result) := by
  unfold State.takeStopDone; (try dsimp only); (repeat' split) <;> simp (maxDischargeDepth := 30) [h]
@[simp] theorem State.takeTripEnd_safe (h : Safe Q s) (x : Side) (trip : Byte) : Safe Q (s.takeTripEnd x trip) := by
  unfold State.takeTripEnd; (repeat' split) <;> simp (maxDischargeDepth := 30) [h]
@[simp] theorem State.takeReady_safe (h : Safe Q s) (x : Side) : Safe Q (s.takeReady x) := by
  unfold State.takeReady; (repeat' split) <;> simp (maxDischargeDepth := 30) [h]
@[simp] theorem State.takeParkedAck_safe (h : Safe Q s) (x : Side) : Safe Q (s.takeParkedAck x) := by
  unfold State.takeParkedAck; (repeat' split) <;> simp (maxDischargeDepth := 30) [h]
@[simp] theorem State.takeState_safe (h : Safe Q s) (x : Side) (level : Nat) (front rear : Bool) (trip : Byte) (last : Nat) (fault : Byte) : Safe Q (s.takeState x level front rear trip last fault) := by
  unfold State.takeState; (try dsimp only); (repeat' split) <;> simp (maxDischargeDepth := 30) [h]
@[simp] theorem State.resendCommand_safe (h : Safe Q s) (x : Side) : Safe Q (s.resendCommand x) := by
  unfold State.resendCommand; (try dsimp only); (repeat' split) <;> simp (maxDischargeDepth := 30) [h]
@[simp] theorem State.repeatStateAsk_safe (h : Safe Q s) (x : Side) : Safe Q (s.repeatStateAsk x) := by
  unfold State.repeatStateAsk; (try dsimp only); (repeat' split) <;> simp (maxDischargeDepth := 30) [h]
@[simp] theorem State.wakeFails_safe (h : Safe Q s) (x : Side) : Safe Q (s.wakeFails x) := by
  unfold State.wakeFails; (repeat' split) <;> simp (maxDischargeDepth := 30) [h]
@[simp] theorem State.overrunEntry_safe (h : Safe Q s) (e : Entry) : Safe Q (s.overrunEntry e) := by
  unfold State.overrunEntry; (repeat' split) <;> simp (maxDischargeDepth := 30) [h]
@[simp] theorem State.deadlineExpires_safe (h : Safe Q s) (x : Side) : Safe Q (s.deadlineExpires x) := by
  unfold State.deadlineExpires
  split
  · exact h
  · split
    · exact foldl_safe _ (fun t e ht => State.overrunEntry_safe ht e) _ _
        (State.raiseLift_safe (State.updateLift_safe h _ _) _ _ _)
    · exact h
@[simp] theorem State.arriveIfClear_safe (h : Safe Q s)  : Safe Q (s.arriveIfClear) := by
  unfold State.arriveIfClear; (repeat' split) <;> simp (maxDischargeDepth := 30) [h]
@[simp] theorem State.divertReaches_safe (h : Safe Q s) (x : Side) : Safe Q (s.divertReaches x) := by
  unfold State.divertReaches; (try dsimp only); (repeat' split) <;> simp (maxDischargeDepth := 30) [h]
@[simp] theorem State.divertEnds_safe (h : Safe Q s)  : Safe Q (s.divertEnds) := by
  unfold State.divertEnds; (repeat' split) <;> simp (maxDischargeDepth := 30) [h]
@[simp] theorem State.takenByHand_safe (h : Safe Q s)  : Safe Q (s.takenByHand) := by
  unfold State.takenByHand; (try dsimp only); (repeat' split) <;> simp (maxDischargeDepth := 30) [h]
@[simp] theorem State.senseSpur_safe (h : Safe Q s) (p count : Nat) : Safe Q (s.senseSpur p count) := by
  unfold State.senseSpur; (try dsimp only); simp (maxDischargeDepth := 30) [h]
@[simp] theorem State.mismatchExpires_safe (h : Safe Q s) (p : Nat) : Safe Q (s.mismatchExpires p) := by
  unfold State.mismatchExpires; (try dsimp only); (repeat' split) <;> simp (maxDischargeDepth := 30) [h]
@[simp] theorem State.endRelease_safe (h : Safe Q s)  : Safe Q (s.endRelease) := by
  unfold State.endRelease; (try dsimp only); simp (maxDischargeDepth := 30) [h]
@[simp] theorem State.compareRead_safe (h : Safe Q s) (n : Nat) (c : Context) (r : Read) : Safe Q (s.compareRead n c r) := by
  unfold State.compareRead; (repeat' split) <;> simp (maxDischargeDepth := 30) [h]
@[simp] theorem State.passCard_safe (h : Safe Q s) (n : Nat) (c : Context) : Safe Q (s.passCard n c) := by
  unfold State.passCard; (repeat' split) <;> simp (maxDischargeDepth := 30) [h]
@[simp] theorem State.passes_safe (h : Safe Q s)  : Safe Q (s.passes) := by
  unfold State.passes; (try dsimp only); (repeat' split) <;> simp (maxDischargeDepth := 30) [h]
@[simp] theorem State.overdue_safe (h : Safe Q s)  : Safe Q (s.overdue) := by
  unfold State.overdue; (try dsimp only); (repeat' split) <;> simp (maxDischargeDepth := 30) [h]
@[simp] theorem State.stallExpires_safe (h : Safe Q s)  : Safe Q (s.stallExpires) := by
  unfold State.stallExpires; (try dsimp only); (repeat' split) <;> simp (maxDischargeDepth := 30) [h]

/-! ### INIT -/

theorem Store.loaded_sound (st : Store) (h : st.op = none) : st.loaded.Sound := by
  refine ⟨fun r e => ?_, fun o r e => ?_⟩
  · unfold Store.loaded at e
    dsimp only at e
    split at e
    · rename_i hc
      obtain rfl := Option.some.inj e
      exact Option.isNone_iff_eq_none.mp hc
    · simp at e
  · unfold Store.loaded at e
    dsimp only at e
    rw [h] at e
    simp at e

/-- What a cut COMMIT or ERASE leaves fails item 1 of its check, or is the whole record (R170). -/
theorem cutProfile_fails_or_whole (k : Nat) (whole : Option (List Byte)) :
    checkRecord (cutProfile k whole) = some 1 ∨ whole = some (cutProfile k whole) := by
  unfold cutProfile
  dsimp only
  split
  · rename_i h
    simp only [Bool.or_eq_true, beq_iff_eq] at h
    exact h.imp_right Eq.symm
  · exact .inl (by decide +kernel)

/-- A slot whose RETIRE was cut short is spoiled (R171). -/
theorem spoiled_is_spoiled (x : Slot) : slotIsSpoiled (spoiled x) = true := by
  unfold spoiled
  split
  · assumption
  · decide

theorem Store.cut_op (st : Store) (k : Nat) : (st.cut k).op = none := by
  unfold Store.cut
  split
  · assumption
  · split <;> rfl

/-- INIT leaves a sound state whatever it begins from, as long as the memory it keeps is in its canonical form. -/
theorem State.initialise_safe (hp : s.pending = Q) (aisle : BitVec 6) (kept : List Host.Cell) (hk : Memory.wf kept = true) :
    Safe Q (s.initialise aisle kept) := by
  refine State.initPlaces_safe ⟨hp, ?_, hk, Store.loaded_sound _ (Store.cut_op _ _)⟩
  rfl

/-! ### Settling (R7) -/

theorem State.runRetry_safe (h : Safe Q s) (r : Retry) (t : State) (e : s.runRetry r = some t) : Safe Q t := by
  cases r
  · exact State.walk_safe h t e
  · exact State.tryMerge_safe h t e
  · exact State.tryPlan_safe h _ t e
  · exact State.retest_safe h _ _ t e
  · exact State.trySend_safe h _ t e
  · exact State.divertChoice_safe h t e
  · exact State.tryReject_safe h t e

theorem State.act_safe (h : Safe Q s) (r : Retry) : Safe Q (s.act r) := by
  have ht : Safe Q { s with wake := s.wake.filter (fun q => q != r) } := h.congr rfl rfl rfl
  unfold State.act
  dsimp only
  cases e : State.runRetry { s with wake := s.wake.filter (fun q => q != r) } r with
  | none => exact ht
  | some t => exact State.runRetry_safe ht r t e

theorem State.settle_safe (k : Nat) (h : Safe Q s) : Safe Q (State.settle k s) := by
  induction k generalizing s with
  | zero => exact h.congr rfl rfl rfl
  | succ k ih =>
    unfold State.settle
    split
    · exact h.congr rfl rfl rfl
    · exact ih (State.act_safe h _)
    · refine ih (State.act_safe ?_ _)
      exact h.congr rfl rfl rfl

/-- Settling keeps the queue, the evenness and the memory's form. -/
@[simp] theorem State.resolved_safe (h : Safe Q s) : Safe Q s.resolved := State.settle_safe _ h

theorem State.settle_wake (k : Nat) : (State.settle k s).wake = [] := by
  induction k generalizing s with
  | zero => rfl
  | succ k ih =>
    unfold State.settle
    split
    · rfl
    · exact ih
    · exact ih

/-- After settling nobody is left waiting to act. -/
@[simp] theorem State.resolved_wake : s.resolved.wake = [] := State.settle_wake _

/-- With nobody told, settling changes nothing. -/
@[simp] theorem State.resolved_quiet (h : s.wake = []) : s.resolved = s := by
  have hr : s.ready = [] := by simp [State.ready, h]
  show State.settle 256 s = s
  unfold State.settle
  rw [hr]
  dsimp only
  rw [← h]

/-! ### Events -/

/-- An event ends in a next state with the queue, the evenness and the memory's form kept and nobody left waiting. -/
theorem State.event_next (h : Safe Q s) (f : State → State) (hf : ∀ t, Safe Q t → Safe Q (f t)) :
    ∃ u, s.event f = .next u ∧ Safe Q u ∧ u.wake = [] :=
  ⟨_, rfl, State.resolved_safe (hf _ (State.begin_safe h)), State.resolved_wake⟩

/-- As `event_next`, for an event that INIT ignores. -/
theorem State.live_next (h : Safe Q s) (f : State → State) (hf : ∀ t, Safe Q t → Safe Q (f t)) :
    ∃ u, s.live f = .next u ∧ Safe Q u ∧ u.wake = [] :=
  State.event_next h _ (fun t ht => ite_safe ht (hf t ht))

/-- As `live_next`, for an examination. -/
theorem State.examine_next (h : Safe Q s) (row : Nat → Bool) (f : Nat → State → State)
    (hf : ∀ n t, Safe Q t → Safe Q (f n t)) : ∃ u, s.examine row f = .next u ∧ Safe Q u ∧ u.wake = [] := by
  refine State.live_next h _ (fun t ht => ?_)
  split
  · exact ht
  · split
    · exact hf _ _ (State.takeHead_safe ht _)
    · exact ht

/-- As `live_next`, for a lift's frame. -/
theorem State.liftFrameIn_next (h : Safe Q s) (x : Side) (f : State → State) (hf : ∀ t, Safe Q t → Safe Q (f t)) :
    ∃ u, s.liftFrameIn x f = .next u ∧ Safe Q u ∧ u.wake = [] :=
  State.live_next h _ (fun _ ht => hf _ (State.hear_safe ht x))

end Sys2Proof.Machine
end

