-- ==== Sys2Proof/Laws/Told.lean ====
section
/-! SUPPORT. Who has been told of a change (R7), and which stops an event concerns (R116). -/

namespace Sys2Proof.Machine

/-- Telling one neighbour adds it, once, and nobody else. -/
@[simp] theorem State.mem_tell (s : State) (r q : Retry) : q ∈ (s.tell r).wake ↔ q ∈ s.wake ∨ q = r := by
  unfold State.tell
  split
  · exact ⟨Or.inl, fun h => h.elim id (fun e => e ▸ ‹_›)⟩
  · simp

/-- Telling several neighbours adds these and nobody else. -/
@[simp] theorem State.mem_tellAll (s : State) (rs : List Retry) (q : Retry) :
    q ∈ (s.tellAll rs).wake ↔ q ∈ s.wake ∨ q ∈ rs := by
  unfold State.tellAll
  induction rs generalizing s with
  | nil => simp
  | cons r rs ih => simp [ih, or_assoc]

/-- An event of another place tests no waiting stop (R116). -/
theorem Prompt.concerns_place (w : Prompt) (st : Stop) (h : w.concerns st = true) :
    w = .running ∨ w = .place st.place ∨ (w = .head st.place ∧ st.action = .load) := by
  cases w with
  | running => exact .inl rfl
  | place p => simp only [Prompt.concerns, beq_iff_eq] at h; exact .inr (.inl (h ▸ rfl))
  | head p =>
    simp only [Prompt.concerns, Bool.and_eq_true, beq_iff_eq] at h
    exact .inr (.inr ⟨h.1 ▸ rfl, h.2⟩)

end Sys2Proof.Machine
end

