-- ==== Sys2Proof/Tests/Slice0.lean ====
section
/-! SUPPORT. Our own tests: well-formedness, worked values of the spec, one or two events run on small states, and for each
statement concrete states that meet its hypotheses, clause by clause at the ends of their ranges. -/

namespace Sys2Proof.Tests

set_option Elab.async false

open Sys2Proof Sys2Proof.Machine

/-! ### Well-formed and ill-formed commands -/

theorem test_wellFormed_accepts :
    (Instr.exchangeWrite 0x7FFC [0, 0, 0, 0]).wellFormed ∧ (Instr.postedWrite 127 0x01).wellFormed ∧
      (Instr.freeWrite 0).wellFormed ∧ (Instr.acknowledge 47).wellFormed ∧ (Instr.registerWrite 0x40 1 0).wellFormed ∧
      (Instr.grantTimerExpiry 40).wellFormed ∧ (Instr.state .a 40 true false 0 8 0).wellFormed ∧
      (Instr.spurCountChange .exitB 3).wellFormed ∧ (Instr.mismatchTimerExpiry 168).wellFormed := by decide

theorem test_wellFormed_refuses_access :
    (Instr.exchangeWrite 0 []).wellFormed = false ∧ (Instr.exchangeWrite 0 [0, 0, 0]).wellFormed = false ∧
      (Instr.exchangeWrite 0x7FFF [0, 0]).wellFormed = false ∧ (Instr.registerWrite 0 3 0).wellFormed = false ∧
      (Instr.postedWrite 128 0x01).wellFormed = false ∧ (Instr.postedWrite 0 0x00).wellFormed = false ∧
      (Instr.freeWrite 128).wellFormed = false ∧ (Instr.acknowledge 48).wellFormed = false ∧
      (Instr.clearEntry 48).wellFormed = false := by decide

theorem test_wellFormed_refuses_events :
    (Instr.commitEnd true []).wellFormed = false ∧
      (Instr.eraseEnd [] (Vector.replicate 32 slotErased)).wellFormed = false ∧
      (Instr.grantTimerExpiry 0).wellFormed = false ∧ (Instr.grantTimerExpiry 41).wellFormed = false ∧
      (Instr.status .a 41 0).wellFormed = false ∧ (Instr.arrived .b 1 256).wellFormed = false ∧
      (Instr.stopDone .a 1 256 .ok).wellFormed = false ∧ (Instr.state .a 41 false false 0 0 0).wellFormed = false ∧
      (Instr.state .a 0 false false 0 9 0).wellFormed = false ∧ (Instr.fault .a 0).wellFormed = false ∧
      (Instr.spurCountChange .entryA 4).wellFormed = false ∧ (Instr.mismatchTimerExpiry 169).wellFormed = false := by decide

/-- The table gives no row any bits, so no word spells a command and withFetchWord changes nothing. -/
theorem test_no_word_spells_a_command :
    decodeTableWord 32 0 = none ∧ State.reset.withFetchWord 32 0 = State.reset := ⟨rfl, rfl⟩

/-! ### Worked values of the spec -/

/-- The check word over the nine bytes 31h to 39h is 29B1h (8.8). -/
theorem test_crc_of_nine_digits : crc16 [0x31, 0x32, 0x33, 0x34, 0x35, 0x36, 0x37, 0x38, 0x39] = 0x29B1 := by
  decide +kernel

/-- Level 12, side B, outbound is place 46 (1.1.1); level 14, side A, inbound is place 53 (2.4). -/
theorem test_place_numbers : outLane 12 .b = 46 ∧ inLaneOf 14 .a = 53 ∧ outLane 6 .b = 22 ∧ inLaneOf 40 .b = 159 := by
  decide

/-- With N = 65,533 the number 2 is 5 ahead (4.5); with N = 65,530 the number 65,529 is behind (3.1). -/
theorem test_serial_order :
    ({ State.reset with release := { State.reset.release with n := 65533 } }).distance 2 = 5 ∧
      ({ State.reset with release := { State.reset.release with n := 65530 } }).ahead 3 = true ∧
      ({ State.reset with release := { State.reset.release with n := 65530 } }).ahead 65529 = false := by decide

/-- A profile of 16 levels, split at 8, with TT[d] = 108 + 24 d, every lane fitted, T_LOAD 40, T_UNLOAD 35, MARGIN_M 4,
MARGIN_F 200, W 8. -/
def record : List Byte :=
  [0x01, 0x0A, 16, 8, 40, 35, 44, 1, 4, 8, 200, 0, 60, 20, 30, 6] ++
  [132, 0, 156, 0, 180, 0, 204, 0, 228, 0, 252, 0, 20, 1, 44, 1, 68, 1, 92, 1, 116, 1, 140, 1, 164, 1, 188, 1, 212, 1, 236, 1] ++
  List.replicate 48 0 ++ List.replicate 16 0x0F ++ List.replicate 24 0 ++ [0x40, 0xA1]

theorem test_record_is_valid : checkRecord record = none ∧ record.length = 138 := by decide +kernel

/-- A record with a corrupted byte, and an erased one, fail at item 1 (R170). -/
theorem test_bad_records_fail :
    checkRecord (record.set 9 0) = some 1 ∧ checkRecord erasedRecord = some 1 := by decide +kernel

/-! ### Small states -/

/-- The block after reset, in mode `m`. -/
def base (m : Mode) : State := { State.reset with mode := m }

/-- With the record as active profile, the lanes of level 1 fitted and sensed empty, every node ALIVE at the bottom port,
which polls level 1. -/
def rig (m : Mode) : State :=
  { base m with
    store := { State.reset.store with active := some record }
    places := (((State.reset.places.setIfInBounds 0 { fitted := true, sensed := some 0 }).setIfInBounds 1
      { fitted := true, sensed := some 0 }).setIfInBounds 2 { fitted := true, sensed := some 0 }).setIfInBounds 3
      { fitted := true, sensed := some 0 }
    chain :=
      { nodes := Vector.replicate 40 { state := .alive, port := some .bottom }
        bottom := { level := 1, exchange := some ⟨1, .poll, 2⟩ }, top := {} } }

/-- An open order. -/
def order (k : OrderKind) (ph : Phase) : Context :=
  { kind := k, tote := 7, level := 1, pref := .any, seq := none, phase := ph, side := none, place := none, demoted := false,
    cancelRequested := false, seqState := .absent, failure := none, trip := 0, accepted := 1, bound := 0, loaded := 0,
    finished := 0, sideChanged := false, demotedFlag := false, overrun := false, idMismatch := false, returned := false,
    delivered := false }

/-- Card `n` is open. -/
def opened (s : State) (n : Nat) (c : Context) : State := s.setContext n (some c)

/-- Place `p` has record `q`. -/
def placed (s : State) (p : Nat) (q : Place) : State := { s with places := s.places.setIfInBounds p q }

/-- The bytes of a card slot from its state byte to byte 16. -/
def cardBytes (state kind flags pref tote level selector : Byte) (seq : Half) (target : Byte) : List Byte :=
  [state, kind, flags, pref, 0, 0, 0, 0, tote, 0, 0, 0, level, selector] ++ bytes16 seq ++ [target]

/-- Card `n`, of these bytes, is alone in the post queue. -/
def posts (s : State) (n : Nat) (bs : List Byte) : State :=
  { s with board := { s.board with mem := Memory.write [] (cardAddr n 0) bs, postQueue := [n] } }

/-- A stop of a trip. -/
def aStop (level place : Nat) (a : Action) (d : Deck) (c : Option Claim) (e : Entry) : Stop :=
  { level := level, place := place, action := a, deck := d, claim := c, expected := e, reserved := a == .unload,
    guarded := false, outcome := .stillOpen }

/-- The remainder 8 → 3 → 0 of 5.7: one load and two unloads give E = 518 and D = 848. -/
theorem test_estimate_and_deadline :
    let p := (rig .run).planOf .normal 8
      [aStop 3 8 .load .front none .foreign, aStop 0 162 .unload .front none .foreign, aStop 0 162 .unload .rear none .foreign]
    p.estimate = 518 ∧ p.deadline = 848 := by decide +kernel

/-! ### How the structures of hypotheses are shown -/

theorem awake_of {s : State} (h : s.mode ≠ .init ∧ s.wake = [] ∧ s.store.noProfileDue = false) : Awake s :=
  ⟨h.1, h.2.1, h.2.2⟩

theorem live_of {s : State} (h : s.mode ≠ .init ∧ s.store.noProfileDue = false) : Live s := ⟨h.1, h.2⟩

theorem head_of {s : State} {k : Byte} {n : Nat} {rest : List Nat}
    (h : (s.mode ≠ .init ∧ s.wake = [] ∧ s.store.noProfileDue = false) ∧ s.board.postQueue = n :: rest ∧ n < 128 ∧ s.cardKind n = k) : Head s k n rest :=
  ⟨awake_of h.1, h.2.1, h.2.2.1, h.2.2.2⟩

theorem inOrder_of {s : State} {p : Port} {level : Byte} {number : BitVec 4} (left : Nat)
    (h : (s.mode ≠ .init ∧ s.store.noProfileDue = false) ∧ (s.chainPort p).exchange = some ⟨level.toNat, .poll, left⟩ ∧
      s.alive level.toNat = true ∧
      ((s.node level.toNat).expected = none ∨ (s.node level.toNat).expected = some number)) : InOrder s p level number :=
  ⟨h.1.1, h.1.2, ⟨left, h.2.1⟩, h.2.2.1, h.2.2.2⟩

theorem linkUp_of {s : State} {x : Side} (h : s.mode ≠ .init ∧ s.store.noProfileDue = false ∧
    (s.lift x).state ≠ .offline) : LinkUp s x := ⟨h.1, h.2.1, h.2.2⟩

theorem current_of {s : State} {x : Side} {t : Trip} {i : Nat} {st : Stop} {ph : StopPhase} {trip : Byte} {stop : Nat}
    (h : (s.lift x).trip = some t ∧ t.current = some i ∧ t.stop i = some st ∧ t.phase = ph ∧ t.number = trip ∧ i + 1 = stop) :
    CurrentStop s x t i st ph trip stop := ⟨h.1, h.2.1, h.2.2.1, h.2.2.2.1, h.2.2.2.2.1, h.2.2.2.2.2⟩

/-- The states of this file that hold the record satisfy the invariant. -/
theorem inv_of {s : State} (h : s.board.changeCount.toNat % 2 = 0 ∧ Memory.wf s.board.mem = true ∧ s.wake = [] ∧
    s.store.op = none ∧ s.store.active = some record) : Inv s :=
  ⟨h.1, h.2.1, ⟨fun r e => by rw [h.2.2.2.2] at e; cases e; exact test_record_is_valid.1,
    fun o r e _ => by rw [h.2.2.2.1] at e; cases e⟩, h.2.2.1⟩

/-- A card that is open beside the one at the head. -/
theorem head_opened {s : State} {k : Byte} {m n : Nat} {rest : List Nat} {c : Context} (h : Head s k m rest) :
    Head (opened s n c) k m rest := ⟨⟨h.awake.mode, h.awake.quiet, h.awake.reported⟩, h.queue, h.slot, h.kind⟩

theorem ctx_opened {s : State} {n : Nat} (c : Context) (h : n < 128) : (opened s n c).ctx n = some c := by
  simp [opened, State.ctx, State.setContext, h]

theorem target_opened {s : State} {n m : Nat} {c : Context} : (opened s n c).cardTarget m = s.cardTarget m := rfl

/-! ### The hypotheses of the statements are met: the block and its queue -/

theorem test_hyp_StepRunsFront : ({ State.reset with pending := [.pass] }).pending = Instr.pass :: [] := rfl

theorem test_hyp_IdleStep :
    ((base .config).pending = [] ∧ (base .config).due = []) ∧ ((base .init).mode = .init ∧ (base .run).mode ≠ .init) ∧
      ({ base .config with store := { State.reset.store with noProfileDue := true } }).due ≠ [] := by decide +kernel

theorem test_hyp_StepKeepsInvariant : ∃ s t : State, Inv s ∧ step s = .next t :=
  ⟨{ rig .run with pending := [.causeWrite 0] }, _, inv_of (by decide +kernel), rfl⟩

theorem ctx_absent {s : State} (h : s.contexts = Vector.replicate 128 none) (n : Nat) : s.ctx n = none := by
  rw [State.ctx, h, Vector.getElem?_replicate]
  split <;> rfl

theorem roster_of {s : State} (h : s.board.postQueue = [] ∧ s.board.finishList = [] ∧ s.contexts = Vector.replicate 128 none ∧
    s.store.op = none ∧ s.handover.held = []) : Roster s where
  posted := by rw [h.1]; exact ⟨List.nodup_nil, fun n m => by cases m⟩
  finished := by rw [h.2.1]; exact ⟨List.nodup_nil, fun n m => by cases m⟩
  taken := fun n c e => by rw [ctx_absent h.2.2.1] at e; cases e
  levels := fun n c e => by rw [ctx_absent h.2.2.1] at e; cases e
  storing := fun o e => by rw [h.2.2.2.1] at e; cases e
  asks := by rw [h.2.2.2.2]; exact List.nodup_nil

theorem test_hyp_StepKeepsRoster : ∃ s t : State, Inv s ∧ Roster s ∧ step s = .next t :=
  ⟨{ rig .run with pending := [.postedWrite 127 0x01] }, _, inv_of (by decide +kernel), roster_of (by decide +kernel), rfl⟩

theorem test_hyp_NeighboursKeepFrame : (rig .run).wake = [] ∧ (rig .hold).mode ≠ .run := ⟨rfl, by decide⟩

theorem test_hyp_InitIgnoresCommands : State.reset.mode = .init ∧ State.reset.wake = [] ∧ takenInInit .pass = false := by decide

/-- ENTRY-ARRIVE and a spur count are followed in INIT, and nothing arrives or is sensed by them (log 9). -/
theorem test_lines_in_init :
    (match exec .entryArrive State.reset with
      | .next t => t == { State.reset with lines := { State.reset.lines with entryArrive := true } } | _ => false) = true ∧
      (match exec (.spurCountChange .entryA 2) State.reset with
      | .next t => t == { State.reset with lines := { State.reset.lines with spurCounts := #v[2, 0, 0, 0] } }
      | _ => false) = true := by decide +kernel

theorem test_hyp_PowerOnAndReset : State.reset.store.op = none ∧ (0x4000 : Nat) ≤ 0x7FFF ∧
    (∀ w : StoreWork, ({ State.reset with store := { State.reset.store with op := some ⟨w, 0, 1⟩ } } : State).store.op =
      some ⟨w, 0, 1⟩) := ⟨by decide, by decide, fun _ => rfl⟩

theorem test_hyp_InitEnd :
    (let s : State := { base .config with store := { State.reset.store with noProfileDue := true } }
     s.mode ≠ .init ∧ s.store.noProfileDue = true ∧ s.wake = []) ∧
      Awake (base .config) ∧ ((rig .init).mode = .init ∧ (rig .init).hasProfile = true ∧ (rig .init).levels = 16) ∧
      ((base .init).mode = .init ∧ (base .init).hasProfile = false) :=
  ⟨by decide +kernel, awake_of (by decide), by decide +kernel, by decide +kernel⟩

/-- NO_PROFILE, due at INIT's end, is raised in the first event after it, here CLEAR_ENTRY of its own entry, which then clears it
(R171). -/
theorem test_no_profile_comes_first :
    let s : State := { base .config with store := { State.reset.store with noProfileDue := true } }
    s.begin.store.noProfileDue = false ∧ (s.begin.cond srcStore).code = some .noProfile ∧
      (match exec (.clearEntry 7) s with | .next t => !t.store.noProfileDue && (t.cond 7).code == none | _ => false) = true := by
  decide +kernel

theorem test_hyp_EStopLine :
    ((rig .run).Reported ∧ (rig .run).wake = [] ∧ (rig .run).mode = .run) ∧ (State.reset.Reported ∧ State.reset.wake = []) :=
  ⟨⟨fun _ => rfl, rfl, rfl⟩, fun _ => rfl, rfl⟩

theorem test_hyp_ModeRequests :
    (∀ m, m ≠ Mode.init → Awake (rig m) ∧ Awake (base m)) ∧
      ((base .config).hasProfile = false ∧ { rig .config with lines := { State.reset.lines with eStop := true } }.lines.eStop = true ∧
        ({ rig .config with store := { (rig .config).store with op := some ⟨.erase, 0, 1⟩ } }).profileBusy = true ∧
        (rig .config).hasProfile = true ∧ (rig .config).lines.eStop = false ∧ (rig .config).profileBusy = false) ∧
      (opened (rig .hold) 127 (order .store .awaited)).ctx 127 ≠ none ∧
      ((rig .hold).lift .a).state ≠ .idle ∧
      (let s := (rig .hold).setLift .a { state := .idle, pending := some ⟨.normal, 0, [aStop 0 162 .unload .front none .foreign], 1, 1⟩ }
       (s.lift .a).state = .idle ∧ (s.lift .a).pending ≠ none) :=
  ⟨fun m h => ⟨⟨h, rfl, rfl⟩, ⟨h, rfl, rfl⟩⟩, by decide +kernel, by decide +kernel⟩

theorem test_mode_contexts_absent : ∀ n, (rig .hold).ctx n = none := by
  intro n
  simp only [State.ctx, rig, base, State.reset]
  rcases h : (Vector.replicate 128 (none : Option Context))[n]? with _ | x
  · rfl
  · rw [Vector.getElem?_replicate] at h
    split at h
    · cases h; rfl
    · cases h

/-! ### The memory port -/

theorem test_hyp_CardStateWrites :
    Awake (base .config) ∧ (base .config).cardState 0 = cardFree ∧ (base .config).cardState 127 = cardFree ∧
      cardFinal ((posts (base .config) 127 [cardDone]).cardState 127) = true ∧
      (¬((base .config).cardState 127 = cardFree ∧ ((0x02 : Byte) = cardPosted ∨ (0x02 : Byte) = cardFree)) ∧
        ¬(cardFinal ((base .config).cardState 127) = true ∧ (0x02 : Byte) = cardFree)) :=
  ⟨awake_of (by decide), by decide +kernel, by decide +kernel, by decide +kernel, by decide +kernel⟩

theorem test_hyp_ExchangeWrites :
    Awake (base .config) ∧
      (∀ a ∈ [0x00C0, 0x00FF, 0x0400, 0x09FF, 0x0C80, 0x1001, 0x2FFF, 0x3000, 0x7FFF],
        Memory.home a = true ∧ ¬(0x1000 ≤ a ∧ a < 0x3000 ∧ (a - 0x1000) % 64 = 0)) ∧
      (∀ a ∈ [0x0000, 0x00BF, 0x0A00, 0x0C7F, 0x0100, 0x0103, 0x03FF],
        a < 0x00C0 ∨ (0x0A00 ≤ a ∧ a < 0x0C80) ∨ (0x0100 ≤ a ∧ a < 0x0400 ∧ (a - 0x0100) % 16 ≠ 2)) ∧
      ((0x0102#15).toNat = 0x0102 + 16 * 0 ∧ (0x03F2#15).toNat = 0x0102 + 16 * 47) ∧
      ((0x1000#15).toNat = cardAddr 0 0 ∧ (0x2FC0#15).toNat = cardAddr 127 0) ∧
      ((0x7FFE#15).toNat + 1 < 0x8000 ∧ ∃ t, exec (.exchangeWrite 0x7FFE [1]) (base .config) = .next t) :=
  ⟨awake_of (by decide), by decide, by decide, by decide, by decide, by decide, _, rfl⟩

theorem test_hyp_AcknowledgeWrites :
    Awake (base .config) ∧ (0 : Nat) < 48 ∧ (47 : Nat) < 48 ∧ (0x00 : Byte) ≠ 0x01 ∧ (0x03 : Byte) ≠ 0x02 :=
  ⟨awake_of (by decide), by decide⟩

theorem test_hyp_RegisterWrites :
    Awake (base .config) ∧ ((4 : Word) ≠ 1 ∧ (4 : Word) ≠ 2 ∧ (4 : Word) ≠ 3) ∧ (2 : Nat) ≠ 4 ∧
      (∀ off ∈ [0x00, 0x05, 0x10, 0x14], off ≠ 0x04 ∧ off ≠ 0x08 ∧ off ≠ 0x0C) :=
  ⟨awake_of (by decide), by decide⟩

/-- The entries of a read: the first and the last condition entry, a slot, the places of each kind of mirror record. -/
theorem test_hyp_Reads :
    ((0 : Nat) < 48 ∧ (47 : Nat) < 48 ∧ (511 : Nat) < 512) ∧ State.reset.store.slots[31]? = some slotErased ∧
      (((rig .run).place 0).fitted = true ∧ ((rig .run).place 159).fitted = false ∧ (168 : Nat) < 169) ∧
      (∀ a ∈ [0x00C0, 0x00FF, 0x0400, 0x09FF, 0x0C80, 0x7FFF], (0x00C0 ≤ a ∧ a < 0x0100) ∨ (0x0400 ≤ a ∧ a < 0x0A00) ∨
        (0x0C80 ≤ a ∧ a < 0x8000)) ∧
      ((rig .run).setPlace 0 { fitted := true, barred := true }).mirrorRecord 0 ≠ (rig .run).mirrorRecord 0 ∧
      ((0x10 : Nat) ∈ [0x00, 0x04, 0x08, 0x0C, 0x10] ∧ (0x11 : Nat) ∉ [0x00, 0x04, 0x08, 0x0C, 0x10]) ∧
      (∀ i, i < 8 → Memory.read ((rig .run).writeMirror 0).board.mem (0x3000 + 8 * 0 + i) =
        (((rig .run).writeMirror 0).mirrorRecord 0).getD i 0x00) := by decide +kernel

/-- Narrow reads and a word read of CLOCK, a read of MODE, and reads at other offsets than the five (R163, R180). -/
theorem test_register_reads :
    let s : State := { base .config with board := { State.reset.board with clock := 0x04030201 } }
    s.registerRead 0x10 1 = [0x01] ∧ s.registerRead 0x10 2 = [0x01, 0x02] ∧ s.registerRead 0x10 4 = [0x01, 0x02, 0x03, 0x04] ∧
      s.registerRead 0x04 4 = [0x01, 0x00, 0x00, 0x00] ∧ s.registerRead 0x14 4 = [0x00, 0x00, 0x00, 0x00] ∧
      s.registerRead 0x02 4 = [0x00, 0x00, 0x00, 0x00] ∧ s.registerRead 0x12 2 = [0x00, 0x00] ∧
      s.registerRead 0x11 1 = [0x00] ∧ s.registerRead 0x10 5 = [0x00, 0x00, 0x00, 0x00, 0x00] := by decide +kernel

theorem test_hyp_RaiseCondition :
    (47 : Nat) < 48 ∧ ((base .run).cond 47).code = none ∧ (((base .run).raise 47 .overflow 1 2).cond 47).code ≠ none := by
  decide +kernel

/-- An enabled latch drives the interrupt output, and CAUSE drops it (R165, R166). -/
theorem test_interrupt_output :
    let s : State := { base .config with board := { State.reset.board with latchMode := true, enable := 0x1E } }
    s.interruptLine = true ∧ (s.clearCauses 0x04).interruptLine = false := by decide +kernel

/-! ### The examiner -/

/-- A RETRIEVE card of tote 7 at level 1, side preference ANY, sequence number 0, in slot 127. -/
def retrieves (s : State) : State := posts s 127 (cardBytes 0x01 0x01 0x01 3 7 1 0 0 0)

/-- A STORE card of tote 7 at level 1, side preference A, in slot 0. -/
def stores (s : State) : State := posts s 0 (cardBytes 0x01 0x02 0x00 1 7 1 0 0 0)

/-- Another kind of card in slot 5. -/
def posted (s : State) (kind level selector : Byte) (seq : Half) (target : Byte) : State :=
  posts s 5 (cardBytes 0x01 kind 0 0 0 level selector seq target)

theorem test_hyp_BadKindRefused :
    Head (posted (base .run) 0x00 0 0 0 0) 0x00 5 [] ∧ Head (posted (base .run) 0x0C 0 0 0 0) 0x0C 5 [] ∧
      0x0B < (0x0C : Byte).toNat :=
  ⟨head_of (by decide +kernel), head_of (by decide +kernel), by decide⟩

theorem test_hyp_OrderChecksPassed :
    let r (m : Mode) (flags pref tote level : Byte) (x : Half) : State :=
      posts (rig m) 127 (cardBytes 0x01 0x01 flags pref tote level 0 x 0)
    let live : Context := { order .retrieve .pending with tote := 9, seq := some 5, seqState := .live }
    ((r .config 1 3 7 1 0).orderCheck 127 .retrieve = some (.wrongMode, 0x00) ∧
      (r .run 2 3 7 1 0).orderCheck 127 .retrieve = some (.badField, 2) ∧
      (r .run 1 3 7 1 0).orderCheck 127 .store = some (.badField, 2) ∧
      (r .run 1 0 7 1 0).orderCheck 127 .retrieve = some (.badField, 3) ∧
      (r .run 1 4 7 1 0).orderCheck 127 .retrieve = some (.badField, 3) ∧
      (r .run 1 3 0 1 0).orderCheck 127 .retrieve = some (.badField, 8) ∧
      (r .run 1 3 7 0 0).orderCheck 127 .retrieve = some (.badField, 12) ∧
      (r .run 1 3 7 17 0).orderCheck 127 .retrieve = some (.badField, 12)) ∧
      ((opened (r .hold 1 3 7 1 0) 0 (order .store .inLane)).orderCheck 127 .retrieve = some (.dupTote, 0) ∧
        (r .run 1 3 7 16 0).orderCheck 127 .retrieve = some (.levelClosed, 16) ∧
        (r .run 1 3 7 1 32768).orderCheck 127 .retrieve = some (.staleSeq, 0) ∧
        ({ r .run 1 3 7 1 5 with release := { State.reset.release with voids := [5] } }).orderCheck 127 .retrieve =
          some (.dupSeq, 0x80) ∧
        (opened (r .run 1 3 7 1 5) 126 live).orderCheck 127 .retrieve = some (.dupSeq, 126) ∧
        (r .run 1 3 7 1 32767).orderCheck 127 .retrieve = none ∧ (r .run 0 1 7 1 32768).orderCheck 127 .retrieve = none) ∧
      Head (r .config 1 3 7 1 0) kindRetrieve 127 [] ∧ Head (stores (base .hold)) kindStore 0 [] :=
  ⟨by decide +kernel, by decide +kernel, head_of (by decide +kernel), head_of (by decide +kernel)⟩

/-- The voiding step at N, at a full list and at one entry less; a card that gives up its number, and one without any. -/
theorem test_hyp_ReleaseAdvances :
    let s (k : Nat) : State := { rig .run with release :=
      { State.reset.release with voids := (List.range k).map (fun i => BitVec.ofNat 16 (i + 1)) } }
    ((s 0).release.n = 0 ∧ ((0 : Half) ≠ 40) ∧ 32 ≤ (s 32).release.voids.length ∧ (s 31).release.voids.length < 32) ∧
      (let c : Context := { order .retrieve .inLane with seq := some 7, seqState := .live }
       (opened (s 31) 127 c).ctx 127 = some c ∧ c.seqState = .live ∧ c.seq = some 7 ∧
         (order .retrieve .inLane).seqState ≠ .live) := by decide +kernel

theorem test_hyp_OrderAccepted :
    (Head (retrieves (rig .run)) kindRetrieve 127 [] ∧ (retrieves (rig .run)).orderCheck 127 .retrieve = none) ∧
      (Head (stores (rig .hold)) kindStore 0 [] ∧ (stores (rig .hold)).orderCheck 0 .store = none) :=
  ⟨⟨head_of (by decide +kernel), by decide +kernel⟩, head_of (by decide +kernel), by decide +kernel⟩

/-- A second card of the tote is refused DUP_TOTE with the first card's number; a number behind N STALE_SEQ (R28). -/
theorem test_order_checks :
    (stores (opened (rig .run) 9 (order .retrieve .inLane))).orderCheck 0 .store = some (.dupTote, 9) ∧
      (retrieves { rig .run with release := { State.reset.release with n := 1 } }).orderCheck 127 .retrieve =
        some (.staleSeq, 0) := by decide +kernel

/-- Card `n` is open, and slot 5 posts a CANCEL of it. -/
def cancels (k : OrderKind) (ph : Phase) (p : Option Nat) : State :=
  opened (posted (rig .run) 0x03 0 0 0 127) 127 { order k ph with place := p }

theorem test_hyp_CancelExamined :
    (Head (posted (rig .run) 0x03 0 0 0 128) kindCancel 5 [] ∧ (posted (rig .run) 0x03 0 0 0 128).cardTarget 5 = 128) ∧
      (Head (posted (rig .run) 0x03 0 0 0 127) kindCancel 5 [] ∧ (posted (rig .run) 0x03 0 0 0 127).cardTarget 5 = 127 ∧
        (posted (rig .run) 0x03 0 0 0 127).ctx 127 = none) ∧
      ∀ k ph p, Head (cancels k ph p) kindCancel 5 [] ∧ (cancels k ph p).cardTarget 5 = 127 ∧
        (cancels k ph p).ctx 127 = some { order k ph with place := p } :=
  ⟨⟨head_of (by decide +kernel), by decide +kernel⟩, ⟨head_of (by decide +kernel), by decide +kernel⟩, fun _ _ _ =>
    ⟨head_opened (head_of (by decide +kernel)),
      target_opened.trans (by decide +kernel), ctx_opened _ (by decide)⟩⟩

theorem test_hyp_FinishOrder :
    (127 : Nat) < 128 ∧ (opened (rig .run) 127 (order .retrieve .inSpur)).ctx 127 = some (order .retrieve .inSpur) := by
  decide +kernel

/-- N = 65,534 with 65,535, 0 and 2 void: one advance steps over 65,535 and 0, and stops at 1 (R50). -/
theorem test_advance_steps_over_voids :
    let t := ({ rig .run with release := { State.reset.release with n := 65534, voids := [65535, 0, 2] } }).advance
    t.release.n = 1 ∧ t.release.voids = [2] ∧ t.release.stall = none := by decide +kernel

/-- A card with a live number, and one without, ended with and without giving its number up (R40). -/
theorem test_finish_gives_up :
    let s := opened (rig .run) 127 { order .retrieve .inSpur with seq := some 0, seqState := .live }
    (s.finishOrder 127 cardDone .none 0).release.n = 1 ∧
      (s.finishOrder 127 cardFailed .flushed 0 (gives := false)).release.n = 0 := by decide +kernel

theorem test_hyp_FlushExamined :
    let f (s : State) : State := posted s 0x04 0 0 0 0
    Head (f (rig .run)) kindFlush 5 [] ∧ (Head (f (rig .hold)) kindFlush 5 [] ∧ (f (rig .hold)).zoneBusy = false) ∧
      (Head (f (placed (rig .hold) 0 { fitted := true, lock := .shuttle })) kindFlush 5 [] ∧
        (f (placed (rig .hold) 0 { fitted := true, lock := .shuttle })).zoneBusy = true) ∧
      ((opened (f (rig .hold)) 127 (order .store .awaited)).ctx 127 ≠ none ∧ (127 : Nat) ≠ 5) ∧
      ((rig .hold).alive (laneLevel 3) = true ∧ ((rig .hold).place 3).awaiting = false ∧ ((rig .hold).place 159).awaiting = true) :=
  ⟨head_of (by decide +kernel), ⟨head_of (by decide +kernel), by decide +kernel⟩, ⟨head_of (by decide +kernel),
    by decide +kernel⟩, by decide +kernel, by decide +kernel⟩

/-- What the aisle computer wrote into the records of a deck and of the divert does not outlive FLUSH (R22). -/
theorem test_flush_rewrites_deck_records :
    let s := (posted (rig .hold) 0x04 0 0 0 0)
    let w : State := { s with board := { s.board with mem := Memory.write s.board.mem 0x3520 (List.replicate 40 0x77) } }
    (match exec .flush w with
      | .next t => t.cardState 5 == cardDone && (List.range 40).all (fun i =>
          Memory.read t.board.mem (0x3520 + i) == (t.mirrorRecord (164 + i / 8)).getD (i % 8) 0x00)
      | _ => false) = true := by decide +kernel

/-- Slot 5 posts a SKIP of `x` while the numbers `voids` are void. -/
def skips (x : Half) (voids : List Half) : State :=
  { posted (rig .hold) 0x05 0 0 x 0 with release := { State.reset.release with voids := voids } }

/-- Thirty-two void numbers, 1 to 32. -/
def fullVoids : List Half := (List.range 32).map (fun i => BitVec.ofNat 16 (i + 1))

theorem test_hyp_Skip :
    (Head (skips 32768 []) kindSkip 5 [] ∧ Head (skips 3 [3]) kindSkip 5 [] ∧ Head (skips 33 fullVoids) kindSkip 5 [] ∧
      Head (skips 0 fullVoids) kindSkip 5 [] ∧ Head (skips 5 []) kindSkip 5 []) ∧
      ((skips 32768 []).cardSeq 5 = 32768 ∧ (skips 3 [3]).cardSeq 5 = 3) ∧
      ((33 : Half) ∉ fullVoids ∧ 32 ≤ fullVoids.length ∧ (33 : Half) ≠ 0 ∧ (0 : Half) ∉ fullVoids) ∧
      ((skips 5 []).findOpen (fun c => c.holds 5) = none ∧
        (opened (skips 5 []) 127 { order .retrieve .pending with seq := some 5, seqState := .live }).findOpen
          (fun c => c.holds 5) = some 127) :=
  ⟨⟨head_of (by decide +kernel), head_of (by decide +kernel), head_of (by decide +kernel), head_of (by decide +kernel),
    head_of (by decide +kernel)⟩, by decide +kernel, by decide +kernel, by decide +kernel⟩

theorem test_hyp_Renumber :
    Head (posted (rig .run) 0x06 0 0 9 0) kindRenumber 5 [] ∧
      ((posted (rig .run) 0x06 0 0 9 0).anyLive = false ∧ (posted (rig .run) 0x06 0 0 9 0).release.voids = [] ∧
        (posted (rig .run) 0x06 0 0 9 0).cardSeq 5 ≠ (posted (rig .run) 0x06 0 0 9 0).release.n) ∧
      (opened (posted (rig .run) 0x06 0 0 9 0) 127 { order .retrieve .pending with seq := some 5, seqState := .live }).anyLive =
        true :=
  ⟨head_of (by decide +kernel), by decide +kernel, by decide +kernel⟩

theorem test_hyp_BarAndUnbarKeep :
    (Inv (posted (rig .run) 0x07 1 3 0 0) ∧ Inv (posted (rig .run) 0x07 17 0 0 0) ∧ Inv (posted (rig .run) 0x08 0 7 0 0) ∧
        Inv (posted (rig .run) 0x08 1 4 0 0)) ∧
      (Head (posted (rig .run) 0x07 1 3 0 0) kindBar 5 [] ∧ (posted (rig .run) 0x07 1 3 0 0).namedPlace 5 3 true = some 3) ∧
      (Head (posted (rig .run) 0x07 17 0 0 0) kindBar 5 [] ∧ (posted (rig .run) 0x07 17 0 0 0).namedPlace 5 0 true = none) ∧
      (Head (posted (rig .run) 0x08 0 7 0 0) kindUnbar 5 [] ∧ (posted (rig .run) 0x08 0 7 0 0).clearOption 5 = false ∧
        (posted (rig .run) 0x08 0 7 0 0).namedPlace 5 7 false = some 163) ∧
      (Head (posted (rig .run) 0x08 1 4 0 0) kindUnbar 5 [] ∧ (posted (rig .run) 0x08 1 4 0 0).namedPlace 5 4 false = none) :=
  ⟨⟨inv_of (by decide +kernel), inv_of (by decide +kernel), inv_of (by decide +kernel), inv_of (by decide +kernel)⟩,
    ⟨head_of (by decide +kernel), by decide +kernel⟩, ⟨head_of (by decide +kernel), by decide +kernel⟩,
    ⟨head_of (by decide +kernel), by decide +kernel⟩, head_of (by decide +kernel), by decide +kernel⟩

theorem test_hyp_UnbarClearExamined :
    let u := posted (placed (rig .run) 3 { fitted := true, sensed := some 1, entries := [.card 127] }) 0x08 1 0x83 0 0
    let l := posted (placed (rig .run) 3 { fitted := true, lock := .lift }) 0x08 1 0x83 0 0
    let d := { u with chain := State.reset.chain }
    let w := posted (rig .run) 0x08 0 0x83 0 0
    (Head w kindUnbar 5 [] ∧ w.clearOption 5 = true ∧ w.namedPlace 5 (w.cardSelector 5 - 0x80) false = none) ∧
    (Inv u ∧ Head u kindUnbar 5 [] ∧ u.clearOption 5 = true ∧ u.namedPlace 5 (u.cardSelector 5 - 0x80) false = some 3 ∧
      (u.place 3).lock = .none ∧ u.alive (laneLevel 3) = true ∧ Entry.card 127 ∈ u.entries 3) ∧
      (Inv l ∧ Head l kindUnbar 5 [] ∧ (l.place 3).lock ≠ .none) ∧ (Inv d ∧ d.alive (laneLevel 3) = false) ∧
      (opened u 127 (order .store .inLane)).ctx 127 ≠ none :=
  ⟨⟨head_of (by decide +kernel), by decide +kernel⟩,
    ⟨inv_of (by decide +kernel), head_of (by decide +kernel), by decide +kernel, by decide +kernel, by decide +kernel,
    by decide +kernel, by decide +kernel⟩, ⟨inv_of (by decide +kernel), head_of (by decide +kernel), by decide +kernel⟩,
    ⟨inv_of (by decide +kernel), by decide +kernel⟩, by decide +kernel⟩

/-- A retirement area whose first slot retires lane 0, or whose every slot does. -/
def slotsFrom (n : Nat) : Vector Slot 32 := (Vector.range 32).map (fun i => if i < n then slotRetiring 0 else slotErased)

/-- The retirement slot of level 30, side A inbound (10.6) is valid and names lane 117; a slot with another check byte is
spoiled (10.2). -/
theorem test_retirement_slots :
    slotRetiring 117 = ⟨30, 1, 0, 224⟩ ∧ slotIsValid (slotRetiring 117) = true ∧ slotLane (slotRetiring 117) = 117 ∧
      slotIsSpoiled ⟨30, 1, 0, 225⟩ = true ∧ slotIsSpoiled slotErased = false := by decide

theorem test_hyp_CommitAndEraseExamined :
    let u := posted (rig .config) 0x0A 0 0 0 0
    (Head u kindCommit 5 [] ∧ u.mode = .config ∧ u.store.op = none ∧ (∀ x, (u.lift x).trip = none) ∧
      checkRecord u.image = some 1) ∧
      Head (posted (rig .config) 0x0B 0 0 0 0) kindErase 5 [] ∧ Head (posted (rig .run) 0x0A 0 0 0 0) kindCommit 5 [] ∧
      ({ u with store := { u.store with op := some ⟨.erase, 0, 1⟩ } }).store.op ≠ none ∧
      checkRecord ({ u with board := { u.board with mem := Memory.write u.board.mem 0x0800 record } }).image = none :=
  ⟨⟨head_of (by decide +kernel), rfl, rfl, fun x => by cases x <;> rfl, by decide +kernel⟩, head_of (by decide +kernel),
    head_of (by decide +kernel), by decide +kernel, by decide +kernel⟩

/-! ### The profile store -/

theorem test_hyp_CommitEnds :
    let s : State := { rig .config with store := { (rig .config).store with op := some ⟨.commit record, 0, 1⟩ } }
    Live s ∧ s.store.op = some ⟨.commit record, 0, 1⟩ ∧ record.length = 138 ∧ erasedRecord.length = 138 ∧
      erasedRecord ≠ record :=
  ⟨live_of (by decide +kernel), by decide +kernel⟩

theorem test_hyp_EraseEnds :
    let s : State := { rig .config with store := { (rig .config).store with op := some ⟨.erase, 127, 1⟩ } }
    Live s ∧ s.store.op = some ⟨.erase, 127, 1⟩ ∧
      (erasedRecord.length = 138 ∧ ∀ x ∈ (slotsFrom 0).toList, x = slotErased) ∧
      ¬(record = erasedRecord ∧ ∀ x ∈ (slotsFrom 0).toList, x = slotErased) :=
  ⟨live_of (by decide +kernel), by decide +kernel⟩

theorem test_hyp_RetireEnds :
    (let u := posted (rig .run) 0x09 1 3 0 0
     (Head u kindRetire 5 [] ∧ u.namedPlace 5 (u.cardSelector 5) true = some 3 ∧ u.store.op = none ∧ u.entries 3 = [] ∧
       (u.place 3).res = 0 ∧ (u.place 3).lock = .none ∧ (u.place 3).retired = false ∧
       (u.store.slots[0]? = some slotErased ∧ u.store.failed[0]? = some false)) ∧
       (posted (rig .run) 0x09 1 4 0 0).namedPlace 5 4 true = none ∧
       ({ u with store := { u.store with op := some ⟨.erase, 0, 1⟩ } }).store.op ≠ none ∧
       ((placed u 3 { fitted := true, res := 1 }).place 3).res ≠ 0 ∧
       ((placed u 3 { fitted := true, retired := true }).place 3).retired = true ∧
       (∀ x ∈ (slotsFrom 32).toList, x ≠ slotErased) ∧
       ((slotsFrom 31)[31]? = some slotErased ∧ ∀ i, i < 31 → (slotsFrom 31)[i]? ≠ some slotErased)) ∧
      (let s : State := { rig .config with store := { (rig .config).store with op := some ⟨.retire 159 31, 0, 1⟩ } }
       Live s ∧ s.store.op = some ⟨.retire 159 31, 0, 1⟩ ∧
         (slotIsValid (slotRetiring 159) = true ∧ slotLane (slotRetiring 159) = 159) ∧ slotIsValid slotErased = false) :=
  ⟨⟨⟨head_of (by decide +kernel), by decide +kernel⟩, by decide +kernel⟩, live_of (by decide +kernel), by decide +kernel⟩

/-- A RETIRE whose slot fails and reads back erased, or as another lane's entry: the slot is used and retires no lane, until ERASE
(R175; log 55). -/
theorem test_failed_slot_stays_used :
    let s : State := { rig .config with store := { (rig .config).store with op := some ⟨.retire 1 0, 5, 1⟩ } }
    let t := s.retireEnded ⟨.retire 1 0, 5, 1⟩ 1 0
    ((t slotErased).freeSlot = some 1 ∧ (t slotErased).store.slots[0]? = some slotErased) ∧
      ((t (slotRetiring 2)).freeSlot = some 1 ∧ slotsRetire (t (slotRetiring 2)).store.judged 40 2 = false ∧
        slotsRetire (t (slotRetiring 1)).store.judged 40 1 = true) ∧
      (t slotErased).forgetFailures.freeSlot = some 0 := by decide +kernel

/-- ERASE clears the retired flag of a lane that is not fitted, and writes its record over what the aisle computer wrote there (R21). -/
theorem test_erase_writes_unfitted_record :
    let s := placed { rig .config with board := { State.reset.board with mem := [(0x3000 + 8 * 5, 0x77)] } } 5 { retired := true }
    Memory.read (s.losePlaces true).board.mem (0x3000 + 8 * 5) = 0x00 ∧
      Memory.read (s.losePlaces false).board.mem (0x3000 + 8 * 5) = 0x77 := by decide +kernel

/-! ### The level chain -/

/-- The rig with another exchange in progress at its bottom port. -/
def exchanging (s : State) (e : Option Exchange) : State := s.setPort .bottom { s.chain.bottom with exchange := e }

/-- The rig with another record of the node of level 1. -/
def noded (s : State) (nd : Node) : State := s.setNode 1 nd

theorem test_hyp_ReportsTaken :
    reportOf (.laneCount .bottom 1 5 ⟨0, 0, 0, 0⟩) = some (.bottom, 1, 5) ∧ InOrder (rig .run) .bottom 1 5 ∧
      (let s := noded (rig .run) { state := .alive, port := some .bottom, expected := some 4 }
       s.polls .bottom 1 ∧ s.alive 1 = true ∧ (s.node 1).expected = some 4 ∧ (4 : BitVec 4) ≠ 5 ∧ InOrder s .bottom 1 4) ∧
      (let s := noded (rig .run) { state := .seeking, port := some .bottom }
       s.polls .bottom 1 ∧ (s.node 1).state = .seeking) ∧
      (let s := noded (rig .run) { state := .dead }
       Awake s ∧ s.polls .bottom 1 ∧ (s.node 1).state ≠ .alive ∧ (s.node 1).state ≠ .seeking) ∧
      (Awake (exchanging (rig .run) none) ∧ ¬(exchanging (rig .run) none).polls .bottom 1) :=
  ⟨rfl, inOrder_of 2 (by decide +kernel),
    ⟨⟨2, by decide +kernel⟩, by decide +kernel, by decide +kernel, by decide, inOrder_of 2 (by decide +kernel)⟩,
    ⟨⟨2, by decide +kernel⟩, by decide +kernel⟩,
    ⟨awake_of (by decide +kernel), ⟨2, by decide +kernel⟩, by decide +kernel, by decide +kernel⟩,
    awake_of (by decide +kernel), fun ⟨_, h⟩ => by cases h⟩

/-- What DROP_ASK finds at level 1 with card 127 in a phase. -/
def dropView (s : State) (ph : Phase) : State := ((opened s 127 (order .retrieve ph)).handed .bottom 1 0).dropHeld 1

theorem test_hyp_DropAskTaken :
    InOrder (rig .run) .bottom 1 0 ∧
      (((rig .run).handed .bottom 1 0).dropHeld 1).findOpen (fun c => c.kind == .retrieve && c.tote == 7 && c.level == 1) =
        none ∧
      (∀ ph ∈ [Phase.pending, .held, .granted], (dropView (rig .run) ph).findOpen
          (fun c => c.kind == .retrieve && c.tote == 7 && c.level == 1) = some 127 ∧
        (dropView (rig .run) ph).ctx 127 = some (order .retrieve ph)) ∧
      (dropView (rig .hold) .pending).dropChoice (order .retrieve .pending) 1 = .hold ∧
      (dropView (placed (placed (rig .run) 0 {}) 2 {}) .held).dropChoice (order .retrieve .held) 1 = .closed ∧
      (dropView (rig .run) .pending).dropChoice (order .retrieve .pending) 1 = .grant .a false :=
  ⟨inOrder_of 2 (by decide +kernel), by decide +kernel⟩

/-- A preferred side whose lane is gone gives way to the other; of two sides that pass the smaller zone count has the drop
(R75, R77); outside RUN a candidate waits. The walk finds an ask that is granted behind one that goes on waiting (R85). -/
theorem test_hyp_DropSideChoice :
    ((rig .run).dropChoice { order .retrieve .pending with pref := .b } 1 = .grant .b false ∧
      (placed (rig .run) 2 {}).dropChoice { order .retrieve .pending with pref := .b } 1 = .grant .a true ∧
      (rig .hold).dropChoice (order .retrieve .pending) 1 = .hold ∧ (rig .run).dropChoice (order .retrieve .pending) 2 = .closed) ∧
      ((placed (opened (rig .run) 9 (order .retrieve .inSpur)) 162 { entries := [.card 9] }).dropChoice
          (order .retrieve .pending) 1 = .grant .b false ∧
        (rig .run).canEverAdmit 0 = true ∧ (rig .run).canEverAdmit 2 = true ∧
        (rig .run).passesNow (order .retrieve .pending) 1 .a = true ∧
        (rig .run).passesNow (order .retrieve .pending) 1 .b = true) ∧
      (let s : State := opened (placed { rig .run with handover :=
          { State.reset.handover with held := [.take 2 .a, .drop 1 127 7, .take 1 .a] } } 1 { fitted := true, entries := [.foreign] })
        127 (order .retrieve .held)
       s.mode = .run ∧ s.tryHeld (.take 2 .a) = none ∧ (s.tryHeld (.drop 1 127 7)).isSome = true ∧
         s.takePasses 1 .a = true ∧ s.head 1 = some .foreign ∧ s.takePasses 2 .a = false ∧ s.walk.isSome = true) := by
  decide +kernel

/-- An open drop or take grant of level 1, side A. -/
def granted (s : State) (k : GrantKind) (e : Entry) : State :=
  s.setGrant 1 (some { kind := k, side := .a, entry := e, tote := 7, timer := some 0 })

theorem test_hyp_DropEnds :
    let s := opened (granted (rig .run) .drop (.card 127)) 127 (order .retrieve .granted)
    let c := { order .retrieve .granted with cancelRequested := true }
    (InOrder s .bottom 1 0 ∧ s.grant 1 = some ⟨.drop, .a, .card 127, 7, some 0⟩ ∧
      (⟨.drop, .a, .card 127, 7, some 0⟩ : Grant).isDrop .a 7 = true ∧ s.ctx 127 = some (order .retrieve .granted)) ∧
      ((opened s 127 c).ctx 127 = some c ∧ c.cancelRequested = true) ∧
      (⟨.drop, .a, .card 127, 7, some 0⟩ : Grant).isDrop .b 7 = false ∧ (rig .run).grant 1 = none :=
  ⟨⟨inOrder_of 2 (by decide +kernel), by decide +kernel⟩, ⟨by decide +kernel, rfl⟩, by decide +kernel⟩

theorem test_hyp_TakeAskAndEnds :
    let s := opened (placed (rig .run) 1 { fitted := true, entries := [.card 127] }) 127 (order .store .inLane)
    (InOrder s .bottom 1 0 ∧ s.mode = .run ∧ s.grant 1 = none ∧ s.admitsDepartures 1 = true ∧ (s.place 1).lock = .none ∧
      s.head 1 = some (.card 127)) ∧
      ((rig .run).entries 1 = [] ∧ (rig .hold).mode ≠ .run) ∧
      ((granted s .take (.card 127)).grant 1 = some ⟨.take, .a, .card 127, 7, some 0⟩ ∧
        (⟨.take, .a, .card 127, 7, some 0⟩ : Grant).isTake .a = true ∧
        (granted s .take (.card 127)).ctx 127 = some (order .store .inLane) ∧ InOrder (granted s .take .foreign) .bottom 1 0 ∧
        (⟨.take, .a, .foreign, 7, some 0⟩ : Grant).isTake .b = false) :=
  ⟨⟨inOrder_of 2 (by decide +kernel), by decide +kernel⟩, by decide +kernel, by decide +kernel, by decide, by decide +kernel,
    inOrder_of 2 (by decide +kernel), by decide⟩

theorem test_hyp_PollAnswers :
    (rig .run).mode ≠ .init ∧ (rig .run).polls .bottom 1 ∧ (rig .run).alive 1 = true ∧ InOrder (rig .run) .bottom 1 15 ∧
      (rig .run).wake = [] ∧ ((rig .run).hasProfile = true ∧ ((rig .run).place 0).fitted = true ∧
        ((rig .run).place 0).awaiting = false ∧ ((rig .run).place 0).frozen = none ∧ (rig .run).entries 0 = [] ∧
        ((rig .run).place 0).mismatch = none ∧ (base .run).hasProfile = false) :=
  ⟨by decide, ⟨2, rfl⟩, by decide +kernel, inOrder_of 2 (by decide +kernel), rfl, by decide +kernel⟩

/-- The states of a polled node in which an answer is not taken, and a port that polls another level. -/
theorem test_hyp_PollAnswers_not_alive :
    (let s := noded (rig .run) { state := .seeking, port := some .bottom }
     Awake s ∧ s.polls .bottom 1 ∧ (s.node 1).state = .seeking) ∧
      (let s := noded (rig .run) { state := .cut }
       Awake s ∧ s.polls .bottom 1 ∧ (s.node 1).state ≠ .alive ∧ (s.node 1).state ≠ .seeking) ∧
      Awake (rig .run) ∧ ¬(rig .run).polls .bottom 2 :=
  ⟨⟨awake_of (by decide +kernel), ⟨2, by decide +kernel⟩, by decide +kernel⟩,
    ⟨awake_of (by decide +kernel), ⟨2, by decide +kernel⟩, by decide +kernel, by decide +kernel⟩, awake_of (by decide),
    fun ⟨_, h⟩ => by cases h⟩

/-- A lane count that differs from the record starts the lane's mismatch timer, and one that agrees stops it (R11). -/
theorem test_lane_count_times_mismatch :
    let t := (rig .run).laneCounts 1 ⟨1, 0, 0, 0⟩
    (t.place 0).mismatch = some (100 * (rig .run).senseGrace) ∧ (t.place 1).mismatch = none ∧
      ((t.laneCounts 1 ⟨2, 0, 0, 0⟩).place 0).mismatch = (t.place 0).mismatch ∧
      ((t.laneCounts 1 ⟨0, 0, 0, 0⟩).place 0).mismatch = none := by decide +kernel

theorem test_hyp_ResyncReportTaken :
    let s := exchanging (rig .run) (some ⟨1, .command .resyncAsk 3, 2⟩)
    let g : Grant := ⟨.drop, .a, .card 127, 7, some 0⟩
    (s.mode ≠ .init ∧ s.alive 1 = true ∧ (s.chainPort .bottom).exchange = some ⟨1, .command .resyncAsk 3, 2⟩ ∧
      s.grant 1 = none) ∧
      ((base .run).place 0).fitted = false ∧
      (((placed s 0 { fitted := true, awaiting := true }).place 0).res = 0 ∧
        ((placed s 0 { fitted := true, awaiting := true, res := 1 }).place 0).res ≠ 0 ∧ (s.place 3).awaiting = false) ∧
      ((granted s .drop (.card 127)).grant 1 = some g ∧
        settlement g ((granted s .drop (.card 127)).entries (g.lane 1)).length (laneCountOf (g.lane 1) ⟨0, 0, 0, 0⟩) 7
          (.dropGrant .a 7) = .leftOpen ∧
        settlement g ((granted s .drop (.card 127)).entries (g.lane 1)).length (laneCountOf (g.lane 1) ⟨1, 0, 0, 0⟩) 0
          .none = .done ∧ settlement g 0 0 0 .none = .aborted) ∧
      ((granted s .take .foreign).grant 1 = some ⟨.take, .a, .foreign, 7, some 0⟩ ∧
        settlement ⟨.take, .a, .foreign, 7, some 0⟩ 1 1 0 (.takeDone .a) = .done ∧
        settlement ⟨.take, .a, .foreign, 7, some 0⟩ 1 1 0 (.takeAsk .a) = .aborted) := by decide +kernel

/-- A RESYNC-REPORT from a node that is SEEKING or has become DEAD, and one with another number than the RESYNC-ASK's. -/
theorem test_hyp_ResyncReportTaken_not_taken :
    let s (st : NodeState) := noded (exchanging (rig .run) (some ⟨1, .command .resyncAsk 3, 2⟩)) { state := st }
    (Awake (s .seeking) ∧ ((s .seeking).node 1).state = .seeking) ∧
      (Awake (s .dead) ∧ ((s .dead).node 1).state ≠ .alive ∧ ((s .dead).node 1).state ≠ .seeking) ∧
      ((s .alive).chainPort .bottom).exchange = some ⟨1, .command .resyncAsk 3, 2⟩ ∧
      ((s .alive).chainPort .bottom).exchange ≠ some ⟨1, .command .resyncAsk 4, 2⟩ :=
  ⟨⟨awake_of (by decide +kernel), by decide +kernel⟩, ⟨awake_of (by decide +kernel), by decide +kernel⟩, by decide +kernel,
    by decide +kernel⟩

theorem test_hyp_GrantSettlement :
    (⟨.drop, .a, .foreign, 7, none⟩ : Grant).kind = .drop ∧ (⟨.take, .b, .foreign, 7, none⟩ : Grant).kind = .take ∧
      settlement ⟨.drop, .a, .foreign, 7, none⟩ 1 2 0 (.dropGrant .a 7) = .done ∧
      settlement ⟨.take, .b, .foreign, 7, none⟩ 1 1 9 (.takeGrant .b) = .leftOpen := by decide

theorem test_hyp_AckTaken :
    let q (c : ChainCmd) (nd : Node) : State := noded (exchanging (rig .run) (some ⟨1, .command c 3, 2⟩)) nd
    let h (nd : Node) : State := noded (exchanging (rig .run) (some ⟨1, .hello, 2⟩)) nd
    let sent (st : NodeState) : Node := { state := st, port := some .bottom, queue := [.face .top], sends := 1, frame := 3 }
    (Awake (q (.face .top) (sent .alive)) ∧ ((q (.face .top) (sent .alive)).chainPort .bottom).exchange =
        some ⟨1, .command (.face .top) 3, 2⟩ ∧ ChainCmd.face .top ≠ .resyncAsk ∧ (1 : Byte).toNat = 1) ∧
      (((q (.face .top) (sent .alive)).node 1).state ≠ .seeking ∧ ((q (.face .top) (sent .seeking)).node 1).state = .seeking ∧
        ((q (.face .top) (sent .alive)).node 1).sends ≠ 0 ∧ ((q (.face .top) (sent .alive)).node 1).frame = 3) ∧
      (((h { state := .dead }).chainPort .bottom).exchange = some ⟨1, .hello, 2⟩ ∧ ((h { state := .dead }).node 1).state = .dead ∧
        ((h { state := .cut }).node 1).state = .cut ∧ ((h (sent .seeking)).node 1).state = .seeking ∧
        ((h {}).node 1).state = .off) ∧
      (((exchanging (rig .run) none).chainPort .bottom).exchange = none ∧
        ((rig .run).chainPort .bottom).exchange = some ⟨1, .poll, 2⟩ ∧ (2 : Byte).toNat ≠ 1 ∧ (3 : BitVec 4) ≠ 4) ∧
      ((q .resyncAsk (sent .alive)).chainPort .bottom).exchange = some ⟨1, .command .resyncAsk 3, 2⟩ :=
  ⟨⟨awake_of (by decide +kernel), by decide +kernel⟩, by decide +kernel, by decide +kernel, by decide +kernel, by decide +kernel⟩

theorem badFrame_of {bs : List Byte} (h : 32 < (bs.getD 3 0x00).toNat ∨ bs.length ≠ 6 + (bs.getD 3 0x00).toNat ∨
    16 ≤ (bs.getD 2 0x00).toNat ∨ bs.drop (4 + (bs.getD 3 0x00).toNat) ≠
      [(crc16 (bs.take (4 + (bs.getD 3 0x00).toNat))).extractLsb' 8 8,
       (crc16 (bs.take (4 + (bs.getD 3 0x00).toNat))).extractLsb' 0 8]) : BadFrame bs := h

theorem test_hyp_VisitAndHello :
    let s := exchanging (rig .run) none
    let q := s.setNode 2 { state := .alive, port := some .bottom, queue := [.resyncAsk] }
    let d := (noded s { state := .dead }).setPort .bottom { probeTimer := some 0 }
    (Awake s ∧ (s.chainPort .bottom).exchange = none ∧ (s.chainPort .bottom).probes = [] ∧
      (s.chainPort .bottom).next = .advance ∧ nextVisit (s.served .bottom) 1 = some 2 ∧ nextVisit (s.served .bottom) 40 = some 1 ∧
      (s.node 2).queue = []) ∧
      ((q.node 2).queue = [.resyncAsk] ∧ (q.node 2).sends = 0 ∧ nextVisit (q.served .bottom) 1 = some 2) ∧
      (Awake d ∧ (d.chainPort .bottom).exchange = none ∧ (d.chainPort .bottom).probeTimer = some 0 ∧ d.lostLevels = [1]) ∧
      (let r := (q.setNode 2 { state := .alive, port := some .bottom, queue := [.resyncAsk], sends := 1 }).setPort .bottom
         { level := 2, next := .resend }
       (r.chainPort .bottom).next = .resend ∧ 2 ∈ r.served .bottom ∧ (r.node 2).sends ≠ 0 ∧ (r.node 2).queue = [.resyncAsk]) ∧
      (let r := s.setPort .bottom { level := 2, next := .poll }
       (r.chainPort .bottom).next = .poll ∧ 2 ∈ r.served .bottom ∧ (r.node 2).state = .alive ∧ 41 ∉ r.served .bottom) ∧
      (s.setPort .top { probes := [3] }).served .top = [] ∧
      (let r := d.setPort .bottom { probes := [5, 1], probeTimer := some 7 }
       (r.chainPort .bottom).probeTimer ≠ some 0 ∧ (r.chainPort .bottom).probes = [5] ++ 1 :: [] ∧ 5 ∉ r.lostLevels ∧
         1 ∈ r.lostLevels) ∧ ((rig .run).chainPort .bottom).exchange = some ⟨1, .poll, 2⟩ ∧ Awake (rig .run) :=
  ⟨⟨awake_of (by decide +kernel), by decide +kernel⟩, by decide +kernel, ⟨awake_of (by decide +kernel), by decide +kernel⟩,
    by decide +kernel, by decide +kernel, by decide +kernel, by decide +kernel, by decide +kernel, awake_of (by decide +kernel)⟩

theorem test_hyp_ExchangeFailures :
    let u (n : Nat) := noded (exchanging (rig .run) (some ⟨1, .poll, 0⟩))
      { state := .alive, port := some .bottom, unanswered := n }
    (Awake (rig .run) ∧ ((exchanging (rig .run) (some ⟨1, .hello, 0⟩)).chainPort .bottom).exchange = some ⟨1, .hello, 0⟩ ∧
      (((u 1).chainPort .bottom).exchange = some ⟨1, .poll, 0⟩ ∧ Sending.poll ≠ .hello ∧ ((u 1).node 1).unanswered < 2) ∧
      (2 ≤ ((u 2).node 1).unanswered ∧ ((u 2).node 1).served = true ∧ ((u 2).node 1).port = some .bottom) ∧
      ((rig .run).setPort .bottom { checkErrors := 254 }).chain.bottom.checkErrors < 255 ∧
      255 ≤ ((rig .run).setPort .bottom { checkErrors := 255 }).chain.bottom.checkErrors) ∧
      (BadFrame [] ∧ BadFrame [0x00, 0x20, 0x00, 33] ∧ BadFrame [0x00, 0x20, 0x10, 0x00, 0x00, 0x00]) ∧
      ¬BadFrame (frameBytes ⟨.chain .top, 0x05, 0x20, 3, [0x01]⟩) :=
  ⟨⟨awake_of (by decide), by decide +kernel⟩, ⟨badFrame_of (by decide +kernel), badFrame_of (by decide +kernel),
    badFrame_of (by decide +kernel)⟩, by unfold BadFrame; decide +kernel⟩

/-- The death of the node of level 1 while that of level 3 is DEAD cuts level 2 off, and NODE_CUT is raised with 2 and 2 (R147, R148). -/
theorem test_hyp_ExchangeFailures_cut :
    let s := ((exchanging (rig .run) (some ⟨1, .poll, 0⟩)).setNode 3 { state := .dead }).setNode 1
      { state := .alive, port := some .bottom, unanswered := 2 }
    let v := s.setNode 1 { state := .dead, unanswered := 3 }
    (2 ≤ (s.node 1).unanswered ∧ (s.node 1).served = true ∧ (s.node 1).port = some .bottom) ∧
      ((v.recompute.node 2).state = .cut ∧ (v.node 2).state ≠ .cut) ∧
      (∀ j, j < 41 → (v.recompute.node j).state = .cut → j = 2) ∧
      (match exec (.exchangeUnanswered .bottom) s with
        | .next t => t.cond (srcPort .bottom) == (((s.cond (srcPort .bottom)).raised .nodeDead 1 0 s.stamp).raised .nodeCut 2 2 s.stamp)
        | _ => false) = true := by decide +kernel

/-- A received frame with a wrong check word counts as a check error, a right one is the command it spells, and one addressed to
another node is relayed traffic (R143, R154). -/
theorem test_frames_received :
    let f := frameBytes ⟨.chain .bottom, 0x00, 0x26, 3, 0x07 :: bytes32 0x01020304⟩
    ((base .run).receive (.chain .bottom) f).pending = [.dropAsk .bottom 7 3 0x01020304] ∧
      ((base .run).receive (.chain .bottom) (f.set 10 0x00)).pending = [.checkError .bottom] ∧
      ((base .run).receive (.chain .top) (frameBytes ⟨.chain .top, 0x09, 0x01, 0, []⟩)).pending = [.relayedFrame .top] ∧
      ((base .run).receive (.lift .b) (frameBytes ⟨.lift .b, 0x00, 0x51, 0, [9, 2]⟩)).pending = [.arrived .b 9 2] ∧
      ((base .run).receive (.lift .b) [0x00]).pending = [.liftFrameDiscard .b] := by decide +kernel

/-! ### The lift units -/

/-- Lift A with record `l`. -/
def lifted (s : State) (l : Lift) : State := s.setLift .a l

theorem test_hyp_LiftCommandEcho :
    let l : Lift := { state := .idle, queue := [.park], sends := 1, number := 4, echo := some 0 }
    let r : State := lifted (rig .run) l
    LinkUp r .a ∧ r.wake = [] ∧ ((r.lift .a).needStatus = false ∧ (r.lift .a).sends ≠ 0 ∧ (r.lift .a).number = 4 ∧
      (r.lift .a).queue.tail = []) ∧
      ((lifted r { l with queue := [.park, .wake] }).lift .a).queue.tail = [.wake] ∧
      (((lifted r { l with sends := 0 }).lift .a).sends = 0 ∧ (r.lift .a).number ≠ 5) ∧
      (((lifted r { l with sends := 0, needStatus := true }).lift .a).needStatus = true ∧
        ((lifted r { l with sends := 0, needStatus := true }).lift .a).queue = [.park]) ∧
      (let e := lifted r { l with sends := 0, needStatus := true, queue := [] }
       (e.lift .a).needStatus = true ∧ (e.lift .a).queue = []) ∧
      ((r.lift .a).echo = some 0 ∧ ((lifted r { l with sends := 2 }).lift .a).sends < 3 ∧
        3 ≤ ((lifted r { l with sends := 3 }).lift .a).sends) :=
  ⟨linkUp_of (by decide +kernel), by decide +kernel⟩

/-- Lift A on trip 9 over one stop, in a phase. -/
def onTrip (s : State) (st : Stop) (ph : StopPhase) (left : Nat) : State :=
  lifted s { state := .onTrip, counter := 9, trip := some ⟨9, ⟨.normal, 0, [st], 1, 1⟩, ph, left, false, none⟩ }

/-- A load of card 127 at lane 0, an unload of it at the exit spur, and a load of FOREIGN at the entry spur. -/
def loads : Stop := aStop 1 0 .load .front (some (.card 127)) (.card 127)
def unloads : Stop := aStop 0 162 .unload .front none (.card 127)

/-- Card 127 stands at the head of lane 0, or on the front deck of lift A. -/
def inLane (m : Mode) : State :=
  opened (placed (rig m) 0 { fitted := true, entries := [.card 127] }) 127 { order .retrieve .inLane with place := some 0 }
def onDeck (m : Mode) : State :=
  opened (placed (rig m) 164 { entries := [.card 127] }) 127 { order .retrieve .onCar with place := some 164 }

theorem test_hyp_StopDecisions :
    ((rig .run).decideStop .a (aStop 2 4 .load .front none .foreign) = .pass ∧
      (rig .run).decideStop .a loads = .pass ∧ (rig .run).decideStop .a unloads = .pass ∧
      (inLane .hold).decideStop .a loads = .waitMode ∧
      (placed (inLane .run) 0 { fitted := true, entries := [.card 127], lock := .shuttle }).decideStop .a loads = .waitLane ∧
      (inLane .run).decideStop .a loads = .proceed ∧ (onDeck .run).decideStop .a unloads = .proceed) ∧
      (let s (ph : StopPhase) := onTrip (inLane .run) loads ph 5
       let t (ph : StopPhase) : Trip := ⟨9, ⟨.normal, 0, [loads], 1, 1⟩, ph, 5, false, none⟩
       LinkUp (s .moving) .a ∧ ((s .moving).lift .a).state = .onTrip ∧ CurrentStop (s .moving) .a (t .moving) 0 loads .moving 9 1 ∧
         CurrentStop (s .waitingMode) .a (t .waitingMode) 0 loads .waitingMode 9 1 ∧
         CurrentStop (s .waitingLane) .a (t .waitingLane) 0 loads .waitingLane 9 1) ∧
      (let i := lifted (rig .run) { state := .idle }
       LinkUp i .a ∧ i.wake = [] ∧ (i.lift .a).trip = none ∧
         ¬∃ t j st, (i.lift .a).state = .onTrip ∧ CurrentStop i .a t j st .moving 9 1) ∧
      unloads.action = .unload ∧ unloads.place < 164 ∧ (onDeck .run).ctx 127 ≠ none :=
  ⟨by decide +kernel, ⟨linkUp_of (by decide +kernel), by decide +kernel, current_of (by decide +kernel),
    current_of (by decide +kernel), current_of (by decide +kernel)⟩, ⟨linkUp_of (by decide +kernel), by decide +kernel,
    by decide +kernel, fun ⟨_, _, _, h, _⟩ => absurd h (by decide +kernel)⟩, by decide +kernel⟩

/-- 6.8: a stop that waits for its lane keeps its deadline running through HOLD; the release of another lane's lock does not test
it, the release of its own does and finds HOLD (R116). -/
theorem test_retest_at_its_own_place :
    let s := onTrip (placed (inLane .hold) 0 { fitted := true, entries := [.card 127] }) loads .waitingLane 5
    s.retest .a (.place 4) = none ∧ s.retest .a (.head 4) = none ∧
      ((s.retest .a (.place 0)).bind (fun t => (t.lift .a).trip.map (·.phase))) = some .waitingMode := by decide +kernel

/-- A guarded unload of card 127, ahead of which card 3 stands in the bound list, in its lane or in the spur (R104). -/
theorem test_order_guard :
    let live : Context := { order .retrieve .onCar with seq := some 5, seqState := .live }
    let g : Stop := { unloads with guarded := true }
    let s (ph : Phase) := { opened (opened (onDeck .run) 127 live) 3 (order .retrieve ph) with
      release := { State.reset.release with bound := ⟨[3, 127], []⟩ } }
    (s .inLane).guardMet .a g = false ∧ (s .inSpur).guardMet .a g = true ∧ (s .inLane).guardMet .a unloads = true := by
  decide +kernel

theorem test_hyp_StopDoneTaken :
    let s := onTrip (placed (inLane .run) 0 { fitted := true, entries := [.card 127], lock := .lift }) loads .transferring 5
    let u := onTrip (onDeck .run) unloads .transferring 5
    (LinkUp s .a ∧ takesStopDone (s.lift .a).state = true ∧
      CurrentStop s .a ⟨9, ⟨.normal, 0, [loads], 1, 1⟩, .transferring, 5, false, none⟩ 0 loads .transferring 9 1 ∧
      loads.place < 164 ∧ (s.place 0).lock = .lift ∧ s.deck .a .front = none ∧ s.claimHeads loads = true ∧
      s.head 0 = some (.card 127) ∧ s.ctx 127 = some { order .retrieve .inLane with place := some 0 }) ∧
      (LinkUp u .a ∧
        CurrentStop u .a ⟨9, ⟨.normal, 0, [unloads], 1, 1⟩, .transferring, 5, false, none⟩ 0 unloads .transferring 9 1 ∧
        unloads.place < 164 ∧ u.deck .a .front = some (.card 127) ∧ unloads.reserved = true ∧
        u.ctx 127 = some { order .retrieve .onCar with place := some 164 }) ∧
      ((onTrip (rig .run) loads .transferring 5).claimHeads loads = false ∧ (onTrip (rig .run) unloads .transferring 5).deck .a .front = none ∧
        (onTrip (onDeck .run) loads .transferring 5).deck .a .front ≠ none) ∧
      (let i := onTrip (inLane .run) loads .moving 5
       LinkUp i .a ∧ i.wake = [] ∧ ¬∃ t j st, takesStopDone (i.lift .a).state = true ∧ CurrentStop i .a t j st .transferring 9 1) :=
  ⟨⟨linkUp_of (by decide +kernel), by decide +kernel, current_of (by decide +kernel), by decide +kernel⟩,
    ⟨linkUp_of (by decide +kernel), current_of (by decide +kernel), by decide +kernel⟩, by decide +kernel,
    linkUp_of (by decide +kernel), by decide +kernel, fun ⟨t, _, _, _, h⟩ => by
      have e : t.phase = .moving := by have := h.held; cases this; rfl
      rw [h.phase] at e; cases e⟩

theorem test_hyp_LiftStateFrames :
    let done : Stop := { loads with outcome := .passed }
    let t (st : Stop) : Trip := ⟨9, ⟨.normal, 0, [st], 1, 1⟩, .moving, 5, false, none⟩
    (∀ st ∈ [LiftState.syncing, .idle, .parking, .parked, .waking, .onTrip, .faulted],
      LinkUp (lifted (rig .run) { state := st }) .a) ∧
      ((t done).number = 9 ∧ (t done).current = none ∧ (t loads).current = some 0) ∧
      ((onTrip (rig .run) done .moving 5).lift .a).trip = some (t done) ∧
      ((lifted (rig .run) { state := .waking, pending := some ⟨.normal, 0, [loads], 1, 1⟩ }).lift .a).pending =
        some ⟨.normal, 0, [loads], 1, 1⟩ ∧
      ((lifted (rig .run) { state := .syncing, awaitReady := true }).lift .a).awaitReady = true :=
  ⟨fun st h => linkUp_of ⟨(by decide : (rig .run).mode ≠ .init), rfl, by
    simp only [List.mem_cons, List.not_mem_nil, or_false] at h
    rcases h with h | h | h | h | h | h | h <;> subst h <;> decide +kernel⟩, by decide +kernel⟩

theorem test_hyp_LiftStateAndFault :
    (LinkUp (lifted (rig .run) { state := .syncing }) .a ∧ LinkUp (onTrip (rig .run) loads .moving 5) .a ∧ (0 : Byte) = 0 ∧
      (255 : Byte) ≠ 0 ∧ (onTrip (rig .run) loads .moving 5).wake = []) ∧
      (Awake (rig .run) ∧ ((rig .run).lift .a).state = .offline ∧ ((rig .run).lift .a).pending = none ∧
        ((rig .run).lift .a).queue = [] ∧ ((rig .run).lift .a).sends = 0 ∧ ((rig .run).lift .a).trip = none) ∧
      (let t : Trip := ⟨9, ⟨.normal, 0, [loads], 1, 1⟩, .transferring, 5, false, none⟩
       let s := lifted (rig .run) { state := .offline, trip := some t }
       (s.lift .a).state = .offline ∧ CurrentStop s .a t 0 loads .transferring 9 1) ∧
      BadFrame [0x00] ∧ (¬BadFrame (frameBytes ⟨.lift .a, 0x00, 0x58, 0, []⟩) ∧ 0x57 < (0x58 : Byte).toNat) :=
  ⟨⟨linkUp_of (by decide +kernel), linkUp_of (by decide +kernel), by decide +kernel⟩, ⟨awake_of (by decide), by decide +kernel⟩,
    ⟨by decide +kernel, by decide +kernel, by decide +kernel, by decide +kernel, rfl, rfl, rfl⟩,
    badFrame_of (by decide +kernel), by unfold BadFrame; decide +kernel, by decide⟩

/-- Card 127, a STORE card on the front deck, and the unload of it at inbound lane 1, with one reservation there. -/
def unloadsStore : Stop := { aStop 1 1 .unload .front none (.card 127) with reserved := true }
def storeOnDeck (m : Mode) : State :=
  onTrip (opened (placed (placed (rig m) 164 { entries := [.card 127] }) 1 { fitted := true, res := 1 }) 127
    { order .store .onCar with place := some 164 }) unloadsStore .moving 5

/-- The unload that no remainder makes gives its reservation back, and the card returns (R115, R128). -/
theorem test_passed_inbound_unload :
    let s := storeOnDeck .hold
    let r := s.afterCheck .a 0 9
    (unloadsStore.outcome = .stillOpen ∧ isInbound unloadsStore.place = true ∧ s.deck .a .front = some (.card 127) ∧
      (s.place 1).res = 1) ∧ (r.1.place 1).res = 0 ∧
      r.1.ctx 127 = some { order .store .onCar with place := some 164, phase := .returning, failure := some (.levelClosed, 1) } := by
  decide +kernel

/-- A load settled OK with its head in place and with its claim gone, an unload from a full and from an empty deck; a card, FOREIGN
or nothing on a deck that is checked; a trip record or none after the check; a stop that is possible and one that is not. -/
theorem test_hyp_Reconciled :
    let s := onTrip (inLane .run) loads .moving 5
    let u := onTrip (onDeck .run) unloads .moving 5
    let t (st : Stop) : Trip := ⟨9, ⟨.normal, 0, [st], 1, 1⟩, .moving, 5, false, none⟩
    (s.settled .a 9 1 = [0] ∧ s.settled .a 8 1 = [] ∧ s.settled .a 9 0 = []) ∧
      ((s.lift .a).trip = some (t loads) ∧ (t loads).stop 0 = some loads ∧ loads.place < 164 ∧ s.deck .a .front = none ∧
        s.claimHeads loads = true ∧ s.head 0 = some (.card 127) ∧ (onTrip (rig .run) loads .moving 5).claimHeads loads = false) ∧
      ((u.lift .a).trip = some (t unloads) ∧ u.deck .a .front = some (.card 127) ∧ (rig .run).deck .a .front = none ∧
        u.ctx 127 ≠ none ∧ (placed (rig .run) 164 { entries := [.foreign] }).deck .a .front = some .foreign) ∧
      (((rig .run).lift .a).trip = none ∧
        s.keptStops .a 0 (t loads).openStops none none [] = [0] ∧ s.keptStops .a 0 (t unloads).openStops none none [] = [] ∧
        (onTrip (inLane .hold) loads .moving 5).mode ≠ .run) := by decide +kernel

/-- The deck is occupied now: its unload stays, and the load planned for it behind that unload is impossible, with the unload of
what it would have fetched (R128). -/
theorem test_load_to_an_occupied_deck :
    let s := placed (onDeck .run) 0 { fitted := true, entries := [.card 126] }
    let fetch := aStop 1 0 .load .front (some (.card 126)) (.card 126)
    let out := aStop 0 162 .unload .front none (.card 126)
    s.claimAt 0 0 fetch.claim = true ∧
      s.keptStops .a 0 [(0, unloads), (1, fetch), (2, out)] (s.deck .a .front) (s.deck .a .rear) [] = [0] ∧
      (rig .run).deck .a .front = none ∧
      (placed (rig .run) 0 { fitted := true, entries := [.card 126] }).keptStops .a 0 [(1, fetch), (2, out)] none none [] = [1, 2] := by
  decide +kernel

/-- A lift on side A that is IDLE, with card 127 where it stands. -/
def idleLift (s : State) : State := lifted s { state := .idle }

/-- The three rules of the planner each yield a plan: a CARRY-BACK of the tote on the deck, a TURN-BACK of a FOREIGN head, a NORMAL
trip of the unsequenced head; a deck full of totes and a full exit give none. -/
theorem test_hyp_PlannerRules :
    let c := idleLift (onDeck .run)
    let b := idleLift (placed (rig .run) 160 { entries := [.foreign] })
    let n := idleLift (inLane .run)
    let full : State := placed c 162 { entries := [.foreign, .foreign], res := 1 }
    (c.carried .a = [(.front, .card 127)] ∧ (c.planFor .a).map (·.kind) = some .carryBack ∧ full.planFor .a = none) ∧
      (b.carried .a = [] ∧ b.head 160 = some .foreign ∧ (b.planFor .a).map (·.kind) = some .turnBack) ∧
      ((n.planFor .a).map (·.kind) = some .normal ∧ (n.outboundChoice .a).length = 1) ∧
      ((n.tryPlan .a).isSome = true ∧ ((rig .run).tryPlan .a).isSome = false) := by decide +kernel

/-- n1 of the bound list is offered, or stands second behind an unsequenced head; the STORE head of the entry spur is e1. -/
theorem test_hyp_PlannerRules_choices :
    let q : Context := { order .retrieve .inLane with place := some 0, seq := some 0, seqState := .live }
    let s := opened (idleLift (inLane .run)) 127 q
    let b : State := { s with release := { State.reset.release with bound := ⟨[127], []⟩ } }
    let h := placed b 0 { fitted := true, entries := [.foreign, .card 127] }
    let i := opened (placed (idleLift (rig .run)) 160 { entries := [.card 127] }) 127
      { order .store .inSpur with place := some 160, side := some .a }
    (b.sequencedPicks .a 2 = [⟨0, 0, .card 127⟩] ∧ h.sequencedPicks .a 2 = [⟨0, 0, .foreign⟩, ⟨0, 1, .card 127⟩] ∧
      s.sequencedPicks .a 2 = []) ∧
      (i.inboundCandidates .a = [(127, 1)] ∧ i.hasRoom 1 = true ∧ (rig .run).inboundCandidates .a = []) := by decide +kernel

theorem test_hyp_TripDeadline :
    let n := idleLift (inLane .run)
    n.mode = .run ∧ n.hasProfile = true ∧ (n.lift .a).plannable = true ∧ (n.planFor .a).isSome = true ∧
      (∀ st ∈ [LiftState.parked, .parking],
        (lifted (inLane .run) { state := st }).hasProfile = true ∧ ((lifted (inLane .run) { state := st }).lift .a).plannable = true) := by
  decide +kernel

theorem test_hyp_LiftTimers :
    (rig .run).mode ≠ .init ∧ ((lifted (rig .run) { state := .idle, silence := some 0 }).lift .a).silence = some 0 ∧
      ((lifted (rig .run) { state := .idle, park := some 0 }).lift .a).park = some 0 ∧
      ((lifted (rig .run) { state := .parking, wake := some 0 }).lift .a).wake = some 0 ∧
      ((lifted (rig .run) { state := .waking, wake := some 0 }).lift .a).state = .waking ∧
      (((lifted (rig .run) { state := .syncing, ask := some 0 }).lift .a).ask = some 0 ∧
        ((lifted (rig .run) { state := .syncing, ask := some 0 }).lift .a).queue = [] ∧
        ((lifted (rig .run) { state := .syncing, ask := some 0, queue := [.stateAsk] }).lift .a).queue ≠ []) ∧
      (((onTrip (onDeck .run) loads .moving 0).lift .a).trip =
          some ⟨9, ⟨.normal, 0, [loads], 1, 1⟩, .moving, 0, false, none⟩ ∧
        (onTrip (onDeck .run) loads .moving 0).deck .a .front = some (.card 127)) := by decide +kernel

/-! ### The entry divert, the sensors, the merge -/

/-- The entry unit with a motion and a held read. -/
def entering (s : State) (m : Motion) (r : Option Read) : State :=
  { s with entry := { motion := m, read := r, rejectReported := false } }

theorem test_hyp_EntryEvents :
    let w := opened (entering (rig .run) .idle (some (.tote 7))) 127 (order .store .awaited)
    let d := opened (placed (rig .run) 168 { entries := [.card 127] }) 127 (order .store .awaited)
    let f := placed (rig .run) 168 { entries := [.foreign] }
    (w.mode ≠ .init ∧ w.store.noProfileDue = false ∧ w.wake = [] ∧ w.entry.motion = .idle ∧ w.entries divert = [] ∧
      w.entry.read = some (.tote 7) ∧ w.ctx 127 = some (order .store .awaited) ∧
      (rig .run).entry.read = none ∧ (entering (rig .run) .idle (some .unreadable)).entry.read = some .unreadable) ∧
      (d.entries divert ≠ [] ∧ d.head divert = some (.card 127) ∧ d.ctx 127 = some (order .store .awaited) ∧
        d.divertChoice ≠ none ∧ (placed (placed d 1 {}) 3 {}).divertChoice ≠ none ∧
        ({ d with mode := .hold }).divertChoice = none) ∧
      ((entering d (.toSpur .b) none).entry.motion = .toSpur .b ∧ (entering f .toReject none).entry.motion = .toReject) ∧
      (f.head divert = some .foreign ∧ f.entry.motion = .idle ∧ f.mode = .run ∧ f.lines.rejectFull = false) := by decide +kernel

theorem test_hyp_SpurCountAndMismatch :
    (Live (rig .run) ∧ (rig .run).wake = [] ∧ (rig .run).hasProfile = true ∧ ((rig .run).place 160).frozen = none ∧
      ((rig .run).place 160).lock = .none ∧ (3 : Nat) ≠ ((rig .run).entries 160).length ∧
      (0 : Nat) = ((rig .run).entries 163).length) ∧
      (((rig .run).place 160).mismatch = none ∧ ((placed (rig .run) 160 { mismatch := some 1 }).place 160).mismatch = some 1) ∧
      (((placed (rig .run) 0 { fitted := true, mismatch := some 0 }).place 0).mismatch = some 0 ∧
        ((placed (rig .run) 163 { mismatch := some 0 }).place 163).mismatch = some 0) ∧
      ((rig .run).place 168).mismatch ≠ some 0 ∧
      (let r := placed (rig .run) 0 { fitted := true, entries := [.foreign], res := 1 }
       r.Within 0 ∧ 0 < (r.place 0).res ∧ (rig .run).Within 163 ∧ (rig .run).hasRoom 163 = true) :=
  ⟨⟨live_of (by decide), by decide +kernel⟩, by decide +kernel, by decide +kernel, by decide +kernel,
    by unfold State.Within; decide +kernel⟩

/-- An exit spur with these entries and EXIT-READY asserted. -/
def exits (x : Side) (es : List Entry) : State :=
  placed { rig .run with lines := { State.reset.lines with exitReady := true } } (exitSpur x) { entries := es }

theorem test_hyp_MergeReleases :
    (exits .a [.foreign]).tryMerge ≠ none ∧
      (let s := opened (exits .a [.card 127]) 127 { order .retrieve .inSpur with seq := some 0, seqState := .live }
       s.tryMerge ≠ none ∧ s.offered .a = some (.card 127) ∧ (s.ctx 127).bind (·.liveSeq) = some 0) ∧
      (let s := opened (exits .b [.card 127]) 127 { order .retrieve .inSpur with seq := some 1, seqState := .live }
       s.tryMerge = none ∧ s.mode = .run ∧ s.release.merge = .idle ∧ s.lines.exitReady = true ∧
         s.offered .b = some (.card 127)) := by decide +kernel

/-- The merge after the release of `e` from side A, with a read. -/
def releasing (e : Entry) (t : Timer) (r : Option Read) : State :=
  { rig .run with release := { State.reset.release with merge := .releasing .a e t, exitRead := r } }

theorem test_hyp_PassEndsRelease :
    Live (releasing .foreign none none) ∧ (rig .run).release.merge = .idle ∧ (rig .run).wake = [] ∧
      (releasing .foreign none none).release.merge = .releasing .a .foreign none ∧
      (let s := opened (releasing (.card 127) (some 3) (some (.tote 7))) 127
         { order .store .released with failure := some (.blocked, 53) }
       s.release.merge = .releasing .a (.card 127) (some 3) ∧
         s.ctx 127 = some { order .store .released with failure := some (.blocked, 53) }) :=
  ⟨live_of (by decide), by decide +kernel⟩

theorem test_hyp_TimerReports :
    Awake (rig .run) ∧ (releasing .foreign (some 0) none).release.merge = .releasing .a .foreign (some 0) ∧
      (let s : State := { rig .run with release := { State.reset.release with stall := some 0 } }
       s.release.stall = some 0 ∧ s.findOpen (fun c => c.holds s.release.n) = none ∧ s.release.n ∉ s.release.voids ∧
         (opened s 127 { order .retrieve .inSpur with seq := some 0, seqState := .live }).findOpen
           (fun c => c.holds s.release.n) = some 127) ∧
      (granted (rig .run) .drop .foreign).grant 1 = some ⟨.drop, .a, .foreign, 7, some 0⟩ :=
  ⟨awake_of (by decide), by decide +kernel⟩

end Sys2Proof.Tests
end

section
/-! PROOF. The order board's bytes: a card's state byte (R158), the acknowledge bytes (R168), the raising of a condition (R167)
and the interrupt output (R165, R166). -/

namespace Sys2Proof.Machine

/-! ### Events that tell nobody -/

/-- An event that tells no neighbour of a change is its own change alone, where commands are taken. -/
theorem State.live_of_awake {s : State} (h : Awake s) {f : State → State} (hf : ∀ t, (f t).wake = t.wake) :
    s.live f = .next (f { s with sent := [] }) := by
  have quiet : (f { s with sent := [] }).wake = [] := (hf _).trans h.quiet
  simp [State.live, State.event, State.begin_of_reported h.reported, h.mode, quiet]

@[simp] theorem State.wake_misuse (s : State) : s.misuse.wake = s.wake := rfl
@[simp] theorem State.wake_setCardState (s : State) (n : Nat) (b : Byte) : (s.setCardState n b).wake = s.wake := rfl

@[simp] theorem State.wake_writeCardState (s : State) (n : Nat) (v : Byte) : (s.writeCardState n v).wake = s.wake := by
  simp only [State.writeCardState]
  (repeat' split) <;> simp

@[simp] theorem State.wake_writeAcknowledge (s : State) (k : Nat) (v : Byte) : (s.writeAcknowledge k v).wake = s.wake := by
  unfold State.writeAcknowledge
  (repeat' split) <;> simp

/-! ### A card's state byte (R157, R158) -/

/-- The bytes of a card have their home in the exchange memory's cells (9.1). -/
theorem Memory.home_cardAddr {n i : Nat} (hn : n < 128) (hi : i < 64) : Memory.home (cardAddr n i) = true := by
  have range : 0x0C80 ≤ cardAddr n i ∧ cardAddr n i < 0x8000 := by unfold cardAddr; omega
  simp [Memory.home, range]

/-- A state byte that is set reads back. -/
theorem State.cardState_setCardState {n : Nat} (hn : n < 128) (s : State) (b : Byte) :
    (s.setCardState n b).cardState n = b :=
  Memory.read_write_inside s.board.mem (cardAddr n 0) [b] 0 (by simp) (Memory.home_cardAddr hn (by omega))

/-- Setting a state byte leaves every other byte of the memory. -/
theorem State.read_setCardState_ne (s : State) (n : Nat) (b : Byte) {a : Nat} (ha : a ≠ cardAddr n 0) :
    Memory.read (s.setCardState n b).board.mem a = Memory.read s.board.mem a :=
  Memory.read_write_outside s.board.mem (cardAddr n 0) [b] a (by simp only [List.length_singleton]; omega)

theorem cardFinal_cardFree : cardFinal cardFree = false := rfl

/-- POSTED onto FREE posts the card. -/
theorem State.writeCardState_post {s : State} {n : Nat} (hn : n < 128) (free : s.cardState n = cardFree) :
    s.writeCardState n cardPosted =
      (s.setCardState n cardPosted).setBoard
        { (s.setCardState n cardPosted).board with postQueue := s.board.postQueue ++ [n] } := by
  simp [State.writeCardState, Nat.not_le.mpr hn, free]
  rfl

/-- FREE onto FREE is taken and changes nothing. -/
theorem State.writeCardState_idle {s : State} {n : Nat} (hn : n < 128) (free : s.cardState n = cardFree) :
    s.writeCardState n cardFree = s := by
  simp [State.writeCardState, Nat.not_le.mpr hn, free, show cardFree ≠ cardPosted by decide]

/-- FREE onto a final state takes the card off the finish list. -/
theorem State.writeCardState_free {s : State} {n : Nat} (hn : n < 128) (final : cardFinal (s.cardState n) = true) :
    s.writeCardState n cardFree =
      (s.setCardState n cardFree).setBoard
        { (s.setCardState n cardFree).board with
          finishList := s.board.finishList.filter (fun m => m != n), changeCount := s.board.changeCount + 2 } := by
  have notFree : s.cardState n ≠ cardFree := fun e => by simp [e, cardFinal_cardFree] at final
  simp [State.writeCardState, Nat.not_le.mpr hn, notFree, final]
  rfl

/-- Every other write to a state byte latches MISUSE. -/
theorem State.writeCardState_misuse {s : State} {n : Nat} {v : Byte} (hn : n < 128)
    (notFree : ¬(s.cardState n = cardFree ∧ (v = cardPosted ∨ v = cardFree)))
    (notFinal : ¬(cardFinal (s.cardState n) = true ∧ v = cardFree)) : s.writeCardState n v = s.misuse := by
  have notPost : ¬(s.cardState n = cardFree ∧ v = cardPosted) := fun h => notFree ⟨h.1, .inl h.2⟩
  have notIdle : ¬(s.cardState n = cardFree ∧ v = cardFree) := fun h => notFree ⟨h.1, .inr h.2⟩
  simp only [State.writeCardState, Nat.not_le.mpr hn, notPost, notIdle, notFinal, if_false]

/-- POSTED_WRITE is the write to the state byte alone. -/
theorem exec_postedWrite_of_awake {s : State} (h : Awake s) (n : Nat) (v : Byte) :
    exec (.postedWrite n v) s = .next (({ s with sent := [] } : State).writeCardState n v) :=
  State.live_of_awake h (fun t => t.wake_writeCardState n v)

/-- FREE_WRITE is the write of FREE to the state byte. -/
theorem exec_freeWrite (n : Nat) (s : State) : exec (.freeWrite n) s = exec (.postedWrite n cardFree) s := rfl

/-- Settles O13, by the value the state byte holds: one equation of `writeCardState` for each row of R158. -/
theorem cardStateWrites : Obligations.CardStateWrites := by
  unfold Obligations.CardStateWrites
  intro s n v awake hn effect
  have key (c : Instr) (v : Byte) (written : exec c s = .next (({ s with sent := [] } : State).writeCardState n v)) :
      effect c v := by
    refine ⟨?post, ?idle, ?free, ?misuse⟩
    case post =>
      rintro free rfl
      rw [State.writeCardState_post (s := { s with sent := [] }) hn free] at written
      exact ⟨_, written, State.cardState_setCardState hn _ _, fun a ha => State.read_setCardState_ne _ _ _ ha,
        rfl, rfl, rfl⟩
    case idle =>
      rintro free rfl
      rw [written, State.writeCardState_idle (s := { s with sent := [] }) hn free]
    case free =>
      rintro final rfl
      rw [State.writeCardState_free (s := { s with sent := [] }) hn final] at written
      exact ⟨_, written, State.cardState_setCardState hn _ _, fun a ha => State.read_setCardState_ne _ _ _ ha,
        rfl, rfl, rfl, rfl⟩
    case misuse =>
      intro notFree notFinal
      rw [written, State.writeCardState_misuse (s := { s with sent := [] }) hn notFree notFinal]
      rfl
  have posted (v : Byte) := exec_postedWrite_of_awake awake n v
  exact ⟨key _ _ (posted v), key _ _ ((exec_freeWrite n s).trans (posted cardFree))⟩

/-! ### The condition table (R165, R167, R168) -/

/-- CONDITION is set exactly while some entry of the table has its changed flag set. -/
theorem State.causeCondition_iff (s : State) :
    s.causeCondition = true ↔ ∃ k, k < 48 ∧ (s.cond k).changed = true := by
  have entry (k : Nat) (hk : k < 48) : s.cond k = s.conditions[k] := by simp [State.cond, hk]
  simp only [State.causeCondition, List.any_eq_true, Vector.mem_toList_iff, Vector.mem_iff_getElem]
  constructor
  · rintro ⟨e, ⟨k, hk, rfl⟩, changed⟩
    exact ⟨k, hk, (entry k hk).symm ▸ changed⟩
  · rintro ⟨k, hk, changed⟩
    exact ⟨_, ⟨k, hk, rfl⟩, entry k hk ▸ changed⟩

/-- The acknowledge byte of an entry always reads 00h (9.7). -/
theorem CondEntry.byte_acknowledge (e : CondEntry) : e.byte 2 = 0x00 := rfl

theorem State.writeAcknowledge_acknowledge (s : State) (k : Nat) :
    s.writeAcknowledge k 0x01 = s.setCond k { s.cond k with changed := false } := rfl

theorem State.writeAcknowledge_clear (s : State) (k : Nat) : s.writeAcknowledge k 0x02 = s.setCond k {} := rfl

theorem State.writeAcknowledge_misuse (s : State) (k : Nat) {v : Byte} (h1 : v ≠ 0x01) (h2 : v ≠ 0x02) :
    s.writeAcknowledge k v = s.misuse := by
  simp only [State.writeAcknowledge, h1, h2, if_false]

/-- A write at the offset of an entry's acknowledge byte is a write to that byte (9.7). -/
theorem State.writeBytes_acknowledge (s : State) {k : Nat} (hk : k < 48) (v : Byte) :
    s.writeBytes (0x0102 + 16 * k) [v] = s.writeAcknowledge k v := by
  have inTable : ¬0x0102 + 16 * k < 0x00C0 ∧ ¬0x0102 + 16 * k < 0x0100 ∧ 0x0102 + 16 * k < 0x0400 := by omega
  have inWindow : 0x0102 + 16 * k < 0x8000 := by omega
  have column : (0x0102 + 16 * k - 0x0100) % 16 = 2 := by omega
  have row : (0x0102 + 16 * k - 0x0100) / 16 = k := by omega
  obtain ⟨header, free, table⟩ := inTable
  simp only [State.writeBytes, State.writeByte, inWindow, header, free, table, column, row, if_true, if_false]

/-- EXCHANGE_WRITE is the write of its bytes (R155). -/
theorem exec_exchangeWrite (off : BitVec 15) (bs : List Byte) (s : State) :
    exec (.exchangeWrite off bs) s = s.live (fun t => t.writeBytes off.toNat bs) := rfl

/-- What a change of one entry's record leaves, and what CONDITION then follows (R165). -/
theorem exec_of_setCond {c : Instr} {s : State} {k : Nat} {e : CondEntry} (hk : k < 48)
    (taken : exec c s = .next (({ s with sent := [] } : State).setCond k e)) :
    ∃ t, exec c s = .next t ∧ t.cond k = e ∧ (∀ j, j ≠ k → t.cond j = s.cond j) ∧
      { t with conditions := s.conditions, sent := s.sent } = s ∧ (t.cond k).byte 2 = 0x00 ∧
      (t.causeCondition = true ↔ ∃ j, j < 48 ∧ (t.cond j).changed = true) :=
  ⟨_, taken, State.cond_setCond_self _ k e hk, fun j hj => State.cond_setCond_ne _ k j e hj.symm, rfl,
    CondEntry.byte_acknowledge _, State.causeCondition_iff _⟩

/-- Settles O15: 01h and 02h each set one entry's record, and a write of any other value is followed through the window's
ranges to MISUSE. -/
theorem acknowledgeWrites : Obligations.AcknowledgeWrites := by
  unfold Obligations.AcknowledgeWrites
  intro s k awake hk
  refine ⟨exec_of_setCond hk ?acknowledge, exec_of_setCond hk ?clear, ?misuse⟩
  case acknowledge => exact State.live_of_awake awake (fun t => t.wake_writeAcknowledge k 0x01)
  case clear => exact State.live_of_awake awake (fun t => t.wake_writeAcknowledge k 0x02)
  case misuse =>
    intro v h1 h2
    have offset : (BitVec.ofNat 15 (0x0102 + 16 * k)).toNat = 0x0102 + 16 * k := by
      rw [BitVec.toNat_ofNat]; omega
    have written (t : State) : t.writeBytes (BitVec.ofNat 15 (0x0102 + 16 * k)).toNat [v] = t.misuse := by
      rw [offset, State.writeBytes_acknowledge t hk, State.writeAcknowledge_misuse t k h1 h2]
    rw [exec_exchangeWrite, funext written]
    exact State.live_of_awake awake State.wake_misuse

/-- A condition raised at a clear entry. -/
theorem CondEntry.raised_of_clear {e : CondEntry} (clear : e.code = none) (c : Cond) (d1 d2 : Byte) (t : Word) :
    e.raised c d1 d2 t =
      { code := some c, changed := true, count := 1, detail1 := d1, detail2 := d2, first := t, last := t } := by
  simp [CondEntry.raised, clear]

/-- A condition raised at an entry that holds one. -/
theorem CondEntry.raised_of_held {e : CondEntry} (held : e.code ≠ none) (c : Cond) (d1 d2 : Byte) (t : Word) :
    e.raised c d1 d2 t =
      { e with code := some c, changed := true, count := min 255 (e.count + 1), detail1 := d1, detail2 := d2, last := t } := by
  obtain ⟨b, hb⟩ := Option.ne_none_iff_exists'.mp held
  simp [CondEntry.raised, hb]

/-- What a raised condition writes whether the entry was clear or not. -/
theorem CondEntry.raised_writes (e : CondEntry) (c : Cond) (d1 d2 : Byte) (t : Word) :
    (e.raised c d1 d2 t).code = some c ∧ (e.raised c d1 d2 t).detail1 = d1 ∧ (e.raised c d1 d2 t).detail2 = d2 ∧
      (e.raised c d1 d2 t).last = t ∧ (e.raised c d1 d2 t).changed = true := by
  by_cases clear : e.code = none
  · simp [CondEntry.raised_of_clear clear]
  · simp [CondEntry.raised_of_held clear]

/-- The entry at the source is the raised one. -/
theorem State.cond_raise_self (s : State) {src : Nat} (h : src < 48) (c : Cond) (d1 d2 : Byte) :
    (s.raise src c d1 d2).cond src = (s.cond src).raised c d1 d2 s.stamp :=
  State.cond_setCond_self s src _ h

/-- Settles O19, from the entry's record after a raise: clear before, or holding a condition. -/
theorem raiseCondition : Obligations.RaiseCondition := by
  unfold Obligations.RaiseCondition
  intro s src c d1 d2 hsrc t
  have entry : t.cond src = (s.cond src).raised c d1 d2 s.stamp := State.cond_raise_self s hsrc c d1 d2
  obtain ⟨code, detail1, detail2, last, changed⟩ := CondEntry.raised_writes (s.cond src) c d1 d2 s.stamp
  rw [← entry] at code detail1 detail2 last changed
  refine ⟨code, detail1, detail2, last, changed, ?condition, ?clear, ?held, ?others, rfl⟩
  case condition => exact (State.causeCondition_iff t).mpr ⟨src, hsrc, changed⟩
  case clear => intro clear; simp [entry, CondEntry.raised_of_clear clear]
  case held => intro held; simp [entry, CondEntry.raised_of_held held]
  case others => exact fun j hj => State.cond_setCond_ne s src j _ hj.symm

/-! ### CAUSE and the interrupt output (R165, R166) -/

/-- CAUSE outside INIT, bit by bit. -/
theorem State.getLsbD_cause {s : State} (live : s.mode ≠ .init) :
    s.cause.getLsbD 0 = s.causeFinished ∧ s.cause.getLsbD 1 = s.causeCondition ∧ s.cause.getLsbD 2 = s.board.latchMode ∧
      s.cause.getLsbD 3 = s.board.latchMisuse ∧ s.cause.getLsbD 4 = s.board.latchRefused := by
  have bitOf (b : Bool) (v : Byte) (i : Nat) : (bit b v).getLsbD i = (b && v.getLsbD i) := by cases b <;> simp [bit]
  simp only [State.cause, live, if_false, BitVec.getLsbD_setWidth, BitVec.getLsbD_or, bitOf]
  simp

theorem State.cause_of_init {s : State} (init : s.mode = .init) : s.cause = 0 := by simp [State.cause, init]

/-- FINISHED is set exactly while the finish list holds a card. -/
theorem State.causeFinished_iff (s : State) : s.causeFinished = true ↔ s.board.finishList ≠ [] := by
  simp [State.causeFinished]

/-- Two words meet exactly where they share a set bit. -/
theorem and_ne_zero_iff_shared_bit {w : Nat} (x y : BitVec w) :
    x &&& y ≠ 0#w ↔ ∃ i, i < w ∧ x.getLsbD i = true ∧ y.getLsbD i = true := by
  constructor
  · intro ne
    by_contra none
    refine ne (BitVec.eq_of_getLsbD_eq fun i hi => ?_)
    have apart := not_exists.mp none i
    simpa [hi] using apart
  · rintro ⟨i, -, hx, hy⟩ zero
    have := congrArg (·.getLsbD i) zero
    simp [hx, hy] at this

/-- The output is asserted exactly while one of the five causes is set whose enable bit is set (R166). -/
theorem interruptLine_iff_shared_cause (s : State) :
    s.interruptLine = true ↔
      (s.board.enable.getLsbD 0 = true ∧ s.cause.getLsbD 0 = true) ∨
      (s.board.enable.getLsbD 1 = true ∧ s.cause.getLsbD 1 = true) ∨
      (s.board.enable.getLsbD 2 = true ∧ s.cause.getLsbD 2 = true) ∨
      (s.board.enable.getLsbD 3 = true ∧ s.cause.getLsbD 3 = true) ∨
      (s.board.enable.getLsbD 4 = true ∧ s.cause.getLsbD 4 = true) := by
  have meets : s.interruptLine = true ↔ s.board.enable &&& s.cause ≠ 0#5 := by
    rw [BitVec.and_comm]; simp [State.interruptLine]
  rw [meets, and_ne_zero_iff_shared_bit]
  constructor
  · rintro ⟨i, hi, shared⟩
    interval_cases i <;> simp [shared]
  · rintro (h | h | h | h | h)
    exacts [⟨0, by omega, h⟩, ⟨1, by omega, h⟩, ⟨2, by omega, h⟩, ⟨3, by omega, h⟩, ⟨4, by omega, h⟩]

/-- With CAUSE ENABLE 0 the output is deasserted whatever is set in CAUSE. -/
theorem State.interruptLine_of_enable_zero {s : State} (h : s.board.enable = 0) : s.interruptLine = false := by
  simp [State.interruptLine, h]

@[simp] theorem State.board_startChain (s : State) : s.startChain.board = s.board := rfl

/-- INIT_END leaves CAUSE ENABLE 0, which no neighbour alters (R178). -/
theorem exec_initEnd_enable {s : State} (init : s.mode = .init) :
    ∃ t, exec .initEnd s = .next t ∧ t.board.enable = 0 := by
  refine ⟨_, rfl, (congrArg Calm.enable State.resolved_calm).trans ?_⟩
  simp only [State.mode_begin, init, if_true]
  split <;> rfl

/-- Settles O18: outside INIT the output is the meeting of CAUSE and CAUSE ENABLE bit by bit, in INIT CAUSE is 0, and
INIT_END leaves CAUSE ENABLE 0. -/
theorem interruptOutput : Obligations.InterruptOutput := by
  unfold Obligations.InterruptOutput
  intro s
  refine ⟨?line, fun init => ?initEnd⟩
  case line =>
    rw [interruptLine_iff_shared_cause]
    by_cases init : s.mode = .init
    · simp [init, State.cause_of_init init]
    · obtain ⟨finished, condition, mode, misuse, refused⟩ := State.getLsbD_cause init
      simp only [ne_eq, init, not_false_eq_true, true_and, finished, condition, mode, misuse, refused,
        State.causeFinished_iff, State.causeCondition_iff]
  case initEnd =>
    obtain ⟨t, ended, enable⟩ := exec_initEnd_enable init
    exact ⟨t, ended, enable, State.interruptLine_of_enable_zero enable⟩

end Sys2Proof.Machine
end

section
/-! PROOF. Every step keeps the invariant (O4): the laws of `Laws/Safety.lean` put together over the commands, and a millisecond
that passes. -/

namespace Sys2Proof.Machine

variable {Q : List Instr} {s : State}

/-- A line's level changes nothing the invariant speaks of. -/
theorem Safe.withLines (h : Safe Q s) (l : Lines) : Safe Q { s with lines := l } := h.congr rfl rfl rfl

theorem execPowerOn_next (h : Safe Q s) (aisle : BitVec 6) :
    ∃ u, execPowerOn aisle s = .next u ∧ Safe Q u ∧ u.wake = [] :=
  State.event_next h _ (fun _ ht => State.initialise_safe ht.pending aisle [] rfl)

theorem execReset_next (h : Safe Q s) (aisle : BitVec 6) :
    ∃ u, execReset aisle s = .next u ∧ Safe Q u ∧ u.wake = [] :=
  State.event_next h _ (fun _ ht => State.initialise_safe ht.pending aisle _ (Memory.filter_wf _ _ ht.memory))

theorem execInitEnd_next (h : Safe Q s) : ∃ u, execInitEnd s = .next u ∧ Safe Q u ∧ u.wake = [] := by
  refine State.event_next h _ (fun t ht => ?_)
  have hu := State.rereadInputs_safe ht
  generalize t.rereadInputs = u at hu
  have hv : Safe Q { u with
      mode := .config
      board := { u.board with latchMode := true, latchMisuse := false, latchRefused := false, enable := 0 } } :=
    ⟨hu.pending, hu.even, hu.memory, hu.store⟩
  dsimp only
  split
  · split
    · exact State.startChain_safe hv
    · exact State.setStore_safe hv _ ⟨hv.store.active, hv.store.copy⟩
  · exact ht

theorem execCommitEnd_next (h : Safe Q s) (completed : Bool) (readBack : List Byte) :
    ∃ u, execCommitEnd completed readBack s = .next u ∧ Safe Q u ∧ u.wake = [] := by
  refine State.live_next h _ (fun t ht => ?_)
  split
  · exact ht
  · next o op =>
    split
    · next copy work => exact State.commitEnded_safe ht o copy completed readBack (ht.store.copy o copy op work)
    · exact ht

theorem State.writeBytes_safe (h : Safe Q s) (a : Nat) (vs : List Byte) : Safe Q (s.writeBytes a vs) := by
  induction vs generalizing s a with
  | nil => exact h
  | cons v vs ih => exact ih (ite_safe (State.writeByte_safe h a v) h) (a + 1)

/-- Every command is answered with a next state that keeps the queue, the evenness, the memory's form and the profiles' validity,
and nobody is left waiting. -/
theorem exec_next (h : Safe Q s) (c : Instr) : ∃ u, exec c s = .next u ∧ Safe Q u ∧ u.wake = [] := by
  cases c <;> dsimp only [exec]
  case powerOn a => exact execPowerOn_next h a
  case reset a => exact execReset_next h a
  case initEnd => exact execInitEnd_next h
  case commitEnd c r => exact execCommitEnd_next h c r
  case noProfile | relayedFrame | liftFrameDiscard =>
    dsimp only [execNoProfile, execRelayedFrame, execLiftFrameDiscard]
    exact State.live_next h _ (fun _ ht => ht)
  case eStopAssert | eStopRelease | entryArrive | entryArriveDeassert | rejectFullChange | exitReadyChange | spurCountChange =>
    dsimp only [execEStopAssert, execEStopRelease, execEntryArrive, execEntryArriveDeassert, execRejectFullChange,
      execExitReadyChange, execSpurCountChange]
    refine State.event_next h _ (fun t ht => ?_)
    repeat' split
    all_goals simp [ht.withLines]
  case badKind | retrieve | store | cancel | flush | skip | renumber | bar | unbarKeep | unbarClear | retire | commit | erase =>
    dsimp only [execBadKind, execRetrieve, execStore, execCancel, execFlush, execSkip, execRenumber, execBar, execUnbarKeep,
      execUnbarClear, execRetire, execCommit, execErase]
    refine State.examine_next h _ _ (fun n t ht => ?_)
    simp [ht]
  case status | arrived | stopDone | tripEnd | ready | parkedAck | state | fault | unknownKindFrame =>
    dsimp only [execStatus, execArrived, execStopDone, execTripEnd, execReady, execParkedAck, execState, execFault,
      execUnknownKindFrame]
    refine State.liftFrameIn_next h _ _ (fun t ht => ?_)
    simp [ht]
  case exchangeWrite off bs =>
    dsimp only [execExchangeWrite]
    exact State.live_next h _ (fun t ht => State.writeBytes_safe ht _ _)
  case eraseEnd | retireEnd | silenceTimerExpiry | parkTimerExpiry | registerWrite =>
    dsimp only [execEraseEnd, execRetireEnd, execSilenceTimerExpiry, execParkTimerExpiry, execRegisterWrite]
    refine State.live_next h _ (fun t ht => ?_)
    repeat' split
    all_goals simp [ht]
  case postedWrite | freeWrite | acknowledge | clearEntry | requestConfig | requestRun | requestHold | causeWrite |
      causeEnableWrite =>
    dsimp only [execPostedWrite, execFreeWrite, execAcknowledge, execClearEntry, execRequestConfig, execRequestRun,
      execRequestHold, execCauseWrite, execCauseEnableWrite]
    refine State.live_next h _ (fun t ht => ?_)
    simp [ht]
  case dropAsk | takeAsk | laneCount =>
    dsimp only [execDropAsk, execTakeAsk, execLaneCount]
    refine State.live_next h _ (fun t ht => State.report_safe ht _ _ _ _ (fun u k hu => ?_))
    simp [hu]
  case dropDone | dropAbort | takeDone | takeAbort =>
    dsimp only [execDropDone, execDropAbort, execTakeDone, execTakeAbort]
    refine State.live_next h _ (fun t ht => State.report_safe ht _ _ _ _ (fun u k hu =>
      State.grantReport_safe hu _ _ _ (fun v g hv => ?_)))
    simp [hv]
  case nothing | overflow | restarted =>
    dsimp only [execNothing, execOverflow, execRestarted]
    refine State.live_next h _ (fun t ht => State.pollAnswer_safe ht _ _ _ (fun u k hu => ?_))
    simp [hu]
  case resyncReport | ack =>
    dsimp only [execResyncReport, execAck]
    refine State.live_next h _ (fun t ht => ?_)
    simp [ht]
  case grantTimerExpiry | visit | exchangeUnanswered | hello | checkError | commandResend | stateAskRepeat | wakeTimerExpiry |
      deadlineExpiry | entryReaderResult | divertDone | mismatchTimerExpiry | exitReaderResult | pass | overdueTimerExpiry |
      stallTimerExpiry =>
    dsimp only [execGrantTimerExpiry, execVisit, execExchangeUnanswered, execHello, execCheckError, execCommandResend,
      execStateAskRepeat, execWakeTimerExpiry, execDeadlineExpiry, execEntryReaderResult, execDivertDone, execMismatchTimerExpiry,
      execExitReaderResult, execPass, execOverdueTimerExpiry, execStallTimerExpiry]
    refine State.live_next h _ (fun t ht => ?_)
    simp [ht]

/-- A millisecond that passes keeps the invariant. -/
theorem Inv.tick (h : Inv s) : Inv s.tick := ⟨h.even, h.memory, h.store, h.wake⟩

/-- The step on an empty queue keeps the invariant. -/
theorem Inv.idle (h : Inv s) : Inv s.idle := by
  unfold State.idle
  split
  · exact h.tick
  · exact ⟨h.even, h.memory, h.store, h.wake⟩

/-- Settles O4, by the step's two cases: a command of the queue, or the module's own time. -/
theorem stepKeepsInvariant : Obligations.StepKeepsInvariant := by
  intro s t inv stepped
  unfold step at stepped
  split at stepped
  · next c rest _ =>
    have safe : Safe rest { s with pending := rest } := ⟨rfl, inv.even, inv.memory, inv.store⟩
    obtain ⟨u, run, keeps, quiet⟩ := exec_next safe c
    obtain rfl : u = t := by rw [run] at stepped; exact Host.Outcome.next.inj stepped
    exact ⟨keeps.even, keeps.memory, keeps.store, quiet⟩
  · obtain rfl := Host.Outcome.next.inj stepped
    exact inv.idle

end Sys2Proof.Machine
end

section
/-! PROOF. What each shared operation leaves unchanged, field by field: one frame lemma for each operation that is built from the
updates of the state. -/

namespace Sys2Proof.Machine

/-- What every operation of a list leaves, the whole list leaves. -/
theorem foldl_view {α β : Type} (view : State → β) {f : State → α → State} (keeps : ∀ t x, view (f t x) = view t) (l : List α)
    (s : State) : view (l.foldl f s) = view s := by
  induction l generalizing s with
  | nil => rfl
  | cons x l ih => exact (ih _).trans (keeps s x)

@[simp] theorem State.held_setGrant (s : State) (level : Nat) (g : Option Grant) :
    (s.setGrant level g).handover.held = s.handover.held := by
  cases level <;> rfl

/-! ### Telling, queueing and the place map -/

@[simp] theorem State.tellAll_frame (s : State) (rs : List Retry) :
    (s.tellAll rs).pending = s.pending ∧ (s.tellAll rs).sent = s.sent ∧ (s.tellAll rs).mode = s.mode ∧
    (s.tellAll rs).lines = s.lines ∧ (s.tellAll rs).board = s.board ∧ (s.tellAll rs).conditions = s.conditions ∧
    (s.tellAll rs).contexts = s.contexts ∧ (s.tellAll rs).places = s.places ∧ (s.tellAll rs).release = s.release ∧
    (s.tellAll rs).handover = s.handover ∧ (s.tellAll rs).lifts = s.lifts ∧ (s.tellAll rs).chain = s.chain ∧
    (s.tellAll rs).entry = s.entry ∧ (s.tellAll rs).store = s.store := by
  unfold State.tellAll
  simpa only [Prod.mk.injEq] using foldl_view (fun t : State =>
      (t.pending, t.sent, t.mode, t.lines, t.board, t.conditions, t.contexts, t.places, t.release, t.handover, t.lifts,
      t.chain, t.entry, t.store)) (fun t r => by simp) rs s

@[simp] theorem State.queueNode_frame (s : State) (level : Nat) (c : ChainCmd) :
    (s.queueNode level c).pending = s.pending ∧ (s.queueNode level c).wake = s.wake ∧ (s.queueNode level c).sent = s.sent ∧
    (s.queueNode level c).mode = s.mode ∧ (s.queueNode level c).lines = s.lines ∧ (s.queueNode level c).board = s.board ∧
    (s.queueNode level c).conditions = s.conditions ∧ (s.queueNode level c).contexts = s.contexts ∧
    (s.queueNode level c).places = s.places ∧ (s.queueNode level c).release = s.release ∧
    (s.queueNode level c).handover = s.handover ∧ (s.queueNode level c).lifts = s.lifts ∧
    (s.queueNode level c).entry = s.entry ∧ (s.queueNode level c).store = s.store ∧
    (s.queueNode level c).chain.bottom = s.chain.bottom ∧ (s.queueNode level c).chain.top = s.chain.top := by
  unfold State.queueNode State.updateNode
  split
  · cases level <;> simp [State.setNode]
  · simp

@[simp] theorem State.queueResync_frame (s : State) (level : Nat) :
    (s.queueResync level).pending = s.pending ∧ (s.queueResync level).wake = s.wake ∧ (s.queueResync level).sent = s.sent ∧
    (s.queueResync level).mode = s.mode ∧ (s.queueResync level).lines = s.lines ∧ (s.queueResync level).board = s.board ∧
    (s.queueResync level).conditions = s.conditions ∧ (s.queueResync level).contexts = s.contexts ∧
    (s.queueResync level).places = s.places ∧ (s.queueResync level).release = s.release ∧
    (s.queueResync level).handover = s.handover ∧ (s.queueResync level).lifts = s.lifts ∧
    (s.queueResync level).entry = s.entry ∧ (s.queueResync level).store = s.store ∧
    (s.queueResync level).chain.bottom = s.chain.bottom ∧ (s.queueResync level).chain.top = s.chain.top := by
  unfold State.queueResync
  (repeat' split) <;> simp

@[simp] theorem State.copyMirror_frame (s : State) (old : State) (p : Nat) :
    (s.copyMirror old p).pending = s.pending ∧ (s.copyMirror old p).wake = s.wake ∧ (s.copyMirror old p).sent = s.sent ∧
    (s.copyMirror old p).mode = s.mode ∧ (s.copyMirror old p).lines = s.lines ∧
    (s.copyMirror old p).board.postQueue = s.board.postQueue ∧ (s.copyMirror old p).board.finishList = s.board.finishList ∧
    (s.copyMirror old p).board.changeCount = s.board.changeCount ∧ (s.copyMirror old p).board.latchMode = s.board.latchMode ∧
    (s.copyMirror old p).board.latchMisuse = s.board.latchMisuse ∧
    (s.copyMirror old p).board.latchRefused = s.board.latchRefused ∧ (s.copyMirror old p).board.enable = s.board.enable ∧
    (s.copyMirror old p).board.clock = s.board.clock ∧ (s.copyMirror old p).board.aisle = s.board.aisle ∧
    (s.copyMirror old p).conditions = s.conditions ∧ (s.copyMirror old p).contexts = s.contexts ∧
    (s.copyMirror old p).places = s.places ∧ (s.copyMirror old p).release = s.release ∧
    (s.copyMirror old p).handover = s.handover ∧ (s.copyMirror old p).lifts = s.lifts ∧ (s.copyMirror old p).chain = s.chain ∧
    (s.copyMirror old p).entry = s.entry ∧ (s.copyMirror old p).store = s.store := by
  unfold State.copyMirror State.writeMirror
  split <;> simp [State.setMem]

@[simp] theorem State.setPlace_frame (s : State) (p : Nat) (q : Place) :
    (s.setPlace p q).pending = s.pending ∧ (s.setPlace p q).wake = s.wake ∧ (s.setPlace p q).sent = s.sent ∧
    (s.setPlace p q).mode = s.mode ∧ (s.setPlace p q).lines = s.lines ∧ (s.setPlace p q).board.postQueue = s.board.postQueue ∧
    (s.setPlace p q).board.finishList = s.board.finishList ∧ (s.setPlace p q).board.changeCount = s.board.changeCount ∧
    (s.setPlace p q).board.latchMode = s.board.latchMode ∧ (s.setPlace p q).board.latchMisuse = s.board.latchMisuse ∧
    (s.setPlace p q).board.latchRefused = s.board.latchRefused ∧ (s.setPlace p q).board.enable = s.board.enable ∧
    (s.setPlace p q).board.clock = s.board.clock ∧ (s.setPlace p q).board.aisle = s.board.aisle ∧
    (s.setPlace p q).conditions = s.conditions ∧ (s.setPlace p q).contexts = s.contexts ∧
    (s.setPlace p q).release = s.release ∧ (s.setPlace p q).handover = s.handover ∧ (s.setPlace p q).lifts = s.lifts ∧
    (s.setPlace p q).chain = s.chain ∧ (s.setPlace p q).entry = s.entry ∧ (s.setPlace p q).store = s.store := by
  simp [State.setPlace]

@[simp] theorem State.retime_frame (s : State) (p : Nat) :
    (s.retime p).pending = s.pending ∧ (s.retime p).wake = s.wake ∧ (s.retime p).sent = s.sent ∧ (s.retime p).mode = s.mode ∧
    (s.retime p).lines = s.lines ∧ (s.retime p).board.postQueue = s.board.postQueue ∧
    (s.retime p).board.finishList = s.board.finishList ∧ (s.retime p).board.changeCount = s.board.changeCount ∧
    (s.retime p).board.latchMode = s.board.latchMode ∧ (s.retime p).board.latchMisuse = s.board.latchMisuse ∧
    (s.retime p).board.latchRefused = s.board.latchRefused ∧ (s.retime p).board.enable = s.board.enable ∧
    (s.retime p).board.clock = s.board.clock ∧ (s.retime p).board.aisle = s.board.aisle ∧
    (s.retime p).conditions = s.conditions ∧ (s.retime p).contexts = s.contexts ∧ (s.retime p).release = s.release ∧
    (s.retime p).handover = s.handover ∧ (s.retime p).lifts = s.lifts ∧ (s.retime p).chain = s.chain ∧
    (s.retime p).entry = s.entry ∧ (s.retime p).store = s.store := by
  simp [State.retime]

@[simp] theorem State.afterReservation_frame (s : State) (p : Nat) :
    (s.afterReservation p).pending = s.pending ∧ (s.afterReservation p).wake = s.wake ∧ (s.afterReservation p).sent = s.sent ∧
    (s.afterReservation p).mode = s.mode ∧ (s.afterReservation p).lines = s.lines ∧ (s.afterReservation p).board = s.board ∧
    (s.afterReservation p).conditions = s.conditions ∧ (s.afterReservation p).contexts = s.contexts ∧
    (s.afterReservation p).places = s.places ∧ (s.afterReservation p).release = s.release ∧
    (s.afterReservation p).handover = s.handover ∧ (s.afterReservation p).lifts = s.lifts ∧
    (s.afterReservation p).entry = s.entry ∧ (s.afterReservation p).store = s.store ∧
    (s.afterReservation p).chain.bottom = s.chain.bottom ∧ (s.afterReservation p).chain.top = s.chain.top := by
  unfold State.afterReservation
  (repeat' split) <;> simp

@[simp] theorem State.arrive_frame (s : State) (p : Nat) (e : Entry) :
    (s.arrive p e).pending = s.pending ∧ (s.arrive p e).sent = s.sent ∧ (s.arrive p e).mode = s.mode ∧
    (s.arrive p e).lines = s.lines ∧ (s.arrive p e).board.postQueue = s.board.postQueue ∧
    (s.arrive p e).board.finishList = s.board.finishList ∧ (s.arrive p e).board.changeCount = s.board.changeCount ∧
    (s.arrive p e).board.latchMode = s.board.latchMode ∧ (s.arrive p e).board.latchMisuse = s.board.latchMisuse ∧
    (s.arrive p e).board.latchRefused = s.board.latchRefused ∧ (s.arrive p e).board.enable = s.board.enable ∧
    (s.arrive p e).board.clock = s.board.clock ∧ (s.arrive p e).board.aisle = s.board.aisle ∧
    (s.arrive p e).conditions = s.conditions ∧ (s.arrive p e).contexts = s.contexts ∧ (s.arrive p e).release = s.release ∧
    (s.arrive p e).handover = s.handover ∧ (s.arrive p e).lifts = s.lifts ∧ (s.arrive p e).chain = s.chain ∧
    (s.arrive p e).entry = s.entry ∧ (s.arrive p e).store = s.store := by
  simp [State.arrive]

@[simp] theorem State.arriveReserved_frame (s : State) (p : Nat) (e : Entry) :
    (s.arriveReserved p e).pending = s.pending ∧ (s.arriveReserved p e).sent = s.sent ∧ (s.arriveReserved p e).mode = s.mode ∧
    (s.arriveReserved p e).lines = s.lines ∧ (s.arriveReserved p e).board.postQueue = s.board.postQueue ∧
    (s.arriveReserved p e).board.finishList = s.board.finishList ∧
    (s.arriveReserved p e).board.changeCount = s.board.changeCount ∧
    (s.arriveReserved p e).board.latchMode = s.board.latchMode ∧
    (s.arriveReserved p e).board.latchMisuse = s.board.latchMisuse ∧
    (s.arriveReserved p e).board.latchRefused = s.board.latchRefused ∧ (s.arriveReserved p e).board.enable = s.board.enable ∧
    (s.arriveReserved p e).board.clock = s.board.clock ∧ (s.arriveReserved p e).board.aisle = s.board.aisle ∧
    (s.arriveReserved p e).conditions = s.conditions ∧ (s.arriveReserved p e).contexts = s.contexts ∧
    (s.arriveReserved p e).release = s.release ∧ (s.arriveReserved p e).handover = s.handover ∧
    (s.arriveReserved p e).lifts = s.lifts ∧ (s.arriveReserved p e).entry = s.entry ∧ (s.arriveReserved p e).store = s.store ∧
    (s.arriveReserved p e).chain.bottom = s.chain.bottom ∧ (s.arriveReserved p e).chain.top = s.chain.top := by
  simp [State.arriveReserved]

@[simp] theorem State.depart_frame (s : State) (p : Nat) :
    (s.depart p).pending = s.pending ∧ (s.depart p).sent = s.sent ∧ (s.depart p).mode = s.mode ∧ (s.depart p).lines = s.lines ∧
    (s.depart p).board.postQueue = s.board.postQueue ∧ (s.depart p).board.finishList = s.board.finishList ∧
    (s.depart p).board.changeCount = s.board.changeCount ∧ (s.depart p).board.latchMode = s.board.latchMode ∧
    (s.depart p).board.latchMisuse = s.board.latchMisuse ∧ (s.depart p).board.latchRefused = s.board.latchRefused ∧
    (s.depart p).board.enable = s.board.enable ∧ (s.depart p).board.clock = s.board.clock ∧
    (s.depart p).board.aisle = s.board.aisle ∧ (s.depart p).conditions = s.conditions ∧ (s.depart p).contexts = s.contexts ∧
    (s.depart p).release = s.release ∧ (s.depart p).handover = s.handover ∧ (s.depart p).chain = s.chain ∧
    (s.depart p).entry = s.entry ∧ (s.depart p).store = s.store := by
  unfold State.depart
  (repeat' split) <;> simp

@[simp] theorem State.setEntries_frame (s : State) (p : Nat) (es : List Entry) :
    (s.setEntries p es).pending = s.pending ∧ (s.setEntries p es).wake = s.wake ∧ (s.setEntries p es).sent = s.sent ∧
    (s.setEntries p es).mode = s.mode ∧ (s.setEntries p es).lines = s.lines ∧
    (s.setEntries p es).board.postQueue = s.board.postQueue ∧ (s.setEntries p es).board.finishList = s.board.finishList ∧
    (s.setEntries p es).board.changeCount = s.board.changeCount ∧ (s.setEntries p es).board.latchMode = s.board.latchMode ∧
    (s.setEntries p es).board.latchMisuse = s.board.latchMisuse ∧
    (s.setEntries p es).board.latchRefused = s.board.latchRefused ∧ (s.setEntries p es).board.enable = s.board.enable ∧
    (s.setEntries p es).board.clock = s.board.clock ∧ (s.setEntries p es).board.aisle = s.board.aisle ∧
    (s.setEntries p es).conditions = s.conditions ∧ (s.setEntries p es).contexts = s.contexts ∧
    (s.setEntries p es).release = s.release ∧ (s.setEntries p es).handover = s.handover ∧ (s.setEntries p es).lifts = s.lifts ∧
    (s.setEntries p es).chain = s.chain ∧ (s.setEntries p es).entry = s.entry ∧ (s.setEntries p es).store = s.store := by
  simp [State.setEntries]

@[simp] theorem State.reserve_frame (s : State) (p : Nat) :
    (s.reserve p).pending = s.pending ∧ (s.reserve p).wake = s.wake ∧ (s.reserve p).sent = s.sent ∧
    (s.reserve p).mode = s.mode ∧ (s.reserve p).lines = s.lines ∧ (s.reserve p).board.postQueue = s.board.postQueue ∧
    (s.reserve p).board.finishList = s.board.finishList ∧ (s.reserve p).board.changeCount = s.board.changeCount ∧
    (s.reserve p).board.latchMode = s.board.latchMode ∧ (s.reserve p).board.latchMisuse = s.board.latchMisuse ∧
    (s.reserve p).board.latchRefused = s.board.latchRefused ∧ (s.reserve p).board.enable = s.board.enable ∧
    (s.reserve p).board.clock = s.board.clock ∧ (s.reserve p).board.aisle = s.board.aisle ∧
    (s.reserve p).conditions = s.conditions ∧ (s.reserve p).contexts = s.contexts ∧ (s.reserve p).release = s.release ∧
    (s.reserve p).handover = s.handover ∧ (s.reserve p).lifts = s.lifts ∧ (s.reserve p).chain = s.chain ∧
    (s.reserve p).entry = s.entry ∧ (s.reserve p).store = s.store := by
  simp [State.reserve]

@[simp] theorem State.unreserve_frame (s : State) (p : Nat) :
    (s.unreserve p).pending = s.pending ∧ (s.unreserve p).sent = s.sent ∧ (s.unreserve p).mode = s.mode ∧
    (s.unreserve p).lines = s.lines ∧ (s.unreserve p).board.postQueue = s.board.postQueue ∧
    (s.unreserve p).board.finishList = s.board.finishList ∧ (s.unreserve p).board.changeCount = s.board.changeCount ∧
    (s.unreserve p).board.latchMode = s.board.latchMode ∧ (s.unreserve p).board.latchMisuse = s.board.latchMisuse ∧
    (s.unreserve p).board.latchRefused = s.board.latchRefused ∧ (s.unreserve p).board.enable = s.board.enable ∧
    (s.unreserve p).board.clock = s.board.clock ∧ (s.unreserve p).board.aisle = s.board.aisle ∧
    (s.unreserve p).conditions = s.conditions ∧ (s.unreserve p).contexts = s.contexts ∧ (s.unreserve p).release = s.release ∧
    (s.unreserve p).handover = s.handover ∧ (s.unreserve p).lifts = s.lifts ∧ (s.unreserve p).entry = s.entry ∧
    (s.unreserve p).store = s.store ∧ (s.unreserve p).chain.bottom = s.chain.bottom ∧ (s.unreserve p).chain.top = s.chain.top := by
  simp [State.unreserve]

@[simp] theorem State.lockLane_frame (s : State) (p : Nat) (l : Lock) :
    (s.lockLane p l).pending = s.pending ∧ (s.lockLane p l).wake = s.wake ∧ (s.lockLane p l).sent = s.sent ∧
    (s.lockLane p l).mode = s.mode ∧ (s.lockLane p l).lines = s.lines ∧ (s.lockLane p l).board.postQueue = s.board.postQueue ∧
    (s.lockLane p l).board.finishList = s.board.finishList ∧ (s.lockLane p l).board.changeCount = s.board.changeCount ∧
    (s.lockLane p l).board.latchMode = s.board.latchMode ∧ (s.lockLane p l).board.latchMisuse = s.board.latchMisuse ∧
    (s.lockLane p l).board.latchRefused = s.board.latchRefused ∧ (s.lockLane p l).board.enable = s.board.enable ∧
    (s.lockLane p l).board.clock = s.board.clock ∧ (s.lockLane p l).board.aisle = s.board.aisle ∧
    (s.lockLane p l).conditions = s.conditions ∧ (s.lockLane p l).contexts = s.contexts ∧
    (s.lockLane p l).release = s.release ∧ (s.lockLane p l).handover = s.handover ∧ (s.lockLane p l).lifts = s.lifts ∧
    (s.lockLane p l).chain = s.chain ∧ (s.lockLane p l).entry = s.entry ∧ (s.lockLane p l).store = s.store := by
  simp [State.lockLane]

@[simp] theorem State.unlockLane_frame (s : State) (p : Nat) :
    (s.unlockLane p).pending = s.pending ∧ (s.unlockLane p).sent = s.sent ∧ (s.unlockLane p).mode = s.mode ∧
    (s.unlockLane p).lines = s.lines ∧ (s.unlockLane p).board.postQueue = s.board.postQueue ∧
    (s.unlockLane p).board.finishList = s.board.finishList ∧ (s.unlockLane p).board.changeCount = s.board.changeCount ∧
    (s.unlockLane p).board.latchMode = s.board.latchMode ∧ (s.unlockLane p).board.latchMisuse = s.board.latchMisuse ∧
    (s.unlockLane p).board.latchRefused = s.board.latchRefused ∧ (s.unlockLane p).board.enable = s.board.enable ∧
    (s.unlockLane p).board.clock = s.board.clock ∧ (s.unlockLane p).board.aisle = s.board.aisle ∧
    (s.unlockLane p).conditions = s.conditions ∧ (s.unlockLane p).contexts = s.contexts ∧
    (s.unlockLane p).release = s.release ∧ (s.unlockLane p).handover = s.handover ∧ (s.unlockLane p).lifts = s.lifts ∧
    (s.unlockLane p).chain = s.chain ∧ (s.unlockLane p).entry = s.entry ∧ (s.unlockLane p).store = s.store := by
  simp [State.unlockLane]

@[simp] theorem State.setStatus_frame (s : State) (p : Nat) (q : Place) :
    (s.setStatus p q).pending = s.pending ∧ (s.setStatus p q).sent = s.sent ∧ (s.setStatus p q).mode = s.mode ∧
    (s.setStatus p q).lines = s.lines ∧ (s.setStatus p q).board.postQueue = s.board.postQueue ∧
    (s.setStatus p q).board.finishList = s.board.finishList ∧ (s.setStatus p q).board.changeCount = s.board.changeCount ∧
    (s.setStatus p q).board.latchMode = s.board.latchMode ∧ (s.setStatus p q).board.latchMisuse = s.board.latchMisuse ∧
    (s.setStatus p q).board.latchRefused = s.board.latchRefused ∧ (s.setStatus p q).board.enable = s.board.enable ∧
    (s.setStatus p q).board.clock = s.board.clock ∧ (s.setStatus p q).board.aisle = s.board.aisle ∧
    (s.setStatus p q).conditions = s.conditions ∧ (s.setStatus p q).contexts = s.contexts ∧
    (s.setStatus p q).release = s.release ∧ (s.setStatus p q).handover = s.handover ∧ (s.setStatus p q).lifts = s.lifts ∧
    (s.setStatus p q).chain = s.chain ∧ (s.setStatus p q).entry = s.entry ∧ (s.setStatus p q).store = s.store := by
  simp [State.setStatus]

@[simp] theorem State.freeze_frame (s : State) (p : Nat) (r : Freeze) :
    (s.freeze p r).pending = s.pending ∧ (s.freeze p r).sent = s.sent ∧ (s.freeze p r).mode = s.mode ∧
    (s.freeze p r).lines = s.lines ∧ (s.freeze p r).board.postQueue = s.board.postQueue ∧
    (s.freeze p r).board.finishList = s.board.finishList ∧ (s.freeze p r).board.changeCount = s.board.changeCount ∧
    (s.freeze p r).board.latchMode = s.board.latchMode ∧ (s.freeze p r).board.latchMisuse = s.board.latchMisuse ∧
    (s.freeze p r).board.latchRefused = s.board.latchRefused ∧ (s.freeze p r).board.enable = s.board.enable ∧
    (s.freeze p r).board.clock = s.board.clock ∧ (s.freeze p r).board.aisle = s.board.aisle ∧
    (s.freeze p r).contexts = s.contexts ∧ (s.freeze p r).release = s.release ∧ (s.freeze p r).handover = s.handover ∧
    (s.freeze p r).lifts = s.lifts ∧ (s.freeze p r).chain = s.chain ∧ (s.freeze p r).entry = s.entry ∧
    (s.freeze p r).store = s.store := by
  simp [State.freeze]

/-! ### The release unit -/

@[simp] theorem State.advance_frame (s : State) :
    s.advance.pending = s.pending ∧ s.advance.sent = s.sent ∧ s.advance.mode = s.mode ∧ s.advance.lines = s.lines ∧
    s.advance.board = s.board ∧ s.advance.conditions = s.conditions ∧ s.advance.contexts = s.contexts ∧
    s.advance.places = s.places ∧ s.advance.handover = s.handover ∧ s.advance.lifts = s.lifts ∧ s.advance.chain = s.chain ∧
    s.advance.entry = s.entry ∧ s.advance.store = s.store := by
  simp [State.advance]

@[simp] theorem State.voiding_frame (s : State) (x : Half) :
    (s.voiding x).pending = s.pending ∧ (s.voiding x).sent = s.sent ∧ (s.voiding x).mode = s.mode ∧
    (s.voiding x).lines = s.lines ∧ (s.voiding x).board = s.board ∧ (s.voiding x).conditions = s.conditions ∧
    (s.voiding x).contexts = s.contexts ∧ (s.voiding x).places = s.places ∧ (s.voiding x).handover = s.handover ∧
    (s.voiding x).lifts = s.lifts ∧ (s.voiding x).chain = s.chain ∧ (s.voiding x).entry = s.entry ∧
    (s.voiding x).store = s.store := by
  unfold State.voiding
  (repeat' split) <;> simp

@[simp] theorem State.unlist_frame (s : State) (n : Nat) :
    (s.unlist n).pending = s.pending ∧ (s.unlist n).wake = s.wake ∧ (s.unlist n).sent = s.sent ∧ (s.unlist n).mode = s.mode ∧
    (s.unlist n).lines = s.lines ∧ (s.unlist n).board = s.board ∧ (s.unlist n).conditions = s.conditions ∧
    (s.unlist n).contexts = s.contexts ∧ (s.unlist n).places = s.places ∧ (s.unlist n).handover = s.handover ∧
    (s.unlist n).lifts = s.lifts ∧ (s.unlist n).chain = s.chain ∧ (s.unlist n).entry = s.entry ∧ (s.unlist n).store = s.store := by
  simp [State.unlist]

@[simp] theorem State.unbind_frame (s : State) (n : Nat) :
    (s.unbind n).pending = s.pending ∧ (s.unbind n).sent = s.sent ∧ (s.unbind n).mode = s.mode ∧ (s.unbind n).lines = s.lines ∧
    (s.unbind n).board = s.board ∧ (s.unbind n).conditions = s.conditions ∧ (s.unbind n).contexts = s.contexts ∧
    (s.unbind n).places = s.places ∧ (s.unbind n).handover = s.handover ∧ (s.unbind n).lifts = s.lifts ∧
    (s.unbind n).chain = s.chain ∧ (s.unbind n).entry = s.entry ∧ (s.unbind n).store = s.store := by
  simp [State.unbind]

@[simp] theorem State.restStall_frame (s : State) :
    s.restStall.pending = s.pending ∧ s.restStall.wake = s.wake ∧ s.restStall.sent = s.sent ∧ s.restStall.mode = s.mode ∧
    s.restStall.lines = s.lines ∧ s.restStall.board = s.board ∧ s.restStall.conditions = s.conditions ∧
    s.restStall.contexts = s.contexts ∧ s.restStall.places = s.places ∧ s.restStall.handover = s.handover ∧
    s.restStall.lifts = s.lifts ∧ s.restStall.chain = s.chain ∧ s.restStall.entry = s.entry ∧ s.restStall.store = s.store := by
  unfold State.restStall
  (repeat' split) <;> simp

@[simp] theorem State.giveUp_frame (s : State) (n : Nat) (stays : Bool) :
    (s.giveUp n stays).pending = s.pending ∧ (s.giveUp n stays).sent = s.sent ∧ (s.giveUp n stays).mode = s.mode ∧
    (s.giveUp n stays).lines = s.lines ∧ (s.giveUp n stays).board = s.board ∧ (s.giveUp n stays).conditions = s.conditions ∧
    (s.giveUp n stays).places = s.places ∧ (s.giveUp n stays).handover = s.handover ∧ (s.giveUp n stays).lifts = s.lifts ∧
    (s.giveUp n stays).chain = s.chain ∧ (s.giveUp n stays).entry = s.entry ∧ (s.giveUp n stays).store = s.store := by
  unfold State.giveUp
  split
  · simp
  · split <;> simp

/-! ### Cards -/

@[simp] theorem State.writeCard_frame (s : State) (n : Nat) (i : Nat) (bs : List Byte) :
    (s.writeCard n i bs).pending = s.pending ∧ (s.writeCard n i bs).wake = s.wake ∧ (s.writeCard n i bs).sent = s.sent ∧
    (s.writeCard n i bs).mode = s.mode ∧ (s.writeCard n i bs).lines = s.lines ∧
    (s.writeCard n i bs).board.postQueue = s.board.postQueue ∧ (s.writeCard n i bs).board.finishList = s.board.finishList ∧
    (s.writeCard n i bs).board.changeCount = s.board.changeCount ∧ (s.writeCard n i bs).board.latchMode = s.board.latchMode ∧
    (s.writeCard n i bs).board.latchMisuse = s.board.latchMisuse ∧
    (s.writeCard n i bs).board.latchRefused = s.board.latchRefused ∧ (s.writeCard n i bs).board.enable = s.board.enable ∧
    (s.writeCard n i bs).board.clock = s.board.clock ∧ (s.writeCard n i bs).board.aisle = s.board.aisle ∧
    (s.writeCard n i bs).conditions = s.conditions ∧ (s.writeCard n i bs).contexts = s.contexts ∧
    (s.writeCard n i bs).places = s.places ∧ (s.writeCard n i bs).release = s.release ∧
    (s.writeCard n i bs).handover = s.handover ∧ (s.writeCard n i bs).lifts = s.lifts ∧ (s.writeCard n i bs).chain = s.chain ∧
    (s.writeCard n i bs).entry = s.entry ∧ (s.writeCard n i bs).store = s.store := by
  simp [State.writeCard, State.setMem]

@[simp] theorem State.setCardState_frame (s : State) (n : Nat) (b : Byte) :
    (s.setCardState n b).pending = s.pending ∧ (s.setCardState n b).wake = s.wake ∧ (s.setCardState n b).sent = s.sent ∧
    (s.setCardState n b).mode = s.mode ∧ (s.setCardState n b).lines = s.lines ∧
    (s.setCardState n b).board.postQueue = s.board.postQueue ∧ (s.setCardState n b).board.finishList = s.board.finishList ∧
    (s.setCardState n b).board.changeCount = s.board.changeCount ∧ (s.setCardState n b).board.latchMode = s.board.latchMode ∧
    (s.setCardState n b).board.latchMisuse = s.board.latchMisuse ∧
    (s.setCardState n b).board.latchRefused = s.board.latchRefused ∧ (s.setCardState n b).board.enable = s.board.enable ∧
    (s.setCardState n b).board.clock = s.board.clock ∧ (s.setCardState n b).board.aisle = s.board.aisle ∧
    (s.setCardState n b).conditions = s.conditions ∧ (s.setCardState n b).contexts = s.contexts ∧
    (s.setCardState n b).places = s.places ∧ (s.setCardState n b).release = s.release ∧
    (s.setCardState n b).handover = s.handover ∧ (s.setCardState n b).lifts = s.lifts ∧ (s.setCardState n b).chain = s.chain ∧
    (s.setCardState n b).entry = s.entry ∧ (s.setCardState n b).store = s.store := by
  simp [State.setCardState]

@[simp] theorem State.appendFinish_frame (s : State) (n : Nat) :
    (s.appendFinish n).pending = s.pending ∧ (s.appendFinish n).wake = s.wake ∧ (s.appendFinish n).sent = s.sent ∧
    (s.appendFinish n).mode = s.mode ∧ (s.appendFinish n).lines = s.lines ∧
    (s.appendFinish n).board.postQueue = s.board.postQueue ∧ (s.appendFinish n).board.latchMode = s.board.latchMode ∧
    (s.appendFinish n).board.latchMisuse = s.board.latchMisuse ∧ (s.appendFinish n).board.latchRefused = s.board.latchRefused ∧
    (s.appendFinish n).board.enable = s.board.enable ∧ (s.appendFinish n).board.clock = s.board.clock ∧
    (s.appendFinish n).board.aisle = s.board.aisle ∧ (s.appendFinish n).board.mem = s.board.mem ∧
    (s.appendFinish n).conditions = s.conditions ∧ (s.appendFinish n).contexts = s.contexts ∧
    (s.appendFinish n).places = s.places ∧ (s.appendFinish n).release = s.release ∧ (s.appendFinish n).handover = s.handover ∧
    (s.appendFinish n).lifts = s.lifts ∧ (s.appendFinish n).chain = s.chain ∧ (s.appendFinish n).entry = s.entry ∧
    (s.appendFinish n).store = s.store := by
  simp [State.appendFinish]

@[simp] theorem State.finishCard_frame (s : State) (n : Nat) (final : Byte) (r : ReasonCode) (detail : Byte) (examined : Word) :
    (s.finishCard n final r detail examined).pending = s.pending ∧ (s.finishCard n final r detail examined).wake = s.wake ∧
    (s.finishCard n final r detail examined).sent = s.sent ∧ (s.finishCard n final r detail examined).mode = s.mode ∧
    (s.finishCard n final r detail examined).lines = s.lines ∧
    (s.finishCard n final r detail examined).board.postQueue = s.board.postQueue ∧
    (s.finishCard n final r detail examined).board.latchMode = s.board.latchMode ∧
    (s.finishCard n final r detail examined).board.latchMisuse = s.board.latchMisuse ∧
    (s.finishCard n final r detail examined).board.enable = s.board.enable ∧
    (s.finishCard n final r detail examined).board.clock = s.board.clock ∧
    (s.finishCard n final r detail examined).board.aisle = s.board.aisle ∧
    (s.finishCard n final r detail examined).conditions = s.conditions ∧
    (s.finishCard n final r detail examined).contexts = s.contexts ∧
    (s.finishCard n final r detail examined).places = s.places ∧ (s.finishCard n final r detail examined).release = s.release ∧
    (s.finishCard n final r detail examined).handover = s.handover ∧ (s.finishCard n final r detail examined).lifts = s.lifts ∧
    (s.finishCard n final r detail examined).chain = s.chain ∧ (s.finishCard n final r detail examined).entry = s.entry ∧
    (s.finishCard n final r detail examined).store = s.store := by
  unfold State.finishCard
  dsimp only
  split <;> simp

@[simp] theorem State.finishNow_frame (s : State) (n : Nat) (final : Byte) (r : ReasonCode) (detail : Byte) :
    (s.finishNow n final r detail).pending = s.pending ∧ (s.finishNow n final r detail).wake = s.wake ∧
    (s.finishNow n final r detail).sent = s.sent ∧ (s.finishNow n final r detail).mode = s.mode ∧
    (s.finishNow n final r detail).lines = s.lines ∧ (s.finishNow n final r detail).board.postQueue = s.board.postQueue ∧
    (s.finishNow n final r detail).board.latchMode = s.board.latchMode ∧
    (s.finishNow n final r detail).board.latchMisuse = s.board.latchMisuse ∧
    (s.finishNow n final r detail).board.enable = s.board.enable ∧ (s.finishNow n final r detail).board.clock = s.board.clock ∧
    (s.finishNow n final r detail).board.aisle = s.board.aisle ∧ (s.finishNow n final r detail).conditions = s.conditions ∧
    (s.finishNow n final r detail).contexts = s.contexts ∧ (s.finishNow n final r detail).places = s.places ∧
    (s.finishNow n final r detail).release = s.release ∧ (s.finishNow n final r detail).handover = s.handover ∧
    (s.finishNow n final r detail).lifts = s.lifts ∧ (s.finishNow n final r detail).chain = s.chain ∧
    (s.finishNow n final r detail).entry = s.entry ∧ (s.finishNow n final r detail).store = s.store := by
  simp [State.finishNow]

@[simp] theorem State.refuse_frame (s : State) (n : Nat) (r : ReasonCode) (detail : Byte) :
    (s.refuse n r detail).pending = s.pending ∧ (s.refuse n r detail).wake = s.wake ∧ (s.refuse n r detail).sent = s.sent ∧
    (s.refuse n r detail).mode = s.mode ∧ (s.refuse n r detail).lines = s.lines ∧
    (s.refuse n r detail).board.postQueue = s.board.postQueue ∧ (s.refuse n r detail).board.latchMode = s.board.latchMode ∧
    (s.refuse n r detail).board.latchMisuse = s.board.latchMisuse ∧ (s.refuse n r detail).board.enable = s.board.enable ∧
    (s.refuse n r detail).board.clock = s.board.clock ∧ (s.refuse n r detail).board.aisle = s.board.aisle ∧
    (s.refuse n r detail).conditions = s.conditions ∧ (s.refuse n r detail).contexts = s.contexts ∧
    (s.refuse n r detail).places = s.places ∧ (s.refuse n r detail).release = s.release ∧
    (s.refuse n r detail).handover = s.handover ∧ (s.refuse n r detail).lifts = s.lifts ∧
    (s.refuse n r detail).chain = s.chain ∧ (s.refuse n r detail).entry = s.entry ∧ (s.refuse n r detail).store = s.store := by
  simp [State.refuse]

@[simp] theorem State.done_frame (s : State) (n : Nat) (detail : Byte) :
    (s.done n detail).pending = s.pending ∧ (s.done n detail).wake = s.wake ∧ (s.done n detail).sent = s.sent ∧
    (s.done n detail).mode = s.mode ∧ (s.done n detail).lines = s.lines ∧
    (s.done n detail).board.postQueue = s.board.postQueue ∧ (s.done n detail).board.latchMode = s.board.latchMode ∧
    (s.done n detail).board.latchMisuse = s.board.latchMisuse ∧ (s.done n detail).board.enable = s.board.enable ∧
    (s.done n detail).board.clock = s.board.clock ∧ (s.done n detail).board.aisle = s.board.aisle ∧
    (s.done n detail).conditions = s.conditions ∧ (s.done n detail).contexts = s.contexts ∧
    (s.done n detail).places = s.places ∧ (s.done n detail).release = s.release ∧ (s.done n detail).handover = s.handover ∧
    (s.done n detail).lifts = s.lifts ∧ (s.done n detail).chain = s.chain ∧ (s.done n detail).entry = s.entry ∧
    (s.done n detail).store = s.store := by
  simp [State.done]

@[simp] theorem State.finishOrder_frame (s : State) (n : Nat) (final : Byte) (r : ReasonCode) (detail : Byte) (gives : Bool) :
    (s.finishOrder n final r detail gives).pending = s.pending ∧ (s.finishOrder n final r detail gives).sent = s.sent ∧
    (s.finishOrder n final r detail gives).mode = s.mode ∧ (s.finishOrder n final r detail gives).lines = s.lines ∧
    (s.finishOrder n final r detail gives).board.postQueue = s.board.postQueue ∧
    (s.finishOrder n final r detail gives).board.latchMode = s.board.latchMode ∧
    (s.finishOrder n final r detail gives).board.latchMisuse = s.board.latchMisuse ∧
    (s.finishOrder n final r detail gives).board.latchRefused = s.board.latchRefused ∧
    (s.finishOrder n final r detail gives).board.enable = s.board.enable ∧
    (s.finishOrder n final r detail gives).board.clock = s.board.clock ∧
    (s.finishOrder n final r detail gives).board.aisle = s.board.aisle ∧
    (s.finishOrder n final r detail gives).conditions = s.conditions ∧
    (s.finishOrder n final r detail gives).places = s.places ∧ (s.finishOrder n final r detail gives).lifts = s.lifts ∧
    (s.finishOrder n final r detail gives).chain = s.chain ∧ (s.finishOrder n final r detail gives).entry = s.entry ∧
    (s.finishOrder n final r detail gives).store = s.store ∧
    (s.finishOrder n final r detail gives).handover.grants = s.handover.grants := by
  unfold State.finishOrder
  cases gives <;> dsimp only <;> split <;> simp [State.setHeld]

@[simp] theorem State.dropHeld_frame (s : State) (level : Nat) :
    (s.dropHeld level).pending = s.pending ∧ (s.dropHeld level).wake = s.wake ∧ (s.dropHeld level).sent = s.sent ∧
    (s.dropHeld level).mode = s.mode ∧ (s.dropHeld level).lines = s.lines ∧ (s.dropHeld level).board = s.board ∧
    (s.dropHeld level).conditions = s.conditions ∧ (s.dropHeld level).places = s.places ∧
    (s.dropHeld level).release = s.release ∧ (s.dropHeld level).lifts = s.lifts ∧ (s.dropHeld level).chain = s.chain ∧
    (s.dropHeld level).entry = s.entry ∧ (s.dropHeld level).store = s.store ∧
    (s.dropHeld level).handover.grants = s.handover.grants := by
  have kept := foldl_view (fun t : State =>
      (t.pending, t.wake, t.sent, t.mode, t.lines, t.board, t.conditions, t.places, t.release, t.lifts, t.chain, t.entry,
      t.store, t.handover.grants))
    (f := fun t h => match h with
      | .drop _ n _ => t.updateContext n (fun c => if c.phase = .held then { c with phase := .pending } else c)
      | .take _ _ => t)
    (fun t a => by cases a <;> simp) (s.handover.held.filter (fun h => h.level == level))
    (s.setHeld (s.handover.held.filter (fun h => h.level != level)))
  simp only [Prod.mk.injEq] at kept
  exact kept

/-! ### The handover unit -/

@[simp] theorem State.grantDrop_frame (s : State) (n : Nat) (c : Context) (level : Nat) (x : Side) (substituted : Bool) :
    (s.grantDrop n c level x substituted).pending = s.pending ∧ (s.grantDrop n c level x substituted).wake = s.wake ∧
    (s.grantDrop n c level x substituted).sent = s.sent ∧ (s.grantDrop n c level x substituted).mode = s.mode ∧
    (s.grantDrop n c level x substituted).lines = s.lines ∧
    (s.grantDrop n c level x substituted).board.postQueue = s.board.postQueue ∧
    (s.grantDrop n c level x substituted).board.finishList = s.board.finishList ∧
    (s.grantDrop n c level x substituted).board.changeCount = s.board.changeCount ∧
    (s.grantDrop n c level x substituted).board.latchMode = s.board.latchMode ∧
    (s.grantDrop n c level x substituted).board.latchMisuse = s.board.latchMisuse ∧
    (s.grantDrop n c level x substituted).board.latchRefused = s.board.latchRefused ∧
    (s.grantDrop n c level x substituted).board.enable = s.board.enable ∧
    (s.grantDrop n c level x substituted).board.clock = s.board.clock ∧
    (s.grantDrop n c level x substituted).board.aisle = s.board.aisle ∧
    (s.grantDrop n c level x substituted).conditions = s.conditions ∧ (s.grantDrop n c level x substituted).lifts = s.lifts ∧
    (s.grantDrop n c level x substituted).entry = s.entry ∧ (s.grantDrop n c level x substituted).store = s.store ∧
    (s.grantDrop n c level x substituted).chain.bottom = s.chain.bottom ∧
    (s.grantDrop n c level x substituted).chain.top = s.chain.top := by
  unfold State.grantDrop
  dsimp only
  split <;> simp

@[simp] theorem State.closeDrop_frame (s : State) (n : Nat) (level : Nat) :
    (s.closeDrop n level).pending = s.pending ∧ (s.closeDrop n level).sent = s.sent ∧ (s.closeDrop n level).mode = s.mode ∧
    (s.closeDrop n level).lines = s.lines ∧ (s.closeDrop n level).board.postQueue = s.board.postQueue ∧
    (s.closeDrop n level).board.latchMode = s.board.latchMode ∧ (s.closeDrop n level).board.latchMisuse = s.board.latchMisuse ∧
    (s.closeDrop n level).board.latchRefused = s.board.latchRefused ∧ (s.closeDrop n level).board.enable = s.board.enable ∧
    (s.closeDrop n level).board.clock = s.board.clock ∧ (s.closeDrop n level).board.aisle = s.board.aisle ∧
    (s.closeDrop n level).conditions = s.conditions ∧ (s.closeDrop n level).places = s.places ∧
    (s.closeDrop n level).lifts = s.lifts ∧ (s.closeDrop n level).entry = s.entry ∧ (s.closeDrop n level).store = s.store ∧
    (s.closeDrop n level).handover.grants = s.handover.grants ∧ (s.closeDrop n level).chain.bottom = s.chain.bottom ∧
    (s.closeDrop n level).chain.top = s.chain.top := by
  simp [State.closeDrop]

@[simp] theorem State.grantTake_frame (s : State) (level : Nat) (x : Side) (e : Entry) :
    (s.grantTake level x e).pending = s.pending ∧ (s.grantTake level x e).wake = s.wake ∧
    (s.grantTake level x e).sent = s.sent ∧ (s.grantTake level x e).mode = s.mode ∧ (s.grantTake level x e).lines = s.lines ∧
    (s.grantTake level x e).board.postQueue = s.board.postQueue ∧
    (s.grantTake level x e).board.finishList = s.board.finishList ∧
    (s.grantTake level x e).board.changeCount = s.board.changeCount ∧
    (s.grantTake level x e).board.latchMode = s.board.latchMode ∧
    (s.grantTake level x e).board.latchMisuse = s.board.latchMisuse ∧
    (s.grantTake level x e).board.latchRefused = s.board.latchRefused ∧ (s.grantTake level x e).board.enable = s.board.enable ∧
    (s.grantTake level x e).board.clock = s.board.clock ∧ (s.grantTake level x e).board.aisle = s.board.aisle ∧
    (s.grantTake level x e).conditions = s.conditions ∧ (s.grantTake level x e).release = s.release ∧
    (s.grantTake level x e).lifts = s.lifts ∧ (s.grantTake level x e).entry = s.entry ∧
    (s.grantTake level x e).store = s.store ∧ (s.grantTake level x e).chain.bottom = s.chain.bottom ∧
    (s.grantTake level x e).chain.top = s.chain.top := by
  unfold State.grantTake
  cases e <;> simp

@[simp] theorem State.dropDone_frame (s : State) (level : Nat) (g : Grant) :
    (s.dropDone level g).pending = s.pending ∧ (s.dropDone level g).sent = s.sent ∧ (s.dropDone level g).mode = s.mode ∧
    (s.dropDone level g).lines = s.lines ∧ (s.dropDone level g).board.postQueue = s.board.postQueue ∧
    (s.dropDone level g).board.finishList = s.board.finishList ∧ (s.dropDone level g).board.changeCount = s.board.changeCount ∧
    (s.dropDone level g).board.latchMode = s.board.latchMode ∧ (s.dropDone level g).board.latchMisuse = s.board.latchMisuse ∧
    (s.dropDone level g).board.latchRefused = s.board.latchRefused ∧ (s.dropDone level g).board.enable = s.board.enable ∧
    (s.dropDone level g).board.clock = s.board.clock ∧ (s.dropDone level g).board.aisle = s.board.aisle ∧
    (s.dropDone level g).conditions = s.conditions ∧ (s.dropDone level g).lifts = s.lifts ∧
    (s.dropDone level g).entry = s.entry ∧ (s.dropDone level g).store = s.store ∧
    (s.dropDone level g).handover.held = s.handover.held ∧ (s.dropDone level g).chain.bottom = s.chain.bottom ∧
    (s.dropDone level g).chain.top = s.chain.top := by
  unfold State.dropDone
  dsimp only
  (repeat' split) <;> simp

@[simp] theorem State.dropAbort_frame (s : State) (level : Nat) (g : Grant) :
    (s.dropAbort level g).pending = s.pending ∧ (s.dropAbort level g).sent = s.sent ∧ (s.dropAbort level g).mode = s.mode ∧
    (s.dropAbort level g).lines = s.lines ∧ (s.dropAbort level g).board.postQueue = s.board.postQueue ∧
    (s.dropAbort level g).board.latchMode = s.board.latchMode ∧ (s.dropAbort level g).board.latchMisuse = s.board.latchMisuse ∧
    (s.dropAbort level g).board.latchRefused = s.board.latchRefused ∧ (s.dropAbort level g).board.enable = s.board.enable ∧
    (s.dropAbort level g).board.clock = s.board.clock ∧ (s.dropAbort level g).board.aisle = s.board.aisle ∧
    (s.dropAbort level g).conditions = s.conditions ∧ (s.dropAbort level g).lifts = s.lifts ∧
    (s.dropAbort level g).entry = s.entry ∧ (s.dropAbort level g).store = s.store ∧
    (s.dropAbort level g).chain.bottom = s.chain.bottom ∧ (s.dropAbort level g).chain.top = s.chain.top := by
  unfold State.dropAbort
  dsimp only
  (repeat' split) <;> simp

@[simp] theorem State.takeDone_frame (s : State) (level : Nat) (g : Grant) (read : Word) :
    (s.takeDone level g read).pending = s.pending ∧ (s.takeDone level g read).sent = s.sent ∧
    (s.takeDone level g read).mode = s.mode ∧ (s.takeDone level g read).lines = s.lines ∧
    (s.takeDone level g read).board.postQueue = s.board.postQueue ∧
    (s.takeDone level g read).board.latchMode = s.board.latchMode ∧
    (s.takeDone level g read).board.latchMisuse = s.board.latchMisuse ∧
    (s.takeDone level g read).board.latchRefused = s.board.latchRefused ∧
    (s.takeDone level g read).board.enable = s.board.enable ∧ (s.takeDone level g read).board.clock = s.board.clock ∧
    (s.takeDone level g read).board.aisle = s.board.aisle ∧ (s.takeDone level g read).chain = s.chain ∧
    (s.takeDone level g read).entry = s.entry ∧ (s.takeDone level g read).store = s.store := by
  unfold State.takeDone
  dsimp only
  (repeat' split) <;> simp

@[simp] theorem State.takeAbort_frame (s : State) (level : Nat) (g : Grant) :
    (s.takeAbort level g).pending = s.pending ∧ (s.takeAbort level g).sent = s.sent ∧ (s.takeAbort level g).mode = s.mode ∧
    (s.takeAbort level g).lines = s.lines ∧ (s.takeAbort level g).board.postQueue = s.board.postQueue ∧
    (s.takeAbort level g).board.finishList = s.board.finishList ∧
    (s.takeAbort level g).board.changeCount = s.board.changeCount ∧ (s.takeAbort level g).board.latchMode = s.board.latchMode ∧
    (s.takeAbort level g).board.latchMisuse = s.board.latchMisuse ∧
    (s.takeAbort level g).board.latchRefused = s.board.latchRefused ∧ (s.takeAbort level g).board.enable = s.board.enable ∧
    (s.takeAbort level g).board.clock = s.board.clock ∧ (s.takeAbort level g).board.aisle = s.board.aisle ∧
    (s.takeAbort level g).conditions = s.conditions ∧ (s.takeAbort level g).release = s.release ∧
    (s.takeAbort level g).lifts = s.lifts ∧ (s.takeAbort level g).chain = s.chain ∧ (s.takeAbort level g).entry = s.entry ∧
    (s.takeAbort level g).store = s.store ∧ (s.takeAbort level g).handover.held = s.handover.held := by
  unfold State.takeAbort
  dsimp only
  split <;> simp

/-! ### The entry unit and the merge -/

@[simp] theorem State.setMotion_frame (s : State) (m : Motion) :
    (s.setMotion m).pending = s.pending ∧ (s.setMotion m).wake = s.wake ∧ (s.setMotion m).sent = s.sent ∧
    (s.setMotion m).mode = s.mode ∧ (s.setMotion m).lines = s.lines ∧ (s.setMotion m).board.postQueue = s.board.postQueue ∧
    (s.setMotion m).board.finishList = s.board.finishList ∧ (s.setMotion m).board.changeCount = s.board.changeCount ∧
    (s.setMotion m).board.latchMode = s.board.latchMode ∧ (s.setMotion m).board.latchMisuse = s.board.latchMisuse ∧
    (s.setMotion m).board.latchRefused = s.board.latchRefused ∧ (s.setMotion m).board.enable = s.board.enable ∧
    (s.setMotion m).board.clock = s.board.clock ∧ (s.setMotion m).board.aisle = s.board.aisle ∧
    (s.setMotion m).conditions = s.conditions ∧ (s.setMotion m).contexts = s.contexts ∧ (s.setMotion m).places = s.places ∧
    (s.setMotion m).release = s.release ∧ (s.setMotion m).handover = s.handover ∧ (s.setMotion m).lifts = s.lifts ∧
    (s.setMotion m).chain = s.chain ∧ (s.setMotion m).store = s.store := by
  simp [State.setMotion, State.writeMirror, State.setMem]

@[simp] theorem State.setDivert_frame (s : State) (e : Entry) :
    (s.setDivert e).pending = s.pending ∧ (s.setDivert e).sent = s.sent ∧ (s.setDivert e).mode = s.mode ∧
    (s.setDivert e).lines = s.lines ∧ (s.setDivert e).board.postQueue = s.board.postQueue ∧
    (s.setDivert e).board.finishList = s.board.finishList ∧ (s.setDivert e).board.changeCount = s.board.changeCount ∧
    (s.setDivert e).board.latchMode = s.board.latchMode ∧ (s.setDivert e).board.latchMisuse = s.board.latchMisuse ∧
    (s.setDivert e).board.latchRefused = s.board.latchRefused ∧ (s.setDivert e).board.enable = s.board.enable ∧
    (s.setDivert e).board.clock = s.board.clock ∧ (s.setDivert e).board.aisle = s.board.aisle ∧
    (s.setDivert e).conditions = s.conditions ∧ (s.setDivert e).contexts = s.contexts ∧ (s.setDivert e).release = s.release ∧
    (s.setDivert e).handover = s.handover ∧ (s.setDivert e).lifts = s.lifts ∧ (s.setDivert e).chain = s.chain ∧
    (s.setDivert e).entry = s.entry ∧ (s.setDivert e).store = s.store := by
  unfold State.setDivert
  cases e <;> simp

@[simp] theorem State.closeDivert_frame (s : State) (n : Nat) (c : Context) :
    (s.closeDivert n c).pending = s.pending ∧ (s.closeDivert n c).sent = s.sent ∧ (s.closeDivert n c).mode = s.mode ∧
    (s.closeDivert n c).lines = s.lines ∧ (s.closeDivert n c).board.postQueue = s.board.postQueue ∧
    (s.closeDivert n c).board.latchMode = s.board.latchMode ∧ (s.closeDivert n c).board.latchMisuse = s.board.latchMisuse ∧
    (s.closeDivert n c).board.latchRefused = s.board.latchRefused ∧ (s.closeDivert n c).board.enable = s.board.enable ∧
    (s.closeDivert n c).board.clock = s.board.clock ∧ (s.closeDivert n c).board.aisle = s.board.aisle ∧
    (s.closeDivert n c).lifts = s.lifts ∧ (s.closeDivert n c).chain = s.chain ∧ (s.closeDivert n c).entry = s.entry ∧
    (s.closeDivert n c).store = s.store ∧ (s.closeDivert n c).handover.grants = s.handover.grants := by
  simp [State.closeDivert]

@[simp] theorem State.moveDivert_frame (s : State) (n : Nat) (c : Context) (x : Side) (substituted : Bool) :
    (s.moveDivert n c x substituted).pending = s.pending ∧ (s.moveDivert n c x substituted).wake = s.wake ∧
    (s.moveDivert n c x substituted).sent = s.sent ∧ (s.moveDivert n c x substituted).mode = s.mode ∧
    (s.moveDivert n c x substituted).lines = s.lines ∧ (s.moveDivert n c x substituted).board.postQueue = s.board.postQueue ∧
    (s.moveDivert n c x substituted).board.finishList = s.board.finishList ∧
    (s.moveDivert n c x substituted).board.changeCount = s.board.changeCount ∧
    (s.moveDivert n c x substituted).board.latchMode = s.board.latchMode ∧
    (s.moveDivert n c x substituted).board.latchMisuse = s.board.latchMisuse ∧
    (s.moveDivert n c x substituted).board.latchRefused = s.board.latchRefused ∧
    (s.moveDivert n c x substituted).board.enable = s.board.enable ∧
    (s.moveDivert n c x substituted).board.clock = s.board.clock ∧
    (s.moveDivert n c x substituted).board.aisle = s.board.aisle ∧ (s.moveDivert n c x substituted).conditions = s.conditions ∧
    (s.moveDivert n c x substituted).release = s.release ∧ (s.moveDivert n c x substituted).handover = s.handover ∧
    (s.moveDivert n c x substituted).lifts = s.lifts ∧ (s.moveDivert n c x substituted).chain = s.chain ∧
    (s.moveDivert n c x substituted).store = s.store := by
  simp [State.moveDivert]

@[simp] theorem State.foreignArrival_frame (s : State) (c : Cond) (d1 d2 : Byte) :
    (s.foreignArrival c d1 d2).pending = s.pending ∧ (s.foreignArrival c d1 d2).sent = s.sent ∧
    (s.foreignArrival c d1 d2).mode = s.mode ∧ (s.foreignArrival c d1 d2).lines = s.lines ∧
    (s.foreignArrival c d1 d2).board.postQueue = s.board.postQueue ∧
    (s.foreignArrival c d1 d2).board.finishList = s.board.finishList ∧
    (s.foreignArrival c d1 d2).board.changeCount = s.board.changeCount ∧
    (s.foreignArrival c d1 d2).board.latchMode = s.board.latchMode ∧
    (s.foreignArrival c d1 d2).board.latchMisuse = s.board.latchMisuse ∧
    (s.foreignArrival c d1 d2).board.latchRefused = s.board.latchRefused ∧
    (s.foreignArrival c d1 d2).board.enable = s.board.enable ∧ (s.foreignArrival c d1 d2).board.clock = s.board.clock ∧
    (s.foreignArrival c d1 d2).board.aisle = s.board.aisle ∧ (s.foreignArrival c d1 d2).contexts = s.contexts ∧
    (s.foreignArrival c d1 d2).release = s.release ∧ (s.foreignArrival c d1 d2).handover = s.handover ∧
    (s.foreignArrival c d1 d2).lifts = s.lifts ∧ (s.foreignArrival c d1 d2).chain = s.chain ∧
    (s.foreignArrival c d1 d2).entry = s.entry ∧ (s.foreignArrival c d1 d2).store = s.store := by
  simp [State.foreignArrival]

@[simp] theorem State.arrival_frame (s : State) :
    s.arrival.pending = s.pending ∧ s.arrival.sent = s.sent ∧ s.arrival.mode = s.mode ∧ s.arrival.lines = s.lines ∧
    s.arrival.board.postQueue = s.board.postQueue ∧ s.arrival.board.finishList = s.board.finishList ∧
    s.arrival.board.changeCount = s.board.changeCount ∧ s.arrival.board.latchMode = s.board.latchMode ∧
    s.arrival.board.latchMisuse = s.board.latchMisuse ∧ s.arrival.board.latchRefused = s.board.latchRefused ∧
    s.arrival.board.enable = s.board.enable ∧ s.arrival.board.clock = s.board.clock ∧ s.arrival.board.aisle = s.board.aisle ∧
    s.arrival.release = s.release ∧ s.arrival.handover = s.handover ∧ s.arrival.lifts = s.lifts ∧ s.arrival.chain = s.chain ∧
    s.arrival.store = s.store := by
  unfold State.arrival
  dsimp only
  (repeat' split) <;> simp

@[simp] theorem State.divertFreed_frame (s : State) :
    s.divertFreed.pending = s.pending ∧ s.divertFreed.sent = s.sent ∧ s.divertFreed.mode = s.mode ∧
    s.divertFreed.lines = s.lines ∧ s.divertFreed.board.postQueue = s.board.postQueue ∧
    s.divertFreed.board.finishList = s.board.finishList ∧ s.divertFreed.board.changeCount = s.board.changeCount ∧
    s.divertFreed.board.latchMode = s.board.latchMode ∧ s.divertFreed.board.latchMisuse = s.board.latchMisuse ∧
    s.divertFreed.board.latchRefused = s.board.latchRefused ∧ s.divertFreed.board.enable = s.board.enable ∧
    s.divertFreed.board.clock = s.board.clock ∧ s.divertFreed.board.aisle = s.board.aisle ∧ s.divertFreed.release = s.release ∧
    s.divertFreed.handover = s.handover ∧ s.divertFreed.lifts = s.lifts ∧ s.divertFreed.chain = s.chain ∧
    s.divertFreed.store = s.store := by
  unfold State.divertFreed
  (repeat' split) <;> simp

@[simp] theorem State.releaseCard_frame (s : State) (n : Nat) :
    (s.releaseCard n).pending = s.pending ∧ (s.releaseCard n).sent = s.sent ∧ (s.releaseCard n).mode = s.mode ∧
    (s.releaseCard n).lines = s.lines ∧ (s.releaseCard n).board = s.board ∧ (s.releaseCard n).conditions = s.conditions ∧
    (s.releaseCard n).places = s.places ∧ (s.releaseCard n).handover = s.handover ∧ (s.releaseCard n).lifts = s.lifts ∧
    (s.releaseCard n).chain = s.chain ∧ (s.releaseCard n).entry = s.entry ∧ (s.releaseCard n).store = s.store := by
  unfold State.releaseCard
  (repeat' split) <;> simp

@[simp] theorem State.releaseHead_frame (s : State) (x : Side) (e : Entry) :
    (s.releaseHead x e).pending = s.pending ∧ (s.releaseHead x e).sent = s.sent ∧ (s.releaseHead x e).mode = s.mode ∧
    (s.releaseHead x e).lines = s.lines ∧ (s.releaseHead x e).board.postQueue = s.board.postQueue ∧
    (s.releaseHead x e).board.finishList = s.board.finishList ∧ (s.releaseHead x e).board.changeCount = s.board.changeCount ∧
    (s.releaseHead x e).board.latchMode = s.board.latchMode ∧ (s.releaseHead x e).board.latchMisuse = s.board.latchMisuse ∧
    (s.releaseHead x e).board.latchRefused = s.board.latchRefused ∧ (s.releaseHead x e).board.enable = s.board.enable ∧
    (s.releaseHead x e).board.clock = s.board.clock ∧ (s.releaseHead x e).board.aisle = s.board.aisle ∧
    (s.releaseHead x e).conditions = s.conditions ∧ (s.releaseHead x e).handover = s.handover ∧
    (s.releaseHead x e).chain = s.chain ∧ (s.releaseHead x e).entry = s.entry ∧ (s.releaseHead x e).store = s.store := by
  unfold State.releaseHead
  cases e <;> simp

/-! ### The lift units -/

@[simp] theorem State.pump_frame (s : State) (x : Side) :
    (s.pump x).pending = s.pending ∧ (s.pump x).wake = s.wake ∧ (s.pump x).mode = s.mode ∧ (s.pump x).lines = s.lines ∧
    (s.pump x).board = s.board ∧ (s.pump x).conditions = s.conditions ∧ (s.pump x).contexts = s.contexts ∧
    (s.pump x).places = s.places ∧ (s.pump x).release = s.release ∧ (s.pump x).handover = s.handover ∧
    (s.pump x).chain = s.chain ∧ (s.pump x).entry = s.entry ∧ (s.pump x).store = s.store := by
  unfold State.pump
  dsimp only
  (repeat' split) <;> simp

@[simp] theorem State.queueLift_frame (s : State) (x : Side) (c : LiftCmd) :
    (s.queueLift x c).pending = s.pending ∧ (s.queueLift x c).wake = s.wake ∧ (s.queueLift x c).mode = s.mode ∧
    (s.queueLift x c).lines = s.lines ∧ (s.queueLift x c).board = s.board ∧ (s.queueLift x c).conditions = s.conditions ∧
    (s.queueLift x c).contexts = s.contexts ∧ (s.queueLift x c).places = s.places ∧ (s.queueLift x c).release = s.release ∧
    (s.queueLift x c).handover = s.handover ∧ (s.queueLift x c).chain = s.chain ∧ (s.queueLift x c).entry = s.entry ∧
    (s.queueLift x c).store = s.store := by
  simp [State.queueLift]

@[simp] theorem State.echoed_frame (s : State) (x : Side) :
    (s.echoed x).pending = s.pending ∧ (s.echoed x).wake = s.wake ∧ (s.echoed x).mode = s.mode ∧ (s.echoed x).lines = s.lines ∧
    (s.echoed x).board = s.board ∧ (s.echoed x).conditions = s.conditions ∧ (s.echoed x).contexts = s.contexts ∧
    (s.echoed x).places = s.places ∧ (s.echoed x).release = s.release ∧ (s.echoed x).handover = s.handover ∧
    (s.echoed x).chain = s.chain ∧ (s.echoed x).entry = s.entry ∧ (s.echoed x).store = s.store := by
  simp [State.echoed]

@[simp] theorem State.raiseLift_frame (s : State) (x : Side) (c : Cond) (d : Byte) :
    (s.raiseLift x c d).pending = s.pending ∧ (s.raiseLift x c d).wake = s.wake ∧ (s.raiseLift x c d).sent = s.sent ∧
    (s.raiseLift x c d).mode = s.mode ∧ (s.raiseLift x c d).lines = s.lines ∧ (s.raiseLift x c d).board = s.board ∧
    (s.raiseLift x c d).contexts = s.contexts ∧ (s.raiseLift x c d).places = s.places ∧
    (s.raiseLift x c d).release = s.release ∧ (s.raiseLift x c d).handover = s.handover ∧ (s.raiseLift x c d).lifts = s.lifts ∧
    (s.raiseLift x c d).chain = s.chain ∧ (s.raiseLift x c d).entry = s.entry ∧ (s.raiseLift x c d).store = s.store := by
  simp [State.raiseLift]

@[simp] theorem State.strayFrame_frame (s : State) (x : Side) :
    (s.strayFrame x).pending = s.pending ∧ (s.strayFrame x).wake = s.wake ∧ (s.strayFrame x).sent = s.sent ∧
    (s.strayFrame x).mode = s.mode ∧ (s.strayFrame x).lines = s.lines ∧ (s.strayFrame x).board = s.board ∧
    (s.strayFrame x).conditions = s.conditions ∧ (s.strayFrame x).contexts = s.contexts ∧ (s.strayFrame x).places = s.places ∧
    (s.strayFrame x).release = s.release ∧ (s.strayFrame x).handover = s.handover ∧ (s.strayFrame x).chain = s.chain ∧
    (s.strayFrame x).entry = s.entry ∧ (s.strayFrame x).store = s.store := by
  simp [State.strayFrame]

@[simp] theorem State.releaseStops_frame (s : State) (stops : List Stop) :
    (s.releaseStops stops).pending = s.pending ∧ (s.releaseStops stops).sent = s.sent ∧ (s.releaseStops stops).mode = s.mode ∧
    (s.releaseStops stops).lines = s.lines ∧ (s.releaseStops stops).board.postQueue = s.board.postQueue ∧
    (s.releaseStops stops).board.finishList = s.board.finishList ∧
    (s.releaseStops stops).board.changeCount = s.board.changeCount ∧
    (s.releaseStops stops).board.latchMode = s.board.latchMode ∧
    (s.releaseStops stops).board.latchMisuse = s.board.latchMisuse ∧
    (s.releaseStops stops).board.latchRefused = s.board.latchRefused ∧ (s.releaseStops stops).board.enable = s.board.enable ∧
    (s.releaseStops stops).board.clock = s.board.clock ∧ (s.releaseStops stops).board.aisle = s.board.aisle ∧
    (s.releaseStops stops).conditions = s.conditions ∧ (s.releaseStops stops).contexts = s.contexts ∧
    (s.releaseStops stops).release = s.release ∧ (s.releaseStops stops).handover = s.handover ∧
    (s.releaseStops stops).lifts = s.lifts ∧ (s.releaseStops stops).entry = s.entry ∧ (s.releaseStops stops).store = s.store ∧
    (s.releaseStops stops).chain.bottom = s.chain.bottom ∧ (s.releaseStops stops).chain.top = s.chain.top := by
  unfold State.releaseStops
  simpa only [Prod.mk.injEq] using foldl_view (fun t : State =>
      (t.pending, t.sent, t.mode, t.lines, t.board.postQueue, t.board.finishList, t.board.changeCount, t.board.latchMode,
      t.board.latchMisuse, t.board.latchRefused, t.board.enable, t.board.clock, t.board.aisle, t.conditions, t.contexts,
      t.release, t.handover, t.lifts, t.entry, t.store, t.chain.bottom, t.chain.top)) (fun t st => by split <;> simp) stops s

@[simp] theorem State.discardPlan_frame (s : State) (x : Side) :
    (s.discardPlan x).pending = s.pending ∧ (s.discardPlan x).sent = s.sent ∧ (s.discardPlan x).mode = s.mode ∧
    (s.discardPlan x).lines = s.lines ∧ (s.discardPlan x).board.postQueue = s.board.postQueue ∧
    (s.discardPlan x).board.finishList = s.board.finishList ∧ (s.discardPlan x).board.changeCount = s.board.changeCount ∧
    (s.discardPlan x).board.latchMode = s.board.latchMode ∧ (s.discardPlan x).board.latchMisuse = s.board.latchMisuse ∧
    (s.discardPlan x).board.latchRefused = s.board.latchRefused ∧ (s.discardPlan x).board.enable = s.board.enable ∧
    (s.discardPlan x).board.clock = s.board.clock ∧ (s.discardPlan x).board.aisle = s.board.aisle ∧
    (s.discardPlan x).conditions = s.conditions ∧ (s.discardPlan x).contexts = s.contexts ∧
    (s.discardPlan x).release = s.release ∧ (s.discardPlan x).handover = s.handover ∧ (s.discardPlan x).entry = s.entry ∧
    (s.discardPlan x).store = s.store ∧ (s.discardPlan x).chain.bottom = s.chain.bottom ∧
    (s.discardPlan x).chain.top = s.chain.top := by
  unfold State.discardPlan
  (repeat' split) <;> simp

@[simp] theorem State.parkLift_frame (s : State) (x : Side) :
    (s.parkLift x).pending = s.pending ∧ (s.parkLift x).mode = s.mode ∧ (s.parkLift x).lines = s.lines ∧
    (s.parkLift x).board = s.board ∧ (s.parkLift x).conditions = s.conditions ∧ (s.parkLift x).contexts = s.contexts ∧
    (s.parkLift x).places = s.places ∧ (s.parkLift x).release = s.release ∧ (s.parkLift x).handover = s.handover ∧
    (s.parkLift x).chain = s.chain ∧ (s.parkLift x).entry = s.entry ∧ (s.parkLift x).store = s.store := by
  simp [State.parkLift]

@[simp] theorem State.wakeLift_frame (s : State) (x : Side) :
    (s.wakeLift x).pending = s.pending ∧ (s.wakeLift x).wake = s.wake ∧ (s.wakeLift x).mode = s.mode ∧
    (s.wakeLift x).lines = s.lines ∧ (s.wakeLift x).board = s.board ∧ (s.wakeLift x).conditions = s.conditions ∧
    (s.wakeLift x).contexts = s.contexts ∧ (s.wakeLift x).places = s.places ∧ (s.wakeLift x).release = s.release ∧
    (s.wakeLift x).handover = s.handover ∧ (s.wakeLift x).chain = s.chain ∧ (s.wakeLift x).entry = s.entry ∧
    (s.wakeLift x).store = s.store := by
  simp [State.wakeLift]

@[simp] theorem State.becomeIdle_frame (s : State) (x : Side) :
    (s.becomeIdle x).pending = s.pending ∧ (s.becomeIdle x).mode = s.mode ∧ (s.becomeIdle x).lines = s.lines ∧
    (s.becomeIdle x).board = s.board ∧ (s.becomeIdle x).conditions = s.conditions ∧ (s.becomeIdle x).contexts = s.contexts ∧
    (s.becomeIdle x).places = s.places ∧ (s.becomeIdle x).release = s.release ∧ (s.becomeIdle x).handover = s.handover ∧
    (s.becomeIdle x).chain = s.chain ∧ (s.becomeIdle x).entry = s.entry ∧ (s.becomeIdle x).store = s.store := by
  unfold State.becomeIdle
  dsimp only
  split <;> simp

@[simp] theorem State.sendTrip_frame (s : State) (x : Side) (p : Plan) :
    (s.sendTrip x p).pending = s.pending ∧ (s.sendTrip x p).wake = s.wake ∧ (s.sendTrip x p).mode = s.mode ∧
    (s.sendTrip x p).lines = s.lines ∧ (s.sendTrip x p).board = s.board ∧ (s.sendTrip x p).conditions = s.conditions ∧
    (s.sendTrip x p).contexts = s.contexts ∧ (s.sendTrip x p).places = s.places ∧ (s.sendTrip x p).release = s.release ∧
    (s.sendTrip x p).handover = s.handover ∧ (s.sendTrip x p).chain = s.chain ∧ (s.sendTrip x p).entry = s.entry ∧
    (s.sendTrip x p).store = s.store := by
  simp [State.sendTrip]

@[simp] theorem State.handPlan_frame (s : State) (x : Side) (p : Plan) :
    (s.handPlan x p).pending = s.pending ∧ (s.handPlan x p).wake = s.wake ∧ (s.handPlan x p).mode = s.mode ∧
    (s.handPlan x p).lines = s.lines ∧ (s.handPlan x p).board = s.board ∧ (s.handPlan x p).conditions = s.conditions ∧
    (s.handPlan x p).contexts = s.contexts ∧ (s.handPlan x p).places = s.places ∧ (s.handPlan x p).release = s.release ∧
    (s.handPlan x p).handover = s.handover ∧ (s.handPlan x p).chain = s.chain ∧ (s.handPlan x p).entry = s.entry ∧
    (s.handPlan x p).store = s.store := by
  unfold State.handPlan
  (repeat' split) <;> simp

@[simp] theorem State.endStop_frame (s : State) (x : Side) (i : Nat) (o : StopOutcome) :
    (s.endStop x i o).pending = s.pending ∧ (s.endStop x i o).wake = s.wake ∧ (s.endStop x i o).sent = s.sent ∧
    (s.endStop x i o).mode = s.mode ∧ (s.endStop x i o).lines = s.lines ∧ (s.endStop x i o).board = s.board ∧
    (s.endStop x i o).conditions = s.conditions ∧ (s.endStop x i o).contexts = s.contexts ∧
    (s.endStop x i o).places = s.places ∧ (s.endStop x i o).release = s.release ∧ (s.endStop x i o).handover = s.handover ∧
    (s.endStop x i o).chain = s.chain ∧ (s.endStop x i o).entry = s.entry ∧ (s.endStop x i o).store = s.store := by
  simp [State.endStop]

@[simp] theorem State.turnBack_frame (s : State) (n : Nat) (p : Nat) (r : ReasonCode) :
    (s.turnBack n p r).pending = s.pending ∧ (s.turnBack n p r).wake = s.wake ∧ (s.turnBack n p r).sent = s.sent ∧
    (s.turnBack n p r).mode = s.mode ∧ (s.turnBack n p r).lines = s.lines ∧ (s.turnBack n p r).board = s.board ∧
    (s.turnBack n p r).conditions = s.conditions ∧ (s.turnBack n p r).places = s.places ∧
    (s.turnBack n p r).release = s.release ∧ (s.turnBack n p r).handover = s.handover ∧ (s.turnBack n p r).lifts = s.lifts ∧
    (s.turnBack n p r).chain = s.chain ∧ (s.turnBack n p r).entry = s.entry ∧ (s.turnBack n p r).store = s.store := by
  simp [State.turnBack]

@[simp] theorem State.passHoldings_frame (s : State) (x : Side) (st : Stop) :
    (s.passHoldings x st).pending = s.pending ∧ (s.passHoldings x st).sent = s.sent ∧ (s.passHoldings x st).mode = s.mode ∧
    (s.passHoldings x st).lines = s.lines ∧ (s.passHoldings x st).board.postQueue = s.board.postQueue ∧
    (s.passHoldings x st).board.finishList = s.board.finishList ∧
    (s.passHoldings x st).board.changeCount = s.board.changeCount ∧ (s.passHoldings x st).board.latchMode = s.board.latchMode ∧
    (s.passHoldings x st).board.latchMisuse = s.board.latchMisuse ∧
    (s.passHoldings x st).board.latchRefused = s.board.latchRefused ∧ (s.passHoldings x st).board.enable = s.board.enable ∧
    (s.passHoldings x st).board.clock = s.board.clock ∧ (s.passHoldings x st).board.aisle = s.board.aisle ∧
    (s.passHoldings x st).conditions = s.conditions ∧ (s.passHoldings x st).release = s.release ∧
    (s.passHoldings x st).handover = s.handover ∧ (s.passHoldings x st).lifts = s.lifts ∧
    (s.passHoldings x st).entry = s.entry ∧ (s.passHoldings x st).store = s.store ∧
    (s.passHoldings x st).chain.bottom = s.chain.bottom ∧ (s.passHoldings x st).chain.top = s.chain.top := by
  unfold State.passHoldings
  dsimp only
  (repeat' split) <;> simp

@[simp] theorem State.passQuiet_frame (s : State) (x : Side) (i : Nat) (st : Stop) :
    (s.passQuiet x i st).pending = s.pending ∧ (s.passQuiet x i st).sent = s.sent ∧ (s.passQuiet x i st).mode = s.mode ∧
    (s.passQuiet x i st).lines = s.lines ∧ (s.passQuiet x i st).board.postQueue = s.board.postQueue ∧
    (s.passQuiet x i st).board.finishList = s.board.finishList ∧ (s.passQuiet x i st).board.changeCount = s.board.changeCount ∧
    (s.passQuiet x i st).board.latchMode = s.board.latchMode ∧ (s.passQuiet x i st).board.latchMisuse = s.board.latchMisuse ∧
    (s.passQuiet x i st).board.latchRefused = s.board.latchRefused ∧ (s.passQuiet x i st).board.enable = s.board.enable ∧
    (s.passQuiet x i st).board.clock = s.board.clock ∧ (s.passQuiet x i st).board.aisle = s.board.aisle ∧
    (s.passQuiet x i st).conditions = s.conditions ∧ (s.passQuiet x i st).release = s.release ∧
    (s.passQuiet x i st).handover = s.handover ∧ (s.passQuiet x i st).entry = s.entry ∧ (s.passQuiet x i st).store = s.store ∧
    (s.passQuiet x i st).chain.bottom = s.chain.bottom ∧ (s.passQuiet x i st).chain.top = s.chain.top := by
  simp [State.passQuiet]

@[simp] theorem State.passStop_frame (s : State) (x : Side) (i : Nat) (st : Stop) :
    (s.passStop x i st).pending = s.pending ∧ (s.passStop x i st).mode = s.mode ∧ (s.passStop x i st).lines = s.lines ∧
    (s.passStop x i st).board.postQueue = s.board.postQueue ∧ (s.passStop x i st).board.finishList = s.board.finishList ∧
    (s.passStop x i st).board.changeCount = s.board.changeCount ∧ (s.passStop x i st).board.latchMode = s.board.latchMode ∧
    (s.passStop x i st).board.latchMisuse = s.board.latchMisuse ∧
    (s.passStop x i st).board.latchRefused = s.board.latchRefused ∧ (s.passStop x i st).board.enable = s.board.enable ∧
    (s.passStop x i st).board.clock = s.board.clock ∧ (s.passStop x i st).board.aisle = s.board.aisle ∧
    (s.passStop x i st).conditions = s.conditions ∧ (s.passStop x i st).release = s.release ∧
    (s.passStop x i st).handover = s.handover ∧ (s.passStop x i st).entry = s.entry ∧ (s.passStop x i st).store = s.store ∧
    (s.passStop x i st).chain.bottom = s.chain.bottom ∧ (s.passStop x i st).chain.top = s.chain.top := by
  simp [State.passStop]

@[simp] theorem State.proceedStop_frame (s : State) (x : Side) (i : Nat) (st : Stop) :
    (s.proceedStop x i st).pending = s.pending ∧ (s.proceedStop x i st).wake = s.wake ∧ (s.proceedStop x i st).mode = s.mode ∧
    (s.proceedStop x i st).lines = s.lines ∧ (s.proceedStop x i st).board.postQueue = s.board.postQueue ∧
    (s.proceedStop x i st).board.finishList = s.board.finishList ∧
    (s.proceedStop x i st).board.changeCount = s.board.changeCount ∧
    (s.proceedStop x i st).board.latchMode = s.board.latchMode ∧
    (s.proceedStop x i st).board.latchMisuse = s.board.latchMisuse ∧
    (s.proceedStop x i st).board.latchRefused = s.board.latchRefused ∧ (s.proceedStop x i st).board.enable = s.board.enable ∧
    (s.proceedStop x i st).board.clock = s.board.clock ∧ (s.proceedStop x i st).board.aisle = s.board.aisle ∧
    (s.proceedStop x i st).conditions = s.conditions ∧ (s.proceedStop x i st).contexts = s.contexts ∧
    (s.proceedStop x i st).release = s.release ∧ (s.proceedStop x i st).handover = s.handover ∧
    (s.proceedStop x i st).chain = s.chain ∧ (s.proceedStop x i st).entry = s.entry ∧ (s.proceedStop x i st).store = s.store := by
  unfold State.proceedStop
  (repeat' split) <;> simp

@[simp] theorem State.takeDecision_frame (s : State) (x : Side) (i : Nat) (st : Stop) (d : Decision) :
    (s.takeDecision x i st d).pending = s.pending ∧ (s.takeDecision x i st d).mode = s.mode ∧
    (s.takeDecision x i st d).lines = s.lines ∧ (s.takeDecision x i st d).board.postQueue = s.board.postQueue ∧
    (s.takeDecision x i st d).board.finishList = s.board.finishList ∧
    (s.takeDecision x i st d).board.changeCount = s.board.changeCount ∧
    (s.takeDecision x i st d).board.latchMode = s.board.latchMode ∧
    (s.takeDecision x i st d).board.latchMisuse = s.board.latchMisuse ∧
    (s.takeDecision x i st d).board.latchRefused = s.board.latchRefused ∧
    (s.takeDecision x i st d).board.enable = s.board.enable ∧ (s.takeDecision x i st d).board.clock = s.board.clock ∧
    (s.takeDecision x i st d).board.aisle = s.board.aisle ∧ (s.takeDecision x i st d).conditions = s.conditions ∧
    (s.takeDecision x i st d).release = s.release ∧ (s.takeDecision x i st d).handover = s.handover ∧
    (s.takeDecision x i st d).entry = s.entry ∧ (s.takeDecision x i st d).store = s.store ∧
    (s.takeDecision x i st d).chain.bottom = s.chain.bottom ∧ (s.takeDecision x i st d).chain.top = s.chain.top := by
  unfold State.takeDecision
  cases d <;> simp

@[simp] theorem State.loadOk_frame (s : State) (x : Side) (st : Stop) (trip : Byte) :
    (s.loadOk x st trip).pending = s.pending ∧ (s.loadOk x st trip).sent = s.sent ∧ (s.loadOk x st trip).mode = s.mode ∧
    (s.loadOk x st trip).lines = s.lines ∧ (s.loadOk x st trip).board.postQueue = s.board.postQueue ∧
    (s.loadOk x st trip).board.finishList = s.board.finishList ∧ (s.loadOk x st trip).board.changeCount = s.board.changeCount ∧
    (s.loadOk x st trip).board.latchMode = s.board.latchMode ∧ (s.loadOk x st trip).board.latchMisuse = s.board.latchMisuse ∧
    (s.loadOk x st trip).board.latchRefused = s.board.latchRefused ∧ (s.loadOk x st trip).board.enable = s.board.enable ∧
    (s.loadOk x st trip).board.clock = s.board.clock ∧ (s.loadOk x st trip).board.aisle = s.board.aisle ∧
    (s.loadOk x st trip).conditions = s.conditions ∧ (s.loadOk x st trip).release = s.release ∧
    (s.loadOk x st trip).handover = s.handover ∧ (s.loadOk x st trip).chain = s.chain ∧ (s.loadOk x st trip).entry = s.entry ∧
    (s.loadOk x st trip).store = s.store := by
  unfold State.loadOk
  dsimp only
  (repeat' split) <;> simp

@[simp] theorem State.unloadOk_frame (s : State) (x : Side) (st : Stop) (trip : Byte) :
    (s.unloadOk x st trip).pending = s.pending ∧ (s.unloadOk x st trip).sent = s.sent ∧ (s.unloadOk x st trip).mode = s.mode ∧
    (s.unloadOk x st trip).lines = s.lines ∧ (s.unloadOk x st trip).board.postQueue = s.board.postQueue ∧
    (s.unloadOk x st trip).board.finishList = s.board.finishList ∧
    (s.unloadOk x st trip).board.changeCount = s.board.changeCount ∧
    (s.unloadOk x st trip).board.latchMode = s.board.latchMode ∧
    (s.unloadOk x st trip).board.latchMisuse = s.board.latchMisuse ∧
    (s.unloadOk x st trip).board.latchRefused = s.board.latchRefused ∧ (s.unloadOk x st trip).board.enable = s.board.enable ∧
    (s.unloadOk x st trip).board.clock = s.board.clock ∧ (s.unloadOk x st trip).board.aisle = s.board.aisle ∧
    (s.unloadOk x st trip).conditions = s.conditions ∧ (s.unloadOk x st trip).release = s.release ∧
    (s.unloadOk x st trip).handover = s.handover ∧ (s.unloadOk x st trip).lifts = s.lifts ∧
    (s.unloadOk x st trip).entry = s.entry ∧ (s.unloadOk x st trip).store = s.store ∧
    (s.unloadOk x st trip).chain.bottom = s.chain.bottom ∧ (s.unloadOk x st trip).chain.top = s.chain.top := by
  unfold State.unloadOk
  dsimp only
  (repeat' split) <;> simp

@[simp] theorem State.deckLost_frame (s : State) (x : Side) (d : Deck) :
    (s.deckLost x d).pending = s.pending ∧ (s.deckLost x d).sent = s.sent ∧ (s.deckLost x d).mode = s.mode ∧
    (s.deckLost x d).lines = s.lines ∧ (s.deckLost x d).board.postQueue = s.board.postQueue ∧
    (s.deckLost x d).board.latchMode = s.board.latchMode ∧ (s.deckLost x d).board.latchMisuse = s.board.latchMisuse ∧
    (s.deckLost x d).board.latchRefused = s.board.latchRefused ∧ (s.deckLost x d).board.enable = s.board.enable ∧
    (s.deckLost x d).board.clock = s.board.clock ∧ (s.deckLost x d).board.aisle = s.board.aisle ∧
    (s.deckLost x d).conditions = s.conditions ∧ (s.deckLost x d).lifts = s.lifts ∧ (s.deckLost x d).chain = s.chain ∧
    (s.deckLost x d).entry = s.entry ∧ (s.deckLost x d).store = s.store ∧ (s.deckLost x d).handover.grants = s.handover.grants := by
  unfold State.deckLost
  (repeat' split) <;> simp

@[simp] theorem State.unloadBlocked_frame (s : State) (x : Side) (st : Stop) :
    (s.unloadBlocked x st).pending = s.pending ∧ (s.unloadBlocked x st).sent = s.sent ∧ (s.unloadBlocked x st).mode = s.mode ∧
    (s.unloadBlocked x st).lines = s.lines ∧ (s.unloadBlocked x st).board.postQueue = s.board.postQueue ∧
    (s.unloadBlocked x st).board.finishList = s.board.finishList ∧
    (s.unloadBlocked x st).board.changeCount = s.board.changeCount ∧
    (s.unloadBlocked x st).board.latchMode = s.board.latchMode ∧
    (s.unloadBlocked x st).board.latchMisuse = s.board.latchMisuse ∧
    (s.unloadBlocked x st).board.latchRefused = s.board.latchRefused ∧ (s.unloadBlocked x st).board.enable = s.board.enable ∧
    (s.unloadBlocked x st).board.clock = s.board.clock ∧ (s.unloadBlocked x st).board.aisle = s.board.aisle ∧
    (s.unloadBlocked x st).release = s.release ∧ (s.unloadBlocked x st).handover = s.handover ∧
    (s.unloadBlocked x st).lifts = s.lifts ∧ (s.unloadBlocked x st).entry = s.entry ∧ (s.unloadBlocked x st).store = s.store ∧
    (s.unloadBlocked x st).chain.bottom = s.chain.bottom ∧ (s.unloadBlocked x st).chain.top = s.chain.top := by
  unfold State.unloadBlocked
  dsimp only
  (repeat' split) <;> simp

@[simp] theorem State.stopEffect_frame (s : State) (x : Side) (st : Stop) (trip : Byte) (r : StopResult) :
    (s.stopEffect x st trip r).pending = s.pending ∧ (s.stopEffect x st trip r).sent = s.sent ∧
    (s.stopEffect x st trip r).mode = s.mode ∧ (s.stopEffect x st trip r).lines = s.lines ∧
    (s.stopEffect x st trip r).board.postQueue = s.board.postQueue ∧
    (s.stopEffect x st trip r).board.latchMode = s.board.latchMode ∧
    (s.stopEffect x st trip r).board.latchMisuse = s.board.latchMisuse ∧
    (s.stopEffect x st trip r).board.latchRefused = s.board.latchRefused ∧
    (s.stopEffect x st trip r).board.enable = s.board.enable ∧ (s.stopEffect x st trip r).board.clock = s.board.clock ∧
    (s.stopEffect x st trip r).board.aisle = s.board.aisle ∧ (s.stopEffect x st trip r).entry = s.entry ∧
    (s.stopEffect x st trip r).store = s.store ∧ (s.stopEffect x st trip r).handover.grants = s.handover.grants ∧
    (s.stopEffect x st trip r).chain.bottom = s.chain.bottom ∧ (s.stopEffect x st trip r).chain.top = s.chain.top := by
  unfold State.stopEffect
  dsimp only
  (repeat' split) <;> simp

@[simp] theorem State.stopResult_frame (s : State) (x : Side) (st : Stop) (trip : Byte) (r : StopResult) :
    (s.stopResult x st trip r).pending = s.pending ∧ (s.stopResult x st trip r).sent = s.sent ∧
    (s.stopResult x st trip r).mode = s.mode ∧ (s.stopResult x st trip r).lines = s.lines ∧
    (s.stopResult x st trip r).board.postQueue = s.board.postQueue ∧
    (s.stopResult x st trip r).board.latchMode = s.board.latchMode ∧
    (s.stopResult x st trip r).board.latchMisuse = s.board.latchMisuse ∧
    (s.stopResult x st trip r).board.latchRefused = s.board.latchRefused ∧
    (s.stopResult x st trip r).board.enable = s.board.enable ∧ (s.stopResult x st trip r).board.clock = s.board.clock ∧
    (s.stopResult x st trip r).board.aisle = s.board.aisle ∧ (s.stopResult x st trip r).entry = s.entry ∧
    (s.stopResult x st trip r).store = s.store ∧ (s.stopResult x st trip r).handover.grants = s.handover.grants ∧
    (s.stopResult x st trip r).chain.bottom = s.chain.bottom ∧ (s.stopResult x st trip r).chain.top = s.chain.top := by
  simp [State.stopResult, State.writeMirror, State.setMem]

@[simp] theorem State.unlockStop_frame (s : State) (st : Stop) :
    (s.unlockStop st).pending = s.pending ∧ (s.unlockStop st).sent = s.sent ∧ (s.unlockStop st).mode = s.mode ∧
    (s.unlockStop st).lines = s.lines ∧ (s.unlockStop st).board.postQueue = s.board.postQueue ∧
    (s.unlockStop st).board.finishList = s.board.finishList ∧ (s.unlockStop st).board.changeCount = s.board.changeCount ∧
    (s.unlockStop st).board.latchMode = s.board.latchMode ∧ (s.unlockStop st).board.latchMisuse = s.board.latchMisuse ∧
    (s.unlockStop st).board.latchRefused = s.board.latchRefused ∧ (s.unlockStop st).board.enable = s.board.enable ∧
    (s.unlockStop st).board.clock = s.board.clock ∧ (s.unlockStop st).board.aisle = s.board.aisle ∧
    (s.unlockStop st).conditions = s.conditions ∧ (s.unlockStop st).contexts = s.contexts ∧
    (s.unlockStop st).release = s.release ∧ (s.unlockStop st).handover = s.handover ∧ (s.unlockStop st).lifts = s.lifts ∧
    (s.unlockStop st).chain = s.chain ∧ (s.unlockStop st).entry = s.entry ∧ (s.unlockStop st).store = s.store := by
  unfold State.unlockStop
  (repeat' split) <;> simp

@[simp] theorem State.unlockTrip_frame (s : State) (x : Side) :
    (s.unlockTrip x).pending = s.pending ∧ (s.unlockTrip x).sent = s.sent ∧ (s.unlockTrip x).mode = s.mode ∧
    (s.unlockTrip x).lines = s.lines ∧ (s.unlockTrip x).board.postQueue = s.board.postQueue ∧
    (s.unlockTrip x).board.finishList = s.board.finishList ∧ (s.unlockTrip x).board.changeCount = s.board.changeCount ∧
    (s.unlockTrip x).board.latchMode = s.board.latchMode ∧ (s.unlockTrip x).board.latchMisuse = s.board.latchMisuse ∧
    (s.unlockTrip x).board.latchRefused = s.board.latchRefused ∧ (s.unlockTrip x).board.enable = s.board.enable ∧
    (s.unlockTrip x).board.clock = s.board.clock ∧ (s.unlockTrip x).board.aisle = s.board.aisle ∧
    (s.unlockTrip x).conditions = s.conditions ∧ (s.unlockTrip x).contexts = s.contexts ∧
    (s.unlockTrip x).release = s.release ∧ (s.unlockTrip x).handover = s.handover ∧ (s.unlockTrip x).lifts = s.lifts ∧
    (s.unlockTrip x).chain = s.chain ∧ (s.unlockTrip x).entry = s.entry ∧ (s.unlockTrip x).store = s.store := by
  unfold State.unlockTrip
  split
  · simp
  · simpa only [Prod.mk.injEq] using foldl_view (fun t : State =>
      (t.pending, t.sent, t.mode, t.lines, t.board.postQueue, t.board.finishList, t.board.changeCount, t.board.latchMode,
      t.board.latchMisuse, t.board.latchRefused, t.board.enable, t.board.clock, t.board.aisle, t.conditions, t.contexts,
      t.release, t.handover, t.lifts, t.chain, t.entry, t.store)) (fun t st => by simp) _ s

@[simp] theorem State.enterFaulted_frame (s : State) (x : Side) :
    (s.enterFaulted x).pending = s.pending ∧ (s.enterFaulted x).sent = s.sent ∧ (s.enterFaulted x).mode = s.mode ∧
    (s.enterFaulted x).lines = s.lines ∧ (s.enterFaulted x).board.postQueue = s.board.postQueue ∧
    (s.enterFaulted x).board.finishList = s.board.finishList ∧ (s.enterFaulted x).board.changeCount = s.board.changeCount ∧
    (s.enterFaulted x).board.latchMode = s.board.latchMode ∧ (s.enterFaulted x).board.latchMisuse = s.board.latchMisuse ∧
    (s.enterFaulted x).board.latchRefused = s.board.latchRefused ∧ (s.enterFaulted x).board.enable = s.board.enable ∧
    (s.enterFaulted x).board.clock = s.board.clock ∧ (s.enterFaulted x).board.aisle = s.board.aisle ∧
    (s.enterFaulted x).conditions = s.conditions ∧ (s.enterFaulted x).contexts = s.contexts ∧
    (s.enterFaulted x).release = s.release ∧ (s.enterFaulted x).handover = s.handover ∧ (s.enterFaulted x).entry = s.entry ∧
    (s.enterFaulted x).store = s.store ∧ (s.enterFaulted x).chain.bottom = s.chain.bottom ∧
    (s.enterFaulted x).chain.top = s.chain.top := by
  simp [State.enterFaulted]

@[simp] theorem State.enterSyncing_frame (s : State) (x : Side) :
    (s.enterSyncing x).pending = s.pending ∧ (s.enterSyncing x).sent = s.sent ∧ (s.enterSyncing x).mode = s.mode ∧
    (s.enterSyncing x).lines = s.lines ∧ (s.enterSyncing x).board.postQueue = s.board.postQueue ∧
    (s.enterSyncing x).board.finishList = s.board.finishList ∧ (s.enterSyncing x).board.changeCount = s.board.changeCount ∧
    (s.enterSyncing x).board.latchMode = s.board.latchMode ∧ (s.enterSyncing x).board.latchMisuse = s.board.latchMisuse ∧
    (s.enterSyncing x).board.latchRefused = s.board.latchRefused ∧ (s.enterSyncing x).board.enable = s.board.enable ∧
    (s.enterSyncing x).board.clock = s.board.clock ∧ (s.enterSyncing x).board.aisle = s.board.aisle ∧
    (s.enterSyncing x).conditions = s.conditions ∧ (s.enterSyncing x).contexts = s.contexts ∧
    (s.enterSyncing x).release = s.release ∧ (s.enterSyncing x).handover = s.handover ∧ (s.enterSyncing x).entry = s.entry ∧
    (s.enterSyncing x).store = s.store ∧ (s.enterSyncing x).chain.bottom = s.chain.bottom ∧
    (s.enterSyncing x).chain.top = s.chain.top := by
  simp [State.enterSyncing]

@[simp] theorem State.loseLink_frame (s : State) (x : Side) (detail : Byte) :
    (s.loseLink x detail).pending = s.pending ∧ (s.loseLink x detail).sent = s.sent ∧ (s.loseLink x detail).mode = s.mode ∧
    (s.loseLink x detail).lines = s.lines ∧ (s.loseLink x detail).board.postQueue = s.board.postQueue ∧
    (s.loseLink x detail).board.finishList = s.board.finishList ∧
    (s.loseLink x detail).board.changeCount = s.board.changeCount ∧ (s.loseLink x detail).board.latchMode = s.board.latchMode ∧
    (s.loseLink x detail).board.latchMisuse = s.board.latchMisuse ∧
    (s.loseLink x detail).board.latchRefused = s.board.latchRefused ∧ (s.loseLink x detail).board.enable = s.board.enable ∧
    (s.loseLink x detail).board.clock = s.board.clock ∧ (s.loseLink x detail).board.aisle = s.board.aisle ∧
    (s.loseLink x detail).contexts = s.contexts ∧ (s.loseLink x detail).release = s.release ∧
    (s.loseLink x detail).handover = s.handover ∧ (s.loseLink x detail).entry = s.entry ∧
    (s.loseLink x detail).store = s.store ∧ (s.loseLink x detail).chain.bottom = s.chain.bottom ∧
    (s.loseLink x detail).chain.top = s.chain.top := by
  simp [State.loseLink]

@[simp] theorem State.hear_frame (s : State) (x : Side) :
    (s.hear x).pending = s.pending ∧ (s.hear x).mode = s.mode ∧ (s.hear x).lines = s.lines ∧
    (s.hear x).board.postQueue = s.board.postQueue ∧ (s.hear x).board.finishList = s.board.finishList ∧
    (s.hear x).board.changeCount = s.board.changeCount ∧ (s.hear x).board.latchMode = s.board.latchMode ∧
    (s.hear x).board.latchMisuse = s.board.latchMisuse ∧ (s.hear x).board.latchRefused = s.board.latchRefused ∧
    (s.hear x).board.enable = s.board.enable ∧ (s.hear x).board.clock = s.board.clock ∧
    (s.hear x).board.aisle = s.board.aisle ∧ (s.hear x).conditions = s.conditions ∧ (s.hear x).contexts = s.contexts ∧
    (s.hear x).release = s.release ∧ (s.hear x).handover = s.handover ∧ (s.hear x).entry = s.entry ∧
    (s.hear x).store = s.store ∧ (s.hear x).chain.bottom = s.chain.bottom ∧ (s.hear x).chain.top = s.chain.top := by
  unfold State.hear
  (repeat' split) <;> simp

@[simp] theorem State.settleStop_frame (s : State) (x : Side) (i : Nat) (st : Stop) (trip : Byte) (occupied : Bool) :
    (s.settleStop x i st trip occupied).pending = s.pending ∧ (s.settleStop x i st trip occupied).sent = s.sent ∧
    (s.settleStop x i st trip occupied).mode = s.mode ∧ (s.settleStop x i st trip occupied).lines = s.lines ∧
    (s.settleStop x i st trip occupied).board.postQueue = s.board.postQueue ∧
    (s.settleStop x i st trip occupied).board.latchMode = s.board.latchMode ∧
    (s.settleStop x i st trip occupied).board.latchMisuse = s.board.latchMisuse ∧
    (s.settleStop x i st trip occupied).board.latchRefused = s.board.latchRefused ∧
    (s.settleStop x i st trip occupied).board.enable = s.board.enable ∧
    (s.settleStop x i st trip occupied).board.clock = s.board.clock ∧
    (s.settleStop x i st trip occupied).board.aisle = s.board.aisle ∧ (s.settleStop x i st trip occupied).entry = s.entry ∧
    (s.settleStop x i st trip occupied).store = s.store ∧
    (s.settleStop x i st trip occupied).handover.grants = s.handover.grants ∧
    (s.settleStop x i st trip occupied).chain.bottom = s.chain.bottom ∧
    (s.settleStop x i st trip occupied).chain.top = s.chain.top := by
  simp [State.settleStop]

@[simp] theorem State.checkDeck_frame (s : State) (x : Side) (d : Deck) (occupied : Bool) :
    (s.checkDeck x d occupied).pending = s.pending ∧ (s.checkDeck x d occupied).sent = s.sent ∧
    (s.checkDeck x d occupied).mode = s.mode ∧ (s.checkDeck x d occupied).lines = s.lines ∧
    (s.checkDeck x d occupied).board.postQueue = s.board.postQueue ∧
    (s.checkDeck x d occupied).board.latchMode = s.board.latchMode ∧
    (s.checkDeck x d occupied).board.latchMisuse = s.board.latchMisuse ∧
    (s.checkDeck x d occupied).board.latchRefused = s.board.latchRefused ∧
    (s.checkDeck x d occupied).board.enable = s.board.enable ∧ (s.checkDeck x d occupied).board.clock = s.board.clock ∧
    (s.checkDeck x d occupied).board.aisle = s.board.aisle ∧ (s.checkDeck x d occupied).conditions = s.conditions ∧
    (s.checkDeck x d occupied).lifts = s.lifts ∧ (s.checkDeck x d occupied).chain = s.chain ∧
    (s.checkDeck x d occupied).entry = s.entry ∧ (s.checkDeck x d occupied).store = s.store ∧
    (s.checkDeck x d occupied).handover.grants = s.handover.grants := by
  unfold State.checkDeck State.writeMirror State.setMem
  dsimp only
  (repeat' split) <;> simp

@[simp] theorem State.endTripAwaitReady_frame (s : State) (x : Side) :
    (s.endTripAwaitReady x).pending = s.pending ∧ (s.endTripAwaitReady x).wake = s.wake ∧
    (s.endTripAwaitReady x).sent = s.sent ∧ (s.endTripAwaitReady x).mode = s.mode ∧ (s.endTripAwaitReady x).lines = s.lines ∧
    (s.endTripAwaitReady x).board = s.board ∧ (s.endTripAwaitReady x).conditions = s.conditions ∧
    (s.endTripAwaitReady x).contexts = s.contexts ∧ (s.endTripAwaitReady x).places = s.places ∧
    (s.endTripAwaitReady x).release = s.release ∧ (s.endTripAwaitReady x).handover = s.handover ∧
    (s.endTripAwaitReady x).chain = s.chain ∧ (s.endTripAwaitReady x).entry = s.entry ∧ (s.endTripAwaitReady x).store = s.store := by
  simp [State.endTripAwaitReady]

/-! ### The planner -/

@[simp] theorem State.planReturns_frame (s : State) (x : Side) (p : Plan) :
    (s.planReturns x p).pending = s.pending ∧ (s.planReturns x p).wake = s.wake ∧ (s.planReturns x p).sent = s.sent ∧
    (s.planReturns x p).mode = s.mode ∧ (s.planReturns x p).lines = s.lines ∧ (s.planReturns x p).board = s.board ∧
    (s.planReturns x p).conditions = s.conditions ∧ (s.planReturns x p).places = s.places ∧
    (s.planReturns x p).release = s.release ∧ (s.planReturns x p).handover = s.handover ∧ (s.planReturns x p).lifts = s.lifts ∧
    (s.planReturns x p).chain = s.chain ∧ (s.planReturns x p).entry = s.entry ∧ (s.planReturns x p).store = s.store := by
  unfold State.planReturns
  (repeat' split) <;> simp

@[simp] theorem State.reservePlan_frame (s : State) (p : Plan) :
    (s.reservePlan p).pending = s.pending ∧ (s.reservePlan p).wake = s.wake ∧ (s.reservePlan p).sent = s.sent ∧
    (s.reservePlan p).mode = s.mode ∧ (s.reservePlan p).lines = s.lines ∧
    (s.reservePlan p).board.postQueue = s.board.postQueue ∧ (s.reservePlan p).board.finishList = s.board.finishList ∧
    (s.reservePlan p).board.changeCount = s.board.changeCount ∧ (s.reservePlan p).board.latchMode = s.board.latchMode ∧
    (s.reservePlan p).board.latchMisuse = s.board.latchMisuse ∧ (s.reservePlan p).board.latchRefused = s.board.latchRefused ∧
    (s.reservePlan p).board.enable = s.board.enable ∧ (s.reservePlan p).board.clock = s.board.clock ∧
    (s.reservePlan p).board.aisle = s.board.aisle ∧ (s.reservePlan p).conditions = s.conditions ∧
    (s.reservePlan p).contexts = s.contexts ∧ (s.reservePlan p).release = s.release ∧ (s.reservePlan p).handover = s.handover ∧
    (s.reservePlan p).lifts = s.lifts ∧ (s.reservePlan p).chain = s.chain ∧ (s.reservePlan p).entry = s.entry ∧
    (s.reservePlan p).store = s.store := by
  unfold State.reservePlan
  simpa only [Prod.mk.injEq] using foldl_view (fun t : State =>
      (t.pending, t.wake, t.sent, t.mode, t.lines, t.board.postQueue, t.board.finishList, t.board.changeCount,
      t.board.latchMode, t.board.latchMisuse, t.board.latchRefused, t.board.enable, t.board.clock, t.board.aisle, t.conditions,
      t.contexts, t.release, t.handover, t.lifts, t.chain, t.entry, t.store)) (fun t st => by split <;> simp) p.stops s

/-! ### The level chain -/

@[simp] theorem State.syncLane_frame (s : State) (old : State) (p : Nat) :
    (s.syncLane old p).pending = s.pending ∧ (s.syncLane old p).wake = s.wake ∧ (s.syncLane old p).sent = s.sent ∧
    (s.syncLane old p).mode = s.mode ∧ (s.syncLane old p).lines = s.lines ∧
    (s.syncLane old p).board.postQueue = s.board.postQueue ∧ (s.syncLane old p).board.finishList = s.board.finishList ∧
    (s.syncLane old p).board.changeCount = s.board.changeCount ∧ (s.syncLane old p).board.latchMode = s.board.latchMode ∧
    (s.syncLane old p).board.latchMisuse = s.board.latchMisuse ∧ (s.syncLane old p).board.latchRefused = s.board.latchRefused ∧
    (s.syncLane old p).board.enable = s.board.enable ∧ (s.syncLane old p).board.clock = s.board.clock ∧
    (s.syncLane old p).board.aisle = s.board.aisle ∧ (s.syncLane old p).conditions = s.conditions ∧
    (s.syncLane old p).contexts = s.contexts ∧ (s.syncLane old p).release = s.release ∧
    (s.syncLane old p).handover = s.handover ∧ (s.syncLane old p).lifts = s.lifts ∧ (s.syncLane old p).chain = s.chain ∧
    (s.syncLane old p).entry = s.entry ∧ (s.syncLane old p).store = s.store := by
  simp [State.syncLane]

@[simp] theorem State.startExchange_frame (s : State) (p : Port) (level : Nat) (what : Sending) :
    (s.startExchange p level what).pending = s.pending ∧ (s.startExchange p level what).wake = s.wake ∧
    (s.startExchange p level what).mode = s.mode ∧ (s.startExchange p level what).lines = s.lines ∧
    (s.startExchange p level what).board = s.board ∧ (s.startExchange p level what).conditions = s.conditions ∧
    (s.startExchange p level what).contexts = s.contexts ∧ (s.startExchange p level what).places = s.places ∧
    (s.startExchange p level what).release = s.release ∧ (s.startExchange p level what).handover = s.handover ∧
    (s.startExchange p level what).lifts = s.lifts ∧ (s.startExchange p level what).entry = s.entry ∧
    (s.startExchange p level what).store = s.store := by
  simp [State.startExchange]

@[simp] theorem State.sendCommand_frame (s : State) (p : Port) (level : Nat) :
    (s.sendCommand p level).pending = s.pending ∧ (s.sendCommand p level).wake = s.wake ∧
    (s.sendCommand p level).mode = s.mode ∧ (s.sendCommand p level).lines = s.lines ∧ (s.sendCommand p level).board = s.board ∧
    (s.sendCommand p level).conditions = s.conditions ∧ (s.sendCommand p level).contexts = s.contexts ∧
    (s.sendCommand p level).places = s.places ∧ (s.sendCommand p level).release = s.release ∧
    (s.sendCommand p level).handover = s.handover ∧ (s.sendCommand p level).lifts = s.lifts ∧
    (s.sendCommand p level).entry = s.entry ∧ (s.sendCommand p level).store = s.store := by
  unfold State.sendCommand
  split <;> simp

@[simp] theorem State.advanceVisit_frame (s : State) (p : Port) :
    (s.advanceVisit p).pending = s.pending ∧ (s.advanceVisit p).wake = s.wake ∧ (s.advanceVisit p).mode = s.mode ∧
    (s.advanceVisit p).lines = s.lines ∧ (s.advanceVisit p).board = s.board ∧ (s.advanceVisit p).conditions = s.conditions ∧
    (s.advanceVisit p).contexts = s.contexts ∧ (s.advanceVisit p).places = s.places ∧ (s.advanceVisit p).release = s.release ∧
    (s.advanceVisit p).handover = s.handover ∧ (s.advanceVisit p).lifts = s.lifts ∧ (s.advanceVisit p).entry = s.entry ∧
    (s.advanceVisit p).store = s.store := by
  unfold State.advanceVisit
  dsimp only
  (repeat' split) <;> simp

@[simp] theorem State.visitPort_frame (s : State) (p : Port) :
    (s.visitPort p).pending = s.pending ∧ (s.visitPort p).wake = s.wake ∧ (s.visitPort p).mode = s.mode ∧
    (s.visitPort p).lines = s.lines ∧ (s.visitPort p).board = s.board ∧ (s.visitPort p).conditions = s.conditions ∧
    (s.visitPort p).contexts = s.contexts ∧ (s.visitPort p).places = s.places ∧ (s.visitPort p).release = s.release ∧
    (s.visitPort p).handover = s.handover ∧ (s.visitPort p).lifts = s.lifts ∧ (s.visitPort p).entry = s.entry ∧
    (s.visitPort p).store = s.store := by
  unfold State.visitPort
  dsimp only
  (repeat' split) <;> simp

@[simp] theorem State.answered_frame (s : State) (p : Port) (level : Nat) (next : VisitNext) :
    (s.answered p level next).pending = s.pending ∧ (s.answered p level next).wake = s.wake ∧
    (s.answered p level next).sent = s.sent ∧ (s.answered p level next).mode = s.mode ∧
    (s.answered p level next).lines = s.lines ∧ (s.answered p level next).board = s.board ∧
    (s.answered p level next).conditions = s.conditions ∧ (s.answered p level next).contexts = s.contexts ∧
    (s.answered p level next).places = s.places ∧ (s.answered p level next).release = s.release ∧
    (s.answered p level next).handover = s.handover ∧ (s.answered p level next).lifts = s.lifts ∧
    (s.answered p level next).entry = s.entry ∧ (s.answered p level next).store = s.store := by
  simp [State.answered]

end Sys2Proof.Machine
end

section
/-! PROOF. The queue and the book-keeping of cards, orders and held asks (the statements EveryCommandCompletes and StepKeepsRoster):
one relation that every operation keeps, and one law for each operation. -/

namespace Sys2Proof.Machine

/-- What the book-keeping is about: the queue, the post queue, the finish list, the cards' states, the levels of the open orders, the
store operation and the levels of the held asks. -/
structure Book where
  pending : List Instr
  postQueue : List Nat
  finishList : List Nat
  states : Nat → Byte
  levels : Nat → Option Nat
  op : Option StoreOp
  asks : List Nat

def State.book (s : State) : Book where
  pending := s.pending
  postQueue := s.board.postQueue
  finishList := s.board.finishList
  states := s.cardState
  levels n := (s.ctx n).map (·.level)
  op := s.store.op
  asks := s.handover.held.map (·.level)

/-- Card `n` is in hand: taken off the post queue by the examiner, or its store operation is over, and not finished yet. -/
structure InHand (s : State) (n : Nat) : Prop where
  slot : n < 128
  unfinished : cardFinal (s.cardState n) = false
  unposted : n ∉ s.board.postQueue
  closed : s.ctx n = none
  idle : ∀ o, s.store.op = some o → o.card ≠ n

/-- From `a` to `s` the queue stands, the book-keeping stays in order, and a card in hand stays so. -/
structure Keeps (a s : State) : Prop where
  pending : s.pending = a.pending
  roster : Roster a → Roster s
  hand : ∀ n, InHand a n → InHand s n

theorem Keeps.refl (a : State) : Keeps a a := ⟨rfl, id, fun _ h => h⟩

theorem Keeps.trans {a s t : State} (h : Keeps a s) (k : Keeps s t) : Keeps a t :=
  ⟨k.pending.trans h.pending, k.roster ∘ h.roster, fun n hn => k.hand n (h.hand n hn)⟩

theorem ctx_eq_none_iff_levels (s : State) (n : Nat) : s.ctx n = none ↔ s.book.levels n = none := by simp [State.book]

/-- The books stand when the book view stands, the held asks may only become fewer. -/
theorem keeps_of_views {a s : State} (pending : s.pending = a.pending) (postQueue : s.board.postQueue = a.board.postQueue)
    (finishList : s.board.finishList = a.board.finishList) (states : ∀ n, n < 128 → s.cardState n = a.cardState n)
    (levels : ∀ n, (s.ctx n).map (·.level) = (a.ctx n).map (·.level)) (op : s.store.op = a.store.op)
    (asks : (s.handover.held.map (·.level)).Sublist (a.handover.held.map (·.level))) : Keeps a s := by
  have closed (n : Nat) : s.ctx n = none ↔ a.ctx n = none := by
    rw [ctx_eq_none_iff_levels, ctx_eq_none_iff_levels]; simp only [State.book, levels]
  have opened (n : Nat) (c : Context) (hc : s.ctx n = some c) : ∃ d, a.ctx n = some d ∧ d.level = c.level := by
    have := levels n
    rw [hc] at this
    simpa [eq_comm] using this
  refine ⟨pending, fun r => ⟨?posted, ?finished, ?taken, ?levels, ?storing, ?asks⟩, fun n h => ⟨h.slot, ?_, ?_, ?_, ?_⟩⟩
  case posted =>
    rw [postQueue]
    exact ⟨r.posted.1, fun n hn => ⟨(r.posted.2 n hn).1, (states n (r.posted.2 n hn).1).trans (r.posted.2 n hn).2⟩⟩
  case finished =>
    rw [finishList]
    exact ⟨r.finished.1, fun n hn => ⟨(r.finished.2 n hn).1, states n (r.finished.2 n hn).1 ▸ (r.finished.2 n hn).2⟩⟩
  case taken =>
    intro n c hc
    obtain ⟨d, hd, _⟩ := opened n c hc
    exact (states n (State.ctx_lt s n c hc)).trans (r.taken n d hd)
  case levels =>
    intro n c hc
    obtain ⟨d, hd, e⟩ := opened n c hc
    exact e ▸ r.levels n d hd
  case storing =>
    intro o ho
    obtain ⟨slot, taken, free⟩ := r.storing o (op ▸ ho)
    exact ⟨slot, (states _ slot).trans taken, (closed _).mpr free⟩
  case asks => exact r.asks.sublist asks
  · exact states n h.slot ▸ h.unfinished
  · exact postQueue ▸ h.unposted
  · exact (closed n).mpr h.closed
  · exact op ▸ h.idle

section
variable {a s : State}

/-- A change that leaves the book view leaves the books in order. -/
theorem Keeps.of_book {t : State} (h : Keeps a s) (e : t.book = s.book) : Keeps a t :=
  h.trans (keeps_of_views (congrArg Book.pending e) (congrArg Book.postQueue e) (congrArg Book.finishList e)
    (fun n _ => congrFun (congrArg Book.states e) n) (fun n => congrFun (congrArg Book.levels e) n) (congrArg Book.op e)
    (by rw [show t.handover.held.map (·.level) = s.handover.held.map (·.level) from congrArg Book.asks e]))

/-! ### Updates of the state -/

/-- An open order's context may change in all but its level. -/
theorem State.setContext_keeps (h : Keeps a s) (n : Nat) {c d : Context} (open' : s.ctx n = some c) (level : d.level = c.level) :
    Keeps a (s.setContext n (some d)) := by
  have slot := State.ctx_lt s n c open'
  refine h.of_book (congrArg (fun l => { s.book with levels := l }) (funext fun m => ?_))
  by_cases e : n = m
  · subst e
    simp [State.ctx_setContext_self s n _ slot, open', level]
  · simp [State.ctx_setContext_ne s n m _ e]

@[simp] theorem State.updateContext_keeps (h : Keeps a s) (n : Nat) (f : Context → Context) (hf : ∀ c, (f c).level = c.level) :
    Keeps a (s.updateContext n f) := by
  unfold State.updateContext
  split
  · exact h
  · next c hc => exact State.setContext_keeps h n hc (hf c)

@[simp] theorem State.setGrant_keeps (h : Keeps a s) (n : Nat) (g : Option Grant) : Keeps a (s.setGrant n g) := by
  cases n <;> exact h.of_book rfl
@[simp] theorem State.setHeld_keeps (h : Keeps a s) (l : List HeldAsk) (hl : l.Sublist s.handover.held) :
    Keeps a (s.setHeld l) :=
  h.trans (keeps_of_views rfl rfl rfl (fun _ _ => rfl) (fun _ => rfl) rfl (hl.map _))
@[simp] theorem State.setNode_keeps (h : Keeps a s) (n : Nat) (nd : Node) : Keeps a (s.setNode n nd) := by
  cases n <;> exact h.of_book rfl
@[simp] theorem State.updateNode_keeps (h : Keeps a s) (n : Nat) (f : Node → Node) : Keeps a (s.updateNode n f) := by
  unfold State.updateNode; simp [h]
@[simp] theorem State.setPort_keeps (h : Keeps a s) (p : Port) (v : ChainPort) : Keeps a (s.setPort p v) := by
  cases p <;> exact h.of_book rfl
@[simp] theorem State.updatePort_keeps (h : Keeps a s) (p : Port) (f : ChainPort → ChainPort) : Keeps a (s.updatePort p f) := by
  unfold State.updatePort; simp [h]
@[simp] theorem State.setLift_keeps (h : Keeps a s) (x : Side) (l : Lift) : Keeps a (s.setLift x l) := h.of_book rfl
@[simp] theorem State.updateLift_keeps (h : Keeps a s) (x : Side) (f : Lift → Lift) : Keeps a (s.updateLift x f) := h.of_book rfl
@[simp] theorem State.setRelease_keeps (h : Keeps a s) (r : Release) : Keeps a (s.setRelease r) := h.of_book rfl
@[simp] theorem State.setEntry_keeps (h : Keeps a s) (e : EntryUnit) : Keeps a (s.setEntry e) := h.of_book rfl
@[simp] theorem State.setStore_keeps (h : Keeps a s) (st : Store) (ho : st.op = s.store.op) : Keeps a (s.setStore st) :=
  h.of_book (congrArg (fun o => { s.book with op := o }) ho)
@[simp] theorem State.tell_keeps (h : Keeps a s) (r : Retry) : Keeps a (s.tell r) := by
  unfold State.tell; split
  · exact h
  · exact h.of_book rfl
@[simp] theorem State.transmit_keeps (h : Keeps a s) (f : Frame) : Keeps a (s.transmit f) := h.of_book rfl
@[simp] theorem State.setCond_keeps (h : Keeps a s) (src : Nat) (e : CondEntry) : Keeps a (s.setCond src e) := h.of_book rfl
@[simp] theorem State.raise_keeps (h : Keeps a s) (src : Nat) (c : Cond) (d1 d2 : Byte) : Keeps a (s.raise src c d1 d2) :=
  h.of_book rfl
@[simp] theorem State.raiseDue_keeps (h : Keeps a s) : Keeps a s.raiseDue := by
  unfold State.raiseDue
  split <;> simp [h]
@[simp] theorem State.begin_keeps (h : Keeps a s) : Keeps a s.begin := (State.raiseDue_keeps h).of_book rfl
/-- A change of the memory port that leaves the cells and both lists alone. -/
@[simp] theorem State.setBoard_keeps (h : Keeps a s) (b : Board) (hm : b.mem = s.board.mem)
    (hq : b.postQueue = s.board.postQueue) (hf : b.finishList = s.board.finishList) : Keeps a (s.setBoard b) := by
  refine h.of_book ?_
  unfold State.book State.cardState State.cardByte State.setBoard
  simp only [hm, hq, hf]
  rfl
/-- A write that meets no card's state byte. -/
theorem State.write_keeps (h : Keeps a s) (base : Nat) (bs : List Byte)
    (clear : ∀ n, n < 128 → cardAddr n 0 < base ∨ base + bs.length ≤ cardAddr n 0) :
    Keeps a (s.setMem (Memory.write s.board.mem base bs)) :=
  h.trans (keeps_of_views rfl rfl rfl (fun n hn => Memory.read_write_outside _ _ _ _ (clear n hn)) (fun _ => rfl) rfl
    (List.Sublist.refl _))
@[simp] theorem ite_keeps {c : Prop} [Decidable c] {b d : State} (hb : Keeps a b) (hd : Keeps a d) :
    Keeps a (if c then b else d) := by
  split
  · exact hb
  · exact hd
theorem foldl_keeps {α : Type} (f : State → α → State) (hf : ∀ t x, Keeps a t → Keeps a (f t x)) (l : List α) (s : State)
    (h : Keeps a s) : Keeps a (l.foldl f s) := by
  induction l generalizing s with
  | nil => exact h
  | cons x l ih => exact ih _ (hf _ _ h)
@[simp] theorem State.tellAll_keeps (h : Keeps a s) (rs : List Retry) : Keeps a (s.tellAll rs) :=
  foldl_keeps _ (fun _ _ ht => State.tell_keeps ht _) rs s h


/-- A new ask of a level that has none is held. -/
theorem State.holdAsk_keeps (h : Keeps a s) (ask : HeldAsk) (new : ∀ x ∈ s.handover.held, x.level ≠ ask.level) :
    Keeps a (s.setHeld (s.handover.held ++ [ask])) := by
  refine h.trans ⟨rfl, fun r => ⟨r.posted, r.finished, r.taken, r.levels, r.storing, ?_⟩, fun n hn => ⟨hn.1, hn.2, hn.3, hn.4, hn.5⟩⟩
  show ((s.handover.held ++ [ask]).map (·.level)).Nodup
  rw [List.map_append, List.map_singleton, List.nodup_append]
  refine ⟨r.asks, by simp, fun k hk l hl => ?_⟩
  obtain ⟨x, hx, rfl⟩ := List.mem_map.mp hk
  rw [List.mem_singleton.mp hl]
  exact new x hx

/-! ### A card's state byte, and the finish of a card -/

@[simp] theorem cardFinal_cardDone : cardFinal cardDone = true := by decide
@[simp] theorem cardFinal_cardRefused : cardFinal cardRefused = true := by decide
@[simp] theorem cardFinal_cardFailed : cardFinal cardFailed = true := by decide
@[simp] theorem cardFinal_cardCancelled : cardFinal cardCancelled = true := by decide
theorem cardFinal_cardTaken : cardFinal cardTaken = false := rfl
theorem cardFinal_cardPosted : cardFinal cardPosted = false := rfl

/-- The other bytes of a card lie outside every state byte. -/
theorem cardAddr_clear {n i len : Nat} (pos : 1 ≤ i) (fits : i + len ≤ 64) (m : Nat) :
    cardAddr m 0 < cardAddr n i ∨ cardAddr n i + len ≤ cardAddr m 0 := by
  unfold cardAddr; omega

@[simp] theorem State.writeCard_keeps (h : Keeps a s) (n i : Nat) (bs : List Byte) (pos : 1 ≤ i) (fits : i + bs.length ≤ 64) :
    Keeps a (s.writeCard n i bs) :=
  State.write_keeps h _ _ (fun m _ => cardAddr_clear pos fits m)

theorem State.cardState_writeCard (s : State) (n i m : Nat) (bs : List Byte) (pos : 1 ≤ i) (fits : i + bs.length ≤ 64) :
    (s.writeCard n i bs).cardState m = s.cardState m :=
  Memory.read_write_outside _ _ _ _ (cardAddr_clear pos fits m)

theorem State.cardState_setCardState_ne (s : State) {n m : Nat} (b : Byte) (ne : m ≠ n) :
    (s.setCardState n b).cardState m = s.cardState m :=
  State.read_setCardState_ne s n b (by unfold cardAddr; omega)

/-- A card that leaves the books for the finish list: it was in no list and had no final state before. -/
theorem Roster.finish {t : State} {n : Nat} (r : Roster s) (slot : n < 128) (unfinished : cardFinal (s.cardState n) = false)
    (unposted : n ∉ s.board.postQueue) (idle : ∀ o, s.store.op = some o → o.card ≠ n)
    (postQueue : t.board.postQueue = s.board.postQueue) (finishList : t.board.finishList = s.board.finishList ++ [n])
    (self : cardFinal (t.cardState n) = true) (others : ∀ m, m ≠ n → t.cardState m = s.cardState m)
    (closed : t.ctx n = none) (opened : ∀ m, m ≠ n → t.ctx m = s.ctx m) (op : t.store.op = s.store.op)
    (asks : t.handover.held = s.handover.held) : Roster t := by
  have apart {m : Nat} (hm : cardFinal (s.cardState m) = true) : m ≠ n := by
    rintro rfl
    rw [hm] at unfinished
    cases unfinished
  have other {m : Nat} {c : Context} (hc : t.ctx m = some c) : m ≠ n := by
    rintro rfl
    rw [closed] at hc
    cases hc
  refine ⟨?posted, ?finished, ?taken, ?levels, ?storing, asks ▸ r.asks⟩
  case posted =>
    rw [postQueue]
    refine ⟨r.posted.1, fun m hm => ⟨(r.posted.2 m hm).1, ?_⟩⟩
    rw [others m (fun e => unposted (e ▸ hm))]
    exact (r.posted.2 m hm).2
  case finished =>
    rw [finishList, List.nodup_append]
    refine ⟨⟨r.finished.1, by simp, fun m hm k hk => ?_⟩, fun m hm => ?_⟩
    · rw [List.mem_singleton.mp hk]
      exact apart (r.finished.2 m hm).2
    · rcases List.mem_append.mp hm with hm | hm
      · rw [others m (apart (r.finished.2 m hm).2)]
        exact r.finished.2 m hm
      · rw [List.mem_singleton.mp hm]
        exact ⟨slot, self⟩
  case taken =>
    intro m c hc
    have ne := other hc
    rw [others m ne]
    exact r.taken m c (opened m ne ▸ hc)
  case levels => exact fun m c hc => r.levels m c (opened m (other hc) ▸ hc)
  case storing =>
    intro o ho
    rw [op] at ho
    have ne := idle o ho
    rw [others _ ne, opened _ ne]
    exact r.storing o ho

/-- What the end of an open order does to the card and the books: steps 5 to 8 of R40. -/
theorem State.closeOrder_keeps (h : Keeps a s) (n : Nat) {c : Context} (open' : s.ctx n = some c) (bs : List Byte)
    (fits : bs.length ≤ 32) (final : Byte) (isFinal : cardFinal final = true) :
    Keeps a ((((s.writeCard n 32 bs).setCardState n final).appendFinish n).setContext n none) := by
  have slot := State.ctx_lt s n c open'
  have others (m : Nat) (ne : m ≠ n) : ((s.writeCard n 32 bs).setCardState n final).cardState m = s.cardState m := by
    rw [State.cardState_setCardState_ne _ _ ne, State.cardState_writeCard _ _ _ _ _ (by omega) (by omega)]
  have opened (m : Nat) (ne : m ≠ n) :
      ((((s.writeCard n 32 bs).setCardState n final).appendFinish n).setContext n none).ctx m = s.ctx m :=
    State.ctx_setContext_ne _ _ _ _ ne.symm
  have apart {m : Nat} (hm : s.ctx m = none) : m ≠ n := by
    rintro rfl
    rw [hm] at open'
    cases open'
  refine h.trans ⟨rfl, fun r => ?_, fun m hm => ?_⟩
  · have taken := r.taken n c open'
    refine r.finish slot (by rw [taken]; rfl) ?_ ?_ rfl rfl ?_ others (State.ctx_setContext_self _ n none slot) opened rfl rfl
    · intro hq
      have posted := (r.posted.2 n hq).2
      rw [taken] at posted
      exact absurd posted (by decide)
    · rintro o ho rfl
      rw [(r.storing o ho).2.2] at open'
      cases open'
    · show cardFinal (((s.writeCard n 32 bs).setCardState n final).cardState n) = true
      rw [State.cardState_setCardState slot]
      exact isFinal
  · have ne := apart hm.closed
    exact ⟨hm.slot, (others m ne).symm ▸ hm.unfinished, hm.unposted, (opened m ne).trans hm.closed, hm.idle⟩

/-! ### One law for each operation -/

@[simp] theorem State.queueNode_keeps (h : Keeps a s) (level : Nat) (c : ChainCmd) : Keeps a (s.queueNode level c) := by
  unfold State.queueNode; (repeat' split) <;> simp (maxDischargeDepth := 30) [h]
@[simp] theorem State.queueResync_keeps (h : Keeps a s) (level : Nat) : Keeps a (s.queueResync level) := by
  unfold State.queueResync; (repeat' split) <;> simp (maxDischargeDepth := 30) [h]
@[simp] theorem State.writeMirror_keeps (h : Keeps a s) (p : Nat) : Keeps a (s.writeMirror p) :=
  State.write_keeps h _ _ (fun n _ => .inl (by unfold cardAddr; omega))
@[simp] theorem State.copyMirror_keeps (h : Keeps a s) (old : State) (p : Nat) : Keeps a (s.copyMirror old p) := by
  unfold State.copyMirror; split <;> simp [h]
@[simp] theorem State.setPlace_keeps (h : Keeps a s) (p : Nat) (r : Place) : Keeps a (s.setPlace p r) := by
  have ht : Keeps a { s with places := s.places.setIfInBounds p (s.retimed p r) } := h.of_book rfl
  exact State.copyMirror_keeps ht s p
@[simp] theorem State.retime_keeps (h : Keeps a s) (p : Nat) : Keeps a (s.retime p) := by
  unfold State.retime; simp (maxDischargeDepth := 30) [h]
@[simp] theorem State.afterReservation_keeps (h : Keeps a s) (p : Nat) : Keeps a (s.afterReservation p) := by
  unfold State.afterReservation; (repeat' split) <;> simp (maxDischargeDepth := 30) [h]
@[simp] theorem State.arrive_keeps (h : Keeps a s) (p : Nat) (e : Entry) : Keeps a (s.arrive p e) := by
  unfold State.arrive; (try dsimp only); simp (maxDischargeDepth := 30) [h]
@[simp] theorem State.arriveReserved_keeps (h : Keeps a s) (p : Nat) (e : Entry) : Keeps a (s.arriveReserved p e) := by
  unfold State.arriveReserved; (try dsimp only); simp (maxDischargeDepth := 30) [h]
@[simp] theorem State.depart_keeps (h : Keeps a s) (p : Nat) : Keeps a (s.depart p) := by
  unfold State.depart; (try dsimp only); (repeat' split) <;> simp (maxDischargeDepth := 30) [h]
@[simp] theorem State.setEntries_keeps (h : Keeps a s) (p : Nat) (es : List Entry) : Keeps a (s.setEntries p es) := by
  unfold State.setEntries; (try dsimp only); simp (maxDischargeDepth := 30) [h]
@[simp] theorem State.reserve_keeps (h : Keeps a s) (p : Nat) : Keeps a (s.reserve p) := by
  unfold State.reserve; (try dsimp only); simp (maxDischargeDepth := 30) [h]
@[simp] theorem State.unreserve_keeps (h : Keeps a s) (p : Nat) : Keeps a (s.unreserve p) := by
  unfold State.unreserve; (try dsimp only); simp (maxDischargeDepth := 30) [h]
@[simp] theorem State.lockLane_keeps (h : Keeps a s) (p : Nat) (l : Lock) : Keeps a (s.lockLane p l) := by
  unfold State.lockLane; (try dsimp only); simp (maxDischargeDepth := 30) [h]
@[simp] theorem State.unlockLane_keeps (h : Keeps a s) (p : Nat) : Keeps a (s.unlockLane p) := by
  unfold State.unlockLane; (try dsimp only); simp (maxDischargeDepth := 30) [h]
@[simp] theorem State.setStatus_keeps (h : Keeps a s) (p : Nat) (q : Place) : Keeps a (s.setStatus p q) := by
  unfold State.setStatus; simp (maxDischargeDepth := 30) [h]
@[simp] theorem State.freeze_keeps (h : Keeps a s) (p : Nat) (r : Freeze) : Keeps a (s.freeze p r) := by
  unfold State.freeze; (try dsimp only); simp (maxDischargeDepth := 30) [h]
@[simp] theorem State.advance_keeps (h : Keeps a s)  : Keeps a (s.advance) := by
  unfold State.advance; (try dsimp only); (repeat' split) <;> simp (maxDischargeDepth := 30) [h]
@[simp] theorem State.voiding_keeps (h : Keeps a s) (x : Half) : Keeps a (s.voiding x) := by
  unfold State.voiding; (try dsimp only); (repeat' split) <;> simp (maxDischargeDepth := 30) [h]
@[simp] theorem State.unlist_keeps (h : Keeps a s) (n : Nat) : Keeps a (s.unlist n) := by
  unfold State.unlist; (try dsimp only); simp (maxDischargeDepth := 30) [h]
@[simp] theorem State.unbind_keeps (h : Keeps a s) (n : Nat) : Keeps a (s.unbind n) := by
  unfold State.unbind; simp (maxDischargeDepth := 30) [h]
@[simp] theorem State.restStall_keeps (h : Keeps a s)  : Keeps a (s.restStall) := by
  unfold State.restStall; (try dsimp only); (repeat' split) <;> simp (maxDischargeDepth := 30) [h]
@[simp] theorem State.giveUp_keeps (h : Keeps a s) (n : Nat) (stays : Bool) : Keeps a (s.giveUp n stays) := by
  unfold State.giveUp
  split
  · exact h
  · next c hc =>
    split
    · have listed : (s.unlist n).ctx n = some c := hc
      have given := State.setContext_keeps (d := { c with
          seqState := .givenUp, demoted := c.demoted || stays, demotedFlag := c.demotedFlag || stays })
        (State.unlist_keeps h n) n listed rfl
      dsimp only
      generalize (s.unlist n).setContext n _ = t at given
      simp (maxDischargeDepth := 10) [given]
    · exact h
@[simp] theorem State.finishOrder_keeps (h : Keeps a s) (n : Nat) (final : Byte) (r : ReasonCode) (detail : Byte) (gives : Bool)
    (isFinal : cardFinal final = true) : Keeps a (s.finishOrder n final r detail gives) := by
  have h2 : Keeps a (if gives then (s.setHeld (s.handover.held.filter (fun h => !h.ofCard n))).giveUp n false
      else s.setHeld (s.handover.held.filter (fun h => !h.ofCard n))) := by
    split <;> simp [h]
  unfold State.finishOrder
  dsimp only
  generalize (if gives then (s.setHeld (s.handover.held.filter (fun h => !h.ofCard n))).giveUp n false
      else s.setHeld (s.handover.held.filter (fun h => !h.ofCard n))) = s2 at h2
  split
  · exact h2
  · next c hc => exact State.closeOrder_keeps h2 n hc _ (by simp [outcomeBytes, bytes32]) final isFinal
@[simp] theorem State.dropHeld_keeps (h : Keeps a s) (level : Nat) : Keeps a (s.dropHeld level) := by
  refine foldl_keeps _ (fun t x ht => ?_) _ _ (State.setHeld_keeps h _ List.filter_sublist)
  cases x
  · exact State.updateContext_keeps ht _ _ (fun c => by split <;> rfl)
  · exact ht

/-- Dropping a level's held entry leaves the asks of the other levels (R84). -/
theorem State.held_dropHeld (s : State) (level : Nat) :
    (s.dropHeld level).handover.held = s.handover.held.filter (fun h => h.level != level) := by
  have kept := foldl_view (fun t : State => t.handover)
    (f := fun t h => match h with
      | .drop _ n _ => t.updateContext n (fun c => if c.phase = .held then { c with phase := .pending } else c)
      | .take _ _ => t)
    (fun t x => by cases x <;> simp) (s.handover.held.filter (fun h => h.level == level))
    (s.setHeld (s.handover.held.filter (fun h => h.level != level)))
  exact congrArg Handover.held kept

/-- After a level's held entry is dropped the level has none. -/
theorem State.level_of_mem_dropHeld {s : State} {level : Nat} {x : HeldAsk} (hx : x ∈ (s.dropHeld level).handover.held) :
    x.level ≠ level := by
  rw [State.held_dropHeld] at hx
  simpa using (List.mem_filter.mp hx).2
theorem State.grantDrop_keeps (h : Keeps a s) (n : Nat) (c : Context) (level : Nat) (x : Side) (substituted : Bool)
    (open' : s.ctx n = some c) : Keeps a (s.grantDrop n c level x substituted) := by
  have locked : ((s.reserve (outLane level x)).lockLane (outLane level x) .shuttle).ctx n = some c := by
    simpa [State.ctx] using open'
  have granted := State.setContext_keeps (d := { c with
      phase := .granted, side := some x, sideChanged := substituted, bound := s.stamp })
    (State.lockLane_keeps (State.reserve_keeps h (outLane level x)) (outLane level x) .shuttle) n locked rfl
  unfold State.grantDrop
  dsimp only
  split <;> simp (maxDischargeDepth := 10) [granted]
@[simp] theorem State.closeDrop_keeps (h : Keeps a s) (n : Nat) (level : Nat) : Keeps a (s.closeDrop n level) := by
  unfold State.closeDrop; simp (maxDischargeDepth := 30) [h]
@[simp] theorem State.grantTake_keeps (h : Keeps a s) (level : Nat) (x : Side) (e : Entry) : Keeps a (s.grantTake level x e) := by
  unfold State.grantTake; (try dsimp only); (repeat' split) <;> simp (maxDischargeDepth := 30) [h]
@[simp] theorem State.askDrop_keeps (h : Keeps a s) (level : Nat) (tote : Word) : Keeps a (s.askDrop level tote) := by
  have dropped := State.dropHeld_keeps h level
  unfold State.askDrop
  dsimp only
  split
  · simp [dropped]
  · next n _ =>
    split
    · exact dropped
    · next c hc =>
      split
      · split
        · exact State.closeDrop_keeps dropped n level
        · exact State.grantDrop_keeps dropped n c level _ _ hc
        · exact State.setContext_keeps
            (State.holdAsk_keeps dropped (.drop level n tote) (fun x hx => State.level_of_mem_dropHeld hx)) n hc rfl
      · simp [dropped]
@[simp] theorem State.askTake_keeps (h : Keeps a s) (level : Nat) (x : Side) : Keeps a (s.askTake level x) := by
  have dropped := State.dropHeld_keeps h level
  unfold State.askTake
  dsimp only
  split
  · exact State.grantTake_keeps dropped level x _
  · exact State.queueNode_keeps
      (State.holdAsk_keeps dropped (.take level x) (fun y hy => State.level_of_mem_dropHeld hy)) _ _
theorem State.tryHeld_keeps (h : Keeps a s) (x : HeldAsk) (t : State) (e : s.tryHeld x = some t) : Keeps a t := by
  unfold State.tryHeld at e
  split at e
  · split at e
    · cases e
    · next n _ c hc =>
      split at e <;> cases e
      · exact State.closeDrop_keeps h _ _
      · exact State.grantDrop_keeps h _ c _ _ _ hc
  · split at e <;> cases e
    exact State.grantTake_keeps h _ _ _
theorem State.walkOver_keeps (l : List HeldAsk) (h : Keeps a s) : Keeps a (State.walkOver l s).1 := by
  induction l generalizing s with
  | nil => exact h
  | cons a l ih =>
    unfold State.walkOver
    split
    · exact ih h
    · rename_i t ht
      exact ih (State.tryHeld_keeps h a t ht)
theorem State.walk_keeps (h : Keeps a s)  (t : State) (e : s.walk = some t) : Keeps a t := by
  unfold State.walk at e
  split at e
  · have hw := State.walkOver_keeps s.handover.held h
    split at e
    · rename_i u hu
      obtain rfl := Option.some.inj e
      rw [hu] at hw; exact hw
    · cases e
  · cases e
@[simp] theorem State.dropDone_keeps (h : Keeps a s) (level : Nat) (g : Grant) : Keeps a (s.dropDone level g) := by
  unfold State.dropDone; (try dsimp only); (repeat' split) <;> simp (maxDischargeDepth := 30) [h]
@[simp] theorem State.dropAbort_keeps (h : Keeps a s) (level : Nat) (g : Grant) : Keeps a (s.dropAbort level g) := by
  unfold State.dropAbort
  dsimp only
  split
  · simp (maxDischargeDepth := 10) [h]
  · next n _ =>
    split
    · simp (maxDischargeDepth := 10) [h]
    · next c hc =>
      split
      · simp (maxDischargeDepth := 10) [h]
      · refine State.setContext_keeps (c := c) ?_ n ?_ rfl
        · simp (maxDischargeDepth := 10) [h]
        · simpa [State.ctx] using hc
@[simp] theorem State.takeDone_keeps (h : Keeps a s) (level : Nat) (g : Grant) (read : Word) : Keeps a (s.takeDone level g read) := by
  unfold State.takeDone; (try dsimp only); (repeat' split) <;> simp (maxDischargeDepth := 30) [h]
@[simp] theorem State.takeAbort_keeps (h : Keeps a s) (level : Nat) (g : Grant) : Keeps a (s.takeAbort level g) := by
  unfold State.takeAbort; (try dsimp only); (repeat' split) <;> simp (maxDischargeDepth := 30) [h]
@[simp] theorem State.releaseCard_keeps (h : Keeps a s) (n : Nat) : Keeps a (s.releaseCard n) := by
  unfold State.releaseCard
  split
  · exact h
  · next c hc =>
    split
    · exact State.setContext_keeps h n hc rfl
    · have listed : (s.unlist n).ctx n = some c := hc
      have consumed := State.setContext_keeps (d := { c with phase := .released, place := none, seqState := .consumed })
        (State.unlist_keeps h n) n listed rfl
      simp [consumed]
@[simp] theorem State.releaseHead_keeps (h : Keeps a s) (x : Side) (e : Entry) : Keeps a (s.releaseHead x e) := by
  unfold State.releaseHead; (try dsimp only); (repeat' split) <;> simp (maxDischargeDepth := 30) [h]
theorem State.tryMerge_keeps (h : Keeps a s)  (t : State) (e : s.tryMerge = some t) : Keeps a t := by
  unfold State.tryMerge at e; (repeat' split at e) <;> first | (simp at e; done) | (obtain rfl := Option.some.inj e; simp (maxDischargeDepth := 30) [h])
@[simp] theorem State.setMotion_keeps (h : Keeps a s) (m : Motion) : Keeps a (s.setMotion m) := by
  unfold State.setMotion; (try dsimp only); simp (maxDischargeDepth := 30) [h]
@[simp] theorem State.setDivert_keeps (h : Keeps a s) (e : Entry) : Keeps a (s.setDivert e) := by
  unfold State.setDivert; (try dsimp only); (repeat' split) <;> simp (maxDischargeDepth := 30) [h]
@[simp] theorem State.closeDivert_keeps (h : Keeps a s) (n : Nat) (c : Context) : Keeps a (s.closeDivert n c) := by
  unfold State.closeDivert; simp (maxDischargeDepth := 30) [h]
theorem State.moveDivert_keeps (h : Keeps a s) (n : Nat) (c : Context) (x : Side) (substituted : Bool)
    (open' : s.ctx n = some c) : Keeps a (s.moveDivert n c x substituted) := by
  refine State.setContext_keeps (c := c) ?_ n ?_ rfl
  · simp [h]
  · simpa [State.ctx] using open'
theorem State.divertChoice_keeps (h : Keeps a s) (t : State) (e : s.divertChoice = some t) : Keeps a t := by
  unfold State.divertChoice at e
  split at e
  · next n _ _ =>
    split at e
    · cases e
    · next c hc =>
      split at e
      · cases e
        exact State.closeDivert_keeps h n c
      · (repeat' split at e) <;> cases e <;> exact State.moveDivert_keeps h n c _ _ hc
  · cases e
theorem State.tryReject_keeps (h : Keeps a s)  (t : State) (e : s.tryReject = some t) : Keeps a t := by
  unfold State.tryReject at e; (try dsimp only at e); (repeat' split at e) <;> first | (simp at e; done) | (obtain rfl := Option.some.inj e; simp (maxDischargeDepth := 30) [h])
@[simp] theorem State.foreignArrival_keeps (h : Keeps a s) (c : Cond) (d1 d2 : Byte) : Keeps a (s.foreignArrival c d1 d2) := by
  unfold State.foreignArrival; simp (maxDischargeDepth := 30) [h]
@[simp] theorem State.arrival_keeps (h : Keeps a s)  : Keeps a (s.arrival) := by
  unfold State.arrival; (try dsimp only); (repeat' split) <;> simp (maxDischargeDepth := 30) [h]
@[simp] theorem State.divertFreed_keeps (h : Keeps a s)  : Keeps a (s.divertFreed) := by
  unfold State.divertFreed; (repeat' split) <;> simp (maxDischargeDepth := 30) [h]
@[simp] theorem State.pump_keeps (h : Keeps a s) (x : Side) : Keeps a (s.pump x) := by
  unfold State.pump; (try dsimp only); (repeat' split) <;> simp (maxDischargeDepth := 30) [h]
@[simp] theorem State.queueLift_keeps (h : Keeps a s) (x : Side) (c : LiftCmd) : Keeps a (s.queueLift x c) := by
  unfold State.queueLift; simp (maxDischargeDepth := 30) [h]
@[simp] theorem State.echoed_keeps (h : Keeps a s) (x : Side) : Keeps a (s.echoed x) := by
  unfold State.echoed; simp (maxDischargeDepth := 30) [h]
@[simp] theorem State.raiseLift_keeps (h : Keeps a s) (x : Side) (c : Cond) (d : Byte) : Keeps a (s.raiseLift x c d) := by
  unfold State.raiseLift; simp (maxDischargeDepth := 30) [h]
@[simp] theorem State.strayFrame_keeps (h : Keeps a s) (x : Side) : Keeps a (s.strayFrame x) := by
  unfold State.strayFrame; simp (maxDischargeDepth := 30) [h]
@[simp] theorem State.releaseStops_keeps (h : Keeps a s) (stops : List Stop) : Keeps a (s.releaseStops stops) := by
  unfold State.releaseStops
  refine foldl_keeps _ (fun t a ht => ?_) _ _ h
  split <;> simp [ht]
@[simp] theorem State.discardPlan_keeps (h : Keeps a s) (x : Side) : Keeps a (s.discardPlan x) := by
  unfold State.discardPlan; (repeat' split) <;> simp (maxDischargeDepth := 30) [h]
@[simp] theorem State.parkLift_keeps (h : Keeps a s) (x : Side) : Keeps a (s.parkLift x) := by
  unfold State.parkLift; simp (maxDischargeDepth := 30) [h]
@[simp] theorem State.wakeLift_keeps (h : Keeps a s) (x : Side) : Keeps a (s.wakeLift x) := by
  unfold State.wakeLift; simp (maxDischargeDepth := 30) [h]
@[simp] theorem State.becomeIdle_keeps (h : Keeps a s) (x : Side) : Keeps a (s.becomeIdle x) := by
  unfold State.becomeIdle; (try dsimp only); (repeat' split) <;> simp (maxDischargeDepth := 30) [h]
@[simp] theorem State.sendTrip_keeps (h : Keeps a s) (x : Side) (p : Plan) : Keeps a (s.sendTrip x p) := by
  unfold State.sendTrip; (try dsimp only); simp (maxDischargeDepth := 30) [h]
theorem State.trySend_keeps (h : Keeps a s) (x : Side) (t : State) (e : s.trySend x = some t) : Keeps a t := by
  unfold State.trySend at e; (repeat' split at e) <;> first | (simp at e; done) | (obtain rfl := Option.some.inj e; simp (maxDischargeDepth := 30) [h])
@[simp] theorem State.handPlan_keeps (h : Keeps a s) (x : Side) (p : Plan) : Keeps a (s.handPlan x p) := by
  unfold State.handPlan; (repeat' split) <;> simp (maxDischargeDepth := 30) [h]
@[simp] theorem State.endStop_keeps (h : Keeps a s) (x : Side) (i : Nat) (o : StopOutcome) : Keeps a (s.endStop x i o) := by
  unfold State.endStop; simp (maxDischargeDepth := 30) [h]
@[simp] theorem State.turnBack_keeps (h : Keeps a s) (n p : Nat) (r : ReasonCode) : Keeps a (s.turnBack n p r) :=
  State.updateContext_keeps h n _ (fun c => by split <;> rfl)

/-- A card moved by a trip keeps its level. -/
@[simp] theorem Context.level_moved (c : Context) (ph : Phase) (p : Nat) (t : Word) (trip : Byte) :
    (c.moved ph p t trip).level = c.level := by
  simp [Context.moved]
@[simp] theorem State.passHoldings_keeps (h : Keeps a s) (x : Side) (st : Stop) : Keeps a (s.passHoldings x st) := by
  unfold State.passHoldings; (try dsimp only); (repeat' split) <;> simp (maxDischargeDepth := 30) [h]
@[simp] theorem State.passQuiet_keeps (h : Keeps a s) (x : Side) (i : Nat) (st : Stop) : Keeps a (s.passQuiet x i st) := by
  unfold State.passQuiet; simp (maxDischargeDepth := 30) [h]
@[simp] theorem State.passStop_keeps (h : Keeps a s) (x : Side) (i : Nat) (st : Stop) : Keeps a (s.passStop x i st) := by
  unfold State.passStop; simp (maxDischargeDepth := 30) [h]
@[simp] theorem State.proceedStop_keeps (h : Keeps a s) (x : Side) (i : Nat) (st : Stop) : Keeps a (s.proceedStop x i st) := by
  unfold State.proceedStop; (repeat' split) <;> simp (maxDischargeDepth := 30) [h]
@[simp] theorem State.takeDecision_keeps (h : Keeps a s) (x : Side) (i : Nat) (st : Stop) (d : Decision) : Keeps a (s.takeDecision x i st d) := by
  unfold State.takeDecision; (repeat' split) <;> simp (maxDischargeDepth := 30) [h]
theorem State.retest_keeps (h : Keeps a s) (x : Side) (w : Prompt) (t : State) (e : s.retest x w = some t) : Keeps a t := by
  unfold State.retest at e; (repeat' split at e) <;> first | (simp at e; done) | (obtain rfl := Option.some.inj e; simp (maxDischargeDepth := 30) [h])
@[simp] theorem State.loadOk_keeps (h : Keeps a s) (x : Side) (st : Stop) (trip : Byte) : Keeps a (s.loadOk x st trip) := by
  unfold State.loadOk; (try dsimp only); (repeat' split) <;> simp (maxDischargeDepth := 30) [h]
@[simp] theorem State.unloadOk_keeps (h : Keeps a s) (x : Side) (st : Stop) (trip : Byte) : Keeps a (s.unloadOk x st trip) := by
  unfold State.unloadOk; (try dsimp only); (repeat' split) <;> simp (maxDischargeDepth := 30) [h]
@[simp] theorem State.deckLost_keeps (h : Keeps a s) (x : Side) (d : Deck) : Keeps a (s.deckLost x d) := by
  unfold State.deckLost; (repeat' split) <;> simp (maxDischargeDepth := 30) [h]
@[simp] theorem State.unloadBlocked_keeps (h : Keeps a s) (x : Side) (st : Stop) : Keeps a (s.unloadBlocked x st) := by
  unfold State.unloadBlocked; (try dsimp only); (repeat' split) <;> simp (maxDischargeDepth := 30) [h]
@[simp] theorem State.stopEffect_keeps (h : Keeps a s) (x : Side) (st : Stop) (trip : Byte) (r : StopResult) : Keeps a (s.stopEffect x st trip r) := by
  unfold State.stopEffect; (try dsimp only); (repeat' split) <;> simp (maxDischargeDepth := 30) [h]
@[simp] theorem State.stopResult_keeps (h : Keeps a s) (x : Side) (st : Stop) (trip : Byte) (r : StopResult) : Keeps a (s.stopResult x st trip r) := by
  unfold State.stopResult; simp (maxDischargeDepth := 30) [h]
@[simp] theorem State.unlockStop_keeps (h : Keeps a s) (st : Stop) : Keeps a (s.unlockStop st) := by
  unfold State.unlockStop; (repeat' split) <;> simp (maxDischargeDepth := 30) [h]
@[simp] theorem State.enterFaulted_keeps (h : Keeps a s) (x : Side) : Keeps a (s.enterFaulted x) := by
  unfold State.enterFaulted; (try dsimp only); simp (maxDischargeDepth := 30) [h]
@[simp] theorem State.enterSyncing_keeps (h : Keeps a s) (x : Side) : Keeps a (s.enterSyncing x) := by
  unfold State.enterSyncing; simp (maxDischargeDepth := 30) [h]
@[simp] theorem State.loseLink_keeps (h : Keeps a s) (x : Side) (detail : Byte) : Keeps a (s.loseLink x detail) := by
  unfold State.loseLink; (try dsimp only); (repeat' split) <;> simp (maxDischargeDepth := 30) [h]
@[simp] theorem State.hear_keeps (h : Keeps a s) (x : Side) : Keeps a (s.hear x) := by
  unfold State.hear; (repeat' split) <;> simp (maxDischargeDepth := 30) [h]
@[simp] theorem State.settleStop_keeps (h : Keeps a s) (x : Side) (i : Nat) (st : Stop) (trip : Byte) (occupied : Bool) : Keeps a (s.settleStop x i st trip occupied) := by
  unfold State.settleStop; simp (maxDischargeDepth := 30) [h]
@[simp] theorem State.unlockTrip_keeps (h : Keeps a s) (x : Side) : Keeps a (s.unlockTrip x) := by
  unfold State.unlockTrip
  split
  · exact h
  · exact foldl_keeps _ (fun t a ht => State.unlockStop_keeps ht a) _ _ h
@[simp] theorem State.checkDeck_keeps (h : Keeps a s) (x : Side) (d : Deck) (occupied : Bool) : Keeps a (s.checkDeck x d occupied) := by
  unfold State.checkDeck; (try dsimp only); (repeat' split) <;> simp (maxDischargeDepth := 30) [h]
@[simp] theorem State.endTripAwaitReady_keeps (h : Keeps a s) (x : Side) : Keeps a (s.endTripAwaitReady x) := by
  unfold State.endTripAwaitReady; simp (maxDischargeDepth := 30) [h]
theorem State.settleStops_keeps (h : Keeps a s) (x : Side) (front rear : Bool) (is : List Nat) :
    Keeps a (s.settleStops x front rear is).1 := by
  induction is generalizing s with
  | nil => exact h
  | cons i is ih =>
    unfold State.settleStops
    split
    · exact ih h
    · exact ih (State.settleStop_keeps h _ _ _ _ _)
theorem State.passOthers_keeps (h : Keeps a s) (x : Side) (kept : List Nat) (l : List (Nat × Stop)) :
    Keeps a (s.passOthers x kept l) := by
  induction l generalizing s with
  | nil => exact h
  | cons a l ih =>
    unfold State.passOthers
    exact ih (ite_keeps h (State.passQuiet_keeps h _ _ _))
theorem State.afterCheck_keeps (h : Keeps a s) (x : Side) (level : Nat) (trip : Byte) :
    Keeps a (s.afterCheck x level trip).1 := by
  unfold State.afterCheck; (try dsimp only); (repeat' split) <;>
    simp (maxDischargeDepth := 30) [h, State.passOthers_keeps]
@[simp] theorem State.reconcile_keeps (h : Keeps a s) (x : Side) (level : Nat) (front rear : Bool) (trip : Byte) (last : Nat) : Keeps a (s.reconcile x level front rear trip last) := by
  have h1 : Keeps a (s.settleStops x front rear (s.settled x trip last)).1 := State.settleStops_keeps h _ _ _ _
  have h2 := State.checkDeck_keeps (State.checkDeck_keeps (State.unlockTrip_keeps h1 x) x .front front) x .rear rear
  have h3 := State.afterCheck_keeps h2 x level trip
  unfold State.reconcile
  dsimp only
  split
  · exact h3
  · exact State.raiseLift_keeps h3 _ _ _
@[simp] theorem State.planReturns_keeps (h : Keeps a s) (x : Side) (p : Plan) : Keeps a (s.planReturns x p) := by
  unfold State.planReturns; (repeat' split) <;> simp (maxDischargeDepth := 30) [h]
@[simp] theorem State.reservePlan_keeps (h : Keeps a s) (p : Plan) : Keeps a (s.reservePlan p) := by
  unfold State.reservePlan
  refine foldl_keeps _ (fun t a ht => ?_) _ _ h
  split <;> simp [ht]
theorem State.tryPlan_keeps (h : Keeps a s) (x : Side) (t : State) (e : s.tryPlan x = some t) : Keeps a t := by
  unfold State.tryPlan at e; (repeat' split at e) <;> first | (simp at e; done) | (obtain rfl := Option.some.inj e; simp (maxDischargeDepth := 30) [h])
@[simp] theorem State.syncLane_keeps (h : Keeps a s) (old : State) (p : Nat) : Keeps a (s.syncLane old p) := by
  have ht : Keeps a { s with places := s.places.setIfInBounds p (s.retimed p (s.place p)) } := h.of_book rfl
  exact State.copyMirror_keeps ht old p
@[simp] theorem State.changeNode_keeps (h : Keeps a s) (level : Nat) (f : Node → Node) : Keeps a (s.changeNode level f) := by
  have hu : Keeps a ((levelLanes level).foldl (fun v p => (v.syncLane s p).tellAll
      (toldStatus p ++ toldStop p))
      (s.updateNode level f)) :=
    foldl_keeps _ (fun v p hv => State.tellAll_keeps (State.syncLane_keeps hv _ _) _) _ _ (State.updateNode_keeps h _ _)
  unfold State.changeNode
  dsimp only
  split
  · exact State.updateNode_keeps h _ _
  · split
    · exact hu
    · exact State.dropHeld_keeps hu _
@[simp] theorem State.reassign_keeps (h : Keeps a s) (level : Nat) : Keeps a (s.reassign level) := by
  unfold State.reassign; (try dsimp only); (repeat' split) <;> simp (maxDischargeDepth := 30) [h]
@[simp] theorem State.recompute_keeps (h : Keeps a s)  : Keeps a (s.recompute) := by
  exact foldl_keeps _ (fun t a ht => State.reassign_keeps ht a) _ _ h
@[simp] theorem State.recomputeAfterDeath_keeps (h : Keeps a s) (p : Port) : Keeps a (s.recomputeAfterDeath p) := by
  unfold State.recomputeAfterDeath; (try dsimp only); (repeat' split) <;> simp (maxDischargeDepth := 30) [h]
@[simp] theorem State.nodeDies_keeps (h : Keeps a s) (level : Nat) : Keeps a (s.nodeDies level) := by
  unfold State.nodeDies; (try dsimp only); simp (maxDischargeDepth := 30) [h]
@[simp] theorem State.revive_keeps (h : Keeps a s) (level : Nat) (p : Port) : Keeps a (s.revive level p) := by
  unfold State.revive; simp (maxDischargeDepth := 30) [h]
@[simp] theorem State.firstAnswer_keeps (h : Keeps a s) (level : Nat) : Keeps a (s.firstAnswer level) := by
  unfold State.firstAnswer; simp (maxDischargeDepth := 30) [h]
@[simp] theorem State.startExchange_keeps (h : Keeps a s) (p : Port) (level : Nat) (what : Sending) : Keeps a (s.startExchange p level what) := by
  unfold State.startExchange; simp (maxDischargeDepth := 30) [h]
@[simp] theorem State.sendCommand_keeps (h : Keeps a s) (p : Port) (level : Nat) : Keeps a (s.sendCommand p level) := by
  unfold State.sendCommand; (try dsimp only); (repeat' split) <;> simp (maxDischargeDepth := 30) [h]
@[simp] theorem State.advanceVisit_keeps (h : Keeps a s) (p : Port) : Keeps a (s.advanceVisit p) := by
  unfold State.advanceVisit; (try dsimp only); (repeat' split) <;> simp (maxDischargeDepth := 30) [h]
@[simp] theorem State.visitPort_keeps (h : Keeps a s) (p : Port) : Keeps a (s.visitPort p) := by
  unfold State.visitPort; (try dsimp only); (repeat' split) <;> simp (maxDischargeDepth := 30) [h]
@[simp] theorem State.helloPort_keeps (h : Keeps a s) (p : Port) : Keeps a (s.helloPort p) := by
  unfold State.helloPort; (try dsimp only); (repeat' split) <;> simp (maxDischargeDepth := 30) [h]
@[simp] theorem State.answered_keeps (h : Keeps a s) (p : Port) (level : Nat) (next : VisitNext) : Keeps a (s.answered p level next) := by
  unfold State.answered; simp (maxDischargeDepth := 30) [h]
@[simp] theorem State.pollAnswer_keeps (h : Keeps a s) (p : Port) (level : Byte) (take : State → Nat → State) (h_take : ∀ t k, Keeps a t → Keeps a (take t k)) : Keeps a (s.pollAnswer p level take) := by
  unfold State.pollAnswer; (try dsimp only); (repeat' split) <;> simp (maxDischargeDepth := 30) [h, h_take]
@[simp] theorem State.numberedReport_keeps (h : Keeps a s) (level : Nat) (number : BitVec 4) (hand : State → State) (h_hand : ∀ t, Keeps a t → Keeps a (hand t)) : Keeps a (s.numberedReport level number hand) := by
  unfold State.numberedReport; (try dsimp only); (repeat' split) <;> simp (maxDischargeDepth := 30) [h, h_hand]
@[simp] theorem State.report_keeps (h : Keeps a s) (p : Port) (level : Byte) (number : BitVec 4) (hand : State → Nat → State) (h_hand : ∀ t k, Keeps a t → Keeps a (hand t k)) : Keeps a (s.report p level number hand) := by
  exact State.pollAnswer_keeps h _ _ _ (fun t k ht => State.numberedReport_keeps ht _ _ _ (fun u hu => h_hand u k hu))
@[simp] theorem State.grantReport_keeps (h : Keeps a s) (level : Nat) (matchesGrant : Grant → Bool) (act : State → Grant → State) (h_act : ∀ t g, Keeps a t → Keeps a (act t g)) : Keeps a (s.grantReport level matchesGrant act) := by
  unfold State.grantReport; (repeat' split) <;> simp (maxDischargeDepth := 30) [h, h_act]
@[simp] theorem State.commandAnswer_keeps (h : Keeps a s) (p : Port) (level : Nat) (number : BitVec 4) (take : State → State) (h_take : ∀ t, Keeps a t → Keeps a (take t)) : Keeps a (s.commandAnswer p level number take) := by
  unfold State.commandAnswer; (try dsimp only); (repeat' split) <;> simp (maxDischargeDepth := 30) [h, h_take]
@[simp] theorem State.resyncLane_keeps (h : Keeps a s) (p count : Nat) : Keeps a (s.resyncLane p count) := by
  unfold State.resyncLane; (try dsimp only); (repeat' split) <;> simp (maxDischargeDepth := 30) [h]
@[simp] theorem State.settleGrant_keeps (h : Keeps a s) (level : Nat) (g : Grant) (r : Settlement) : Keeps a (s.settleGrant level g r) := by
  unfold State.settleGrant; (repeat' split) <;> simp (maxDischargeDepth := 30) [h]
@[simp] theorem State.resync_keeps (h : Keeps a s) (level : Nat) (next : BitVec 4) (counts : LaneCounts) (held : Word) (last : LastEvent) : Keeps a (s.resync level next counts held last) := by
  unfold State.resync
  dsimp only
  refine foldl_keeps _ (fun t p ht => State.resyncLane_keeps ht _ _) _ _ ?_
  split <;> simp (maxDischargeDepth := 30) [h]
@[simp] theorem State.laneCounts_keeps (h : Keeps a s) (level : Nat) (counts : LaneCounts) : Keeps a (s.laneCounts level counts) := by
  refine foldl_keeps _ (fun t p ht => ?_) _ _ h
  split
  · exact State.setPlace_keeps ht _ _
  · exact ht
@[simp] theorem State.startChain_keeps (h : Keeps a s)  : Keeps a (s.startChain) := by
  unfold State.startChain
  refine State.transmit_keeps (State.transmit_keeps ?_ _) _
  exact h.of_book rfl
@[simp] theorem State.silenceChain_keeps (h : Keeps a s)  : Keeps a (s.silenceChain) := by
  exact h.of_book rfl
@[simp] theorem State.mapPlaces_keeps (h : Keeps a s) (f : Nat → Place → Place) : Keeps a (s.mapPlaces f) := by
  exact h.of_book rfl
@[simp] theorem State.writeMirrors_keeps (h : Keeps a s) (first n : Nat) : Keeps a (s.writeMirrors first n) :=
  State.write_keeps h _ _ (fun m _ => .inl (by unfold cardAddr; omega))
@[simp] theorem State.syncMirrors_keeps (h : Keeps a s) (old : State) : Keeps a (s.syncMirrors old) := by
  exact foldl_keeps _ (fun t p ht => State.copyMirror_keeps ht old p) _ _ h
@[simp] theorem State.flushPlaces_keeps (h : Keeps a s)  : Keeps a (s.flushPlaces) := by
  exact State.writeMirrors_keeps (State.mapPlaces_keeps h _) _ _
@[simp] theorem State.commitPlaces_keeps (h : Keeps a s)  : Keeps a (s.commitPlaces) := by
  unfold State.commitPlaces; simp (maxDischargeDepth := 30) [h]
@[simp] theorem State.losePlaces_keeps (h : Keeps a s) (clears : Bool) : Keeps a (s.losePlaces clears) := by
  unfold State.losePlaces; simp (maxDischargeDepth := 30) [h]
@[simp] theorem State.dropWork_keeps (h : Keeps a s) : Keeps a s.dropWork :=
  (State.discardPlan_keeps (State.discardPlan_keeps h .a) .b).trans
    (keeps_of_views rfl rfl rfl (fun _ _ => rfl) (fun _ => rfl) rfl (List.nil_sublist _))
@[simp] theorem State.adoptProfile_keeps (h : Keeps a s) (record : List Byte) : Keeps a (s.adoptProfile record) :=
  State.startChain_keeps (State.commitPlaces_keeps (State.setStore_keeps (State.dropWork_keeps h) _ rfl))
@[simp] theorem State.loseProfile_keeps (h : Keeps a s) (clears : Bool) : Keeps a (s.loseProfile clears) := by
  have dropped := State.dropWork_keeps h
  unfold State.loseProfile
  generalize s.dropWork = t at dropped
  have stored := State.setStore_keeps dropped { t.store with active := none } rfl
  exact State.silenceChain_keeps (State.losePlaces_keeps stored clears)
@[simp] theorem State.changeMode_keeps (h : Keeps a s) (m : Mode) : Keeps a (s.changeMode m) := h.of_book rfl
@[simp] theorem State.refuseRequest_keeps (h : Keeps a s)  : Keeps a (s.refuseRequest) := by
  unfold State.refuseRequest; (try dsimp only); simp (maxDischargeDepth := 30) [h]
@[simp] theorem State.enterRun_keeps (h : Keeps a s)  : Keeps a (s.enterRun) := by
  unfold State.enterRun; simp (maxDischargeDepth := 30) [h]
@[simp] theorem State.parkWhenIdle_keeps (h : Keeps a s) (x : Side) : Keeps a (s.parkWhenIdle x) := by
  unfold State.parkWhenIdle; (repeat' split) <;> simp (maxDischargeDepth := 30) [h]
@[simp] theorem State.enterConfig_keeps (h : Keeps a s)  : Keeps a (s.enterConfig) := by
  unfold State.enterConfig; simp (maxDischargeDepth := 30) [h]
@[simp] theorem State.requestedRun_keeps (h : Keeps a s)  : Keeps a (s.requestedRun) := by
  unfold State.requestedRun; (repeat' split) <;> simp (maxDischargeDepth := 30) [h]
@[simp] theorem State.requestedHold_keeps (h : Keeps a s)  : Keeps a (s.requestedHold) := by
  unfold State.requestedHold; (repeat' split) <;> simp (maxDischargeDepth := 30) [h]
@[simp] theorem State.requestedConfig_keeps (h : Keeps a s)  : Keeps a (s.requestedConfig) := by
  unfold State.requestedConfig; (repeat' split) <;> simp (maxDischargeDepth := 30) [h]
@[simp] theorem State.misuse_keeps (h : Keeps a s)  : Keeps a (s.misuse) := by
  unfold State.misuse; (try dsimp only); simp (maxDischargeDepth := 30) [h]
@[simp] theorem State.writeAcknowledge_keeps (h : Keeps a s) (src : Nat) (v : Byte) : Keeps a (s.writeAcknowledge src v) := by
  unfold State.writeAcknowledge; (try dsimp only); (repeat' split) <;> simp (maxDischargeDepth := 30) [h]
@[simp] theorem State.clearCauses_keeps (h : Keeps a s) (v : Word) : Keeps a (s.clearCauses v) := by
  unfold State.clearCauses; (try dsimp only); simp (maxDischargeDepth := 30) [h]
@[simp] theorem State.setEnables_keeps (h : Keeps a s) (v : Word) : Keeps a (s.setEnables v) := by
  unfold State.setEnables; (try dsimp only); simp (maxDischargeDepth := 30) [h]
@[simp] theorem State.writeRegister_keeps (h : Keeps a s) (offset : Nat) (v : Word) : Keeps a (s.writeRegister offset v) := by
  unfold State.writeRegister; (repeat' split) <;> simp (maxDischargeDepth := 30) [h]
@[simp] theorem State.startStall_keeps (h : Keeps a s)  : Keeps a (s.startStall) := by
  unfold State.startStall; (try dsimp only); (repeat' split) <;> simp (maxDischargeDepth := 30) [h]
@[simp] theorem State.cancelAtDivert_keeps (h : Keeps a s) (c : Context) : Keeps a (s.cancelAtDivert c) := by
  unfold State.cancelAtDivert; (repeat' split) <;> simp (maxDischargeDepth := 30) [h]
theorem State.cancelTarget_keeps (h : Keeps a s) (m : Nat) (c : Context) (t : State) (e : s.cancelTarget m c = some t) : Keeps a t := by
  unfold State.cancelTarget at e; (repeat' split at e) <;> first | (simp at e; done) | (obtain rfl := Option.some.inj e; simp (maxDischargeDepth := 30) [h])
@[simp] theorem State.makeForeign_keeps (h : Keeps a s) (m p : Nat) : Keeps a (s.makeForeign m p) := by
  unfold State.makeForeign; simp (maxDischargeDepth := 30) [h]
@[simp] theorem State.flushCard_keeps (h : Keeps a s) (m : Nat) : Keeps a (s.flushCard m) := by
  unfold State.flushCard; (try dsimp only); (repeat' split) <;> simp (maxDischargeDepth := 30) [h]
@[simp] theorem State.flushCards_keeps (h : Keeps a s)  : Keeps a (s.flushCards) := by
  exact foldl_keeps _ (fun t m ht => State.flushCard_keeps ht m) _ _ h
@[simp] theorem State.bar_keeps (h : Keeps a s) (p : Nat) : Keeps a (s.bar p) := by
  unfold State.bar; (try dsimp only); (repeat' split) <;> simp (maxDischargeDepth := 30) [h]
@[simp] theorem State.unbarKeep_keeps (h : Keeps a s) (p : Nat) : Keeps a (s.unbarKeep p) := by
  unfold State.unbarKeep; (try dsimp only); (repeat' split) <;> simp (maxDischargeDepth := 30) [h]
@[simp] theorem State.endClaims_keeps (h : Keeps a s) (p : Nat) : Keeps a (s.endClaims p) := by
  unfold State.endClaims; (repeat' split) <;> simp (maxDischargeDepth := 30) [h]
@[simp] theorem State.loseEntry_keeps (h : Keeps a s) (p : Nat) (e : Entry) : Keeps a (State.loseEntry p s e) := by
  unfold State.loseEntry; (repeat' split) <;> simp (maxDischargeDepth := 30) [h]
@[simp] theorem State.unbarClear_keeps (h : Keeps a s) (p : Nat) : Keeps a (s.unbarClear p) := by
  exact State.tellAll_keeps (State.setPlace_keeps
    (foldl_keeps _ (fun t e ht => State.loseEntry_keeps ht p e) _ _ (State.setEntries_keeps (State.endClaims_keeps h p) _ _)) _ _) _
@[simp] theorem State.raiseStoreLost_keeps (h : Keeps a s) (kind : Byte) (card : Nat) : Keeps a (s.raiseStoreLost kind card) := by
  unfold State.raiseStoreLost; simp (maxDischargeDepth := 30) [h]
@[simp] theorem State.forgetFailures_keeps (h : Keeps a s) : Keeps a s.forgetFailures := State.setStore_keeps h _ rfl
@[simp] theorem State.markFailed_keeps (h : Keeps a s) (slot : Nat) : Keeps a (s.markFailed slot) :=
  State.setStore_keeps h _ rfl
@[simp] theorem State.ackAt_keeps (h : Keeps a s) (p : Port) (level : Byte) (number : BitVec 4) : Keeps a (s.ackAt p level number) := by
  unfold State.ackAt; (try dsimp only); (repeat' split) <;> simp (maxDischargeDepth := 30) [h]
@[simp] theorem State.resyncAt_keeps (h : Keeps a s) (p : Port) (level : Byte) (number next : BitVec 4) (counts : LaneCounts) (held : Word) (last : LastEvent) : Keeps a (s.resyncAt p level number next counts held last) := by
  unfold State.resyncAt
  split
  · split
    · exact State.commandAnswer_keeps h _ _ _ _ (fun t ht => State.resync_keeps ht _ _ _ _ _)
    · exact h
  · exact h
@[simp] theorem State.unansweredAt_keeps (h : Keeps a s) (p : Port) : Keeps a (s.unansweredAt p) := by
  unfold State.unansweredAt; (try dsimp only); (repeat' split) <;> simp (maxDischargeDepth := 30) [h]
@[simp] theorem State.checkErrorAt_keeps (h : Keeps a s) (p : Port) : Keeps a (s.checkErrorAt p) := by
  unfold State.checkErrorAt; (try dsimp only); (repeat' split) <;> simp (maxDischargeDepth := 30) [h]
@[simp] theorem State.grantOverdue_keeps (h : Keeps a s) (level : Nat) : Keeps a (s.grantOverdue level) := by
  unfold State.grantOverdue; (repeat' split) <;> simp (maxDischargeDepth := 30) [h]
@[simp] theorem State.takeStatus_keeps (h : Keeps a s) (x : Side) (accepted : BitVec 4) : Keeps a (s.takeStatus x accepted) := by
  unfold State.takeStatus; (try dsimp only); (repeat' split) <;> simp (maxDischargeDepth := 30) [h]
@[simp] theorem State.takeArrived_keeps (h : Keeps a s) (x : Side) (trip : Byte) (stop : Nat) : Keeps a (s.takeArrived x trip stop) := by
  unfold State.takeArrived; (repeat' split) <;> simp (maxDischargeDepth := 30) [h]
@[simp] theorem State.liftFaults_keeps (h : Keeps a s) (x : Side) (code : Byte) : Keeps a (s.liftFaults x code) := by
  unfold State.liftFaults; simp (maxDischargeDepth := 30) [h]
@[simp] theorem State.takeStopDone_keeps (h : Keeps a s) (x : Side) (trip : Byte) (stop : Nat) (result : StopResult) : Keeps a (s.takeStopDone x trip stop result) := by
  unfold State.takeStopDone; (try dsimp only); (repeat' split) <;> simp (maxDischargeDepth := 30) [h]
@[simp] theorem State.takeTripEnd_keeps (h : Keeps a s) (x : Side) (trip : Byte) : Keeps a (s.takeTripEnd x trip) := by
  unfold State.takeTripEnd; (repeat' split) <;> simp (maxDischargeDepth := 30) [h]
@[simp] theorem State.takeReady_keeps (h : Keeps a s) (x : Side) : Keeps a (s.takeReady x) := by
  unfold State.takeReady; (repeat' split) <;> simp (maxDischargeDepth := 30) [h]
@[simp] theorem State.takeParkedAck_keeps (h : Keeps a s) (x : Side) : Keeps a (s.takeParkedAck x) := by
  unfold State.takeParkedAck; (repeat' split) <;> simp (maxDischargeDepth := 30) [h]
@[simp] theorem State.takeState_keeps (h : Keeps a s) (x : Side) (level : Nat) (front rear : Bool) (trip : Byte) (last : Nat) (fault : Byte) : Keeps a (s.takeState x level front rear trip last fault) := by
  unfold State.takeState; (try dsimp only); (repeat' split) <;> simp (maxDischargeDepth := 30) [h]
@[simp] theorem State.resendCommand_keeps (h : Keeps a s) (x : Side) : Keeps a (s.resendCommand x) := by
  unfold State.resendCommand; (try dsimp only); (repeat' split) <;> simp (maxDischargeDepth := 30) [h]
@[simp] theorem State.repeatStateAsk_keeps (h : Keeps a s) (x : Side) : Keeps a (s.repeatStateAsk x) := by
  unfold State.repeatStateAsk; (try dsimp only); (repeat' split) <;> simp (maxDischargeDepth := 30) [h]
@[simp] theorem State.wakeFails_keeps (h : Keeps a s) (x : Side) : Keeps a (s.wakeFails x) := by
  unfold State.wakeFails; (repeat' split) <;> simp (maxDischargeDepth := 30) [h]
@[simp] theorem State.overrunEntry_keeps (h : Keeps a s) (e : Entry) : Keeps a (s.overrunEntry e) := by
  unfold State.overrunEntry; (repeat' split) <;> simp (maxDischargeDepth := 30) [h]
@[simp] theorem State.deadlineExpires_keeps (h : Keeps a s) (x : Side) : Keeps a (s.deadlineExpires x) := by
  unfold State.deadlineExpires
  split
  · exact h
  · split
    · exact foldl_keeps _ (fun t e ht => State.overrunEntry_keeps ht e) _ _
        (State.raiseLift_keeps (State.updateLift_keeps h _ _) _ _ _)
    · exact h
@[simp] theorem State.arriveIfClear_keeps (h : Keeps a s)  : Keeps a (s.arriveIfClear) := by
  unfold State.arriveIfClear; (repeat' split) <;> simp (maxDischargeDepth := 30) [h]
@[simp] theorem State.divertReaches_keeps (h : Keeps a s) (x : Side) : Keeps a (s.divertReaches x) := by
  unfold State.divertReaches; (try dsimp only); (repeat' split) <;> simp (maxDischargeDepth := 30) [h]
@[simp] theorem State.divertEnds_keeps (h : Keeps a s)  : Keeps a (s.divertEnds) := by
  unfold State.divertEnds; (repeat' split) <;> simp (maxDischargeDepth := 30) [h]
@[simp] theorem State.takenByHand_keeps (h : Keeps a s)  : Keeps a (s.takenByHand) := by
  unfold State.takenByHand; (try dsimp only); (repeat' split) <;> simp (maxDischargeDepth := 30) [h]
@[simp] theorem State.senseSpur_keeps (h : Keeps a s) (p count : Nat) : Keeps a (s.senseSpur p count) := by
  unfold State.senseSpur; (try dsimp only); simp (maxDischargeDepth := 30) [h]
@[simp] theorem State.mismatchExpires_keeps (h : Keeps a s) (p : Nat) : Keeps a (s.mismatchExpires p) := by
  unfold State.mismatchExpires; (try dsimp only); (repeat' split) <;> simp (maxDischargeDepth := 30) [h]
@[simp] theorem State.endRelease_keeps (h : Keeps a s)  : Keeps a (s.endRelease) := by
  unfold State.endRelease; (try dsimp only); simp (maxDischargeDepth := 30) [h]
@[simp] theorem State.compareRead_keeps (h : Keeps a s) (n : Nat) (c : Context) (r : Read) : Keeps a (s.compareRead n c r) := by
  unfold State.compareRead; (repeat' split) <;> simp (maxDischargeDepth := 30) [h]
@[simp] theorem State.passCard_keeps (h : Keeps a s) (n : Nat) (c : Context) : Keeps a (s.passCard n c) := by
  unfold State.passCard; (repeat' split) <;> simp (maxDischargeDepth := 30) [h]
@[simp] theorem State.passes_keeps (h : Keeps a s)  : Keeps a (s.passes) := by
  unfold State.passes; (try dsimp only); (repeat' split) <;> simp (maxDischargeDepth := 30) [h]
@[simp] theorem State.overdue_keeps (h : Keeps a s)  : Keeps a (s.overdue) := by
  unfold State.overdue; (try dsimp only); (repeat' split) <;> simp (maxDischargeDepth := 30) [h]
@[simp] theorem State.stallExpires_keeps (h : Keeps a s)  : Keeps a (s.stallExpires) := by
  unfold State.stallExpires; (try dsimp only); (repeat' split) <;> simp (maxDischargeDepth := 30) [h]

/-! ### Settling (R7) -/
theorem State.runRetry_keeps (h : Keeps a s) (r : Retry) (t : State) (e : s.runRetry r = some t) : Keeps a t := by
  cases r
  · exact State.walk_keeps h t e
  · exact State.tryMerge_keeps h t e
  · exact State.tryPlan_keeps h _ t e
  · exact State.retest_keeps h _ _ t e
  · exact State.trySend_keeps h _ t e
  · exact State.divertChoice_keeps h t e
  · exact State.tryReject_keeps h t e

theorem State.act_keeps (h : Keeps a s) (r : Retry) : Keeps a (s.act r) := by
  have ht : Keeps a { s with wake := s.wake.filter (fun q => q != r) } := h.of_book rfl
  unfold State.act
  dsimp only
  cases e : State.runRetry { s with wake := s.wake.filter (fun q => q != r) } r with
  | none => exact ht
  | some t => exact State.runRetry_keeps ht r t e

theorem State.settle_keeps (k : Nat) (h : Keeps a s) : Keeps a (State.settle k s) := by
  induction k generalizing s with
  | zero => exact h.of_book rfl
  | succ k ih =>
    unfold State.settle
    split
    · exact h.of_book rfl
    · exact ih (State.act_keeps h _)
    · refine ih (State.act_keeps ?_ _)
      exact h.of_book rfl

@[simp] theorem State.resolved_keeps (h : Keeps a s) : Keeps a s.resolved := State.settle_keeps _ h


end
end Sys2Proof.Machine
end

section
/-! PROOF. The cards that the examiner takes or the profile store ends, the aisle computer's writes, and INIT: the book-keeping of
every command (the statements EveryCommandCompletes and StepKeepsRoster). -/

namespace Sys2Proof.Machine

/-! ### A list of checks (R28, R58, R172) -/

theorem firstFailure_eq_none (l : List Refused) : firstFailure l = none ↔ ∀ r ∈ l, r = none := by
  induction l with
  | nil => simp [firstFailure]
  | cons r l ih => cases r <;> simp [firstFailure, ih]

theorem check_eq_none (b : Bool) (r : ReasonCode) (d : Byte) : check b r d = none ↔ b = true := by
  cases b <;> simp [check]

/-- A valid record has at most 40 levels (R170, item 3). -/
theorem recByte_levels_le {r : List Byte} (valid : checkRecord r = none) : recByte r 0x02 ≤ 40 := by
  simp only [checkRecord, Option.map_eq_none_iff, List.find?_eq_none] at valid
  have item := valid (3, decide (2 ≤ recByte r 0x02 ∧ recByte r 0x02 ≤ 40)) (by simp [recordItems])
  simp at item
  exact item.2

/-- The active profile has at most 40 levels. -/
theorem State.levels_le {s : State} (sound : s.store.Sound) : s.levels ≤ 40 := by
  unfold State.levels State.profileByte
  cases active : s.store.active with
  | none => simp
  | some r => simpa using recByte_levels_le (sound.active r active)

section
variable {a s t : State} {n : Nat}

/-! ### A card in hand is finished or taken -/

/-- From `a`, where card `n` is in hand, to `s`, where it is not any more: the queue stands and the books are in order. -/
structure Settles (n : Nat) (a s : State) : Prop where
  pending : s.pending = a.pending
  roster : Roster a → InHand a n → Roster s

theorem Keeps.settles (h : Keeps a s) (k : Settles n s t) : Settles n a t :=
  ⟨k.pending.trans h.pending, fun r hn => k.roster (h.roster r) (h.hand n hn)⟩

theorem Settles.keeps (h : Settles n a s) (k : Keeps s t) : Settles n a t :=
  ⟨k.pending.trans h.pending, fun r hn => k.roster (h.roster r hn)⟩

theorem State.finishCard_settles (s : State) (n : Nat) (final : Byte) (r : ReasonCode) (detail : Byte) (examined : Word)
    (isFinal : cardFinal final = true) : Settles n s (s.finishCard n final r detail examined) := by
  have written (w : State) (hw : w = s.writeCard n 32
      ([reasonByte r, detail, 0x00, 0x00] ++ bytes32 examined ++ bytes32 0 ++ bytes32 s.stamp ++ [0x00])) :
      Settles n s ((w.setCardState n final).appendFinish n) := by
    subst hw
    refine ⟨rfl, fun ro hn => ro.finish hn.slot hn.unfinished hn.unposted hn.idle rfl rfl ?_ (fun m ne => ?_) hn.closed
      (fun _ _ => rfl) rfl rfl⟩
    · refine Eq.trans (congrArg cardFinal (?_ : _ = final)) isFinal
      exact State.cardState_setCardState hn.slot _ _
    · refine (State.cardState_setCardState_ne _ final ne).trans ?_
      exact State.cardState_writeCard s n 32 m _ (by omega) (by simp [bytes32])
  unfold State.finishCard
  dsimp only
  split
  · exact (written _ rfl).keeps (State.setBoard_keeps (Keeps.refl _) _ rfl rfl rfl)
  · exact written _ rfl

theorem State.finishNow_settles (s : State) (n : Nat) (final : Byte) (r : ReasonCode) (detail : Byte)
    (isFinal : cardFinal final = true) : Settles n s (s.finishNow n final r detail) :=
  State.finishCard_settles s n final r detail _ isFinal

theorem State.refuse_settles (s : State) (n : Nat) (r : ReasonCode) (detail : Byte) : Settles n s (s.refuse n r detail) :=
  State.finishNow_settles s n _ r detail (by decide)

theorem State.done_settles (s : State) (n : Nat) (detail : Byte) : Settles n s (s.done n detail) :=
  State.finishNow_settles s n _ _ detail (by decide)

/-- A card in hand becomes TAKEN, with an order of a level of the aisle or with the store operation. -/
theorem State.setCardState_taken_settles (hn : InHand s n) (r : Roster s) :
    (∀ m, m ≠ n → (s.setCardState n cardTaken).cardState m = s.cardState m) ∧
      (s.setCardState n cardTaken).cardState n = cardTaken ∧ n ∉ s.board.finishList :=
  ⟨fun _ ne => State.cardState_setCardState_ne s _ ne, State.cardState_setCardState hn.slot _ _, fun listed => by
    have := (r.finished.2 n listed).2
    rw [hn.unfinished] at this
    cases this⟩

theorem State.accept_settles (s : State) (n : Nat) (k : OrderKind) (level : 1 ≤ s.cardLevel n ∧ s.cardLevel n ≤ 40) :
    Settles n s (s.accept n k) := by
  have opened : Settles n s ((s.setCardState n cardTaken).setContext n (some (s.newContext n k))) := by
    refine ⟨rfl, fun r hn => ?_⟩
    obtain ⟨others, self, unlisted⟩ := State.setCardState_taken_settles hn r
    have ctxOther (m : Nat) (ne : m ≠ n) :
        ((s.setCardState n cardTaken).setContext n (some (s.newContext n k))).ctx m = s.ctx m :=
      State.ctx_setContext_ne _ _ _ _ ne.symm
    have ctxSelf : ((s.setCardState n cardTaken).setContext n (some (s.newContext n k))).ctx n = some (s.newContext n k) :=
      State.ctx_setContext_self _ _ _ hn.slot
    refine ⟨⟨r.posted.1, fun m hm => ?_⟩, ⟨r.finished.1, fun m hm => ?_⟩, fun m c hc => ?_, fun m c hc => ?_, fun o ho => ?_, r.asks⟩
    · exact ⟨(r.posted.2 m hm).1, (others m (fun e => hn.unposted (e ▸ hm))).trans (r.posted.2 m hm).2⟩
    · exact ⟨(r.finished.2 m hm).1,
        (congrArg cardFinal (others m (fun e => unlisted (e ▸ hm)))).trans (r.finished.2 m hm).2⟩
    · by_cases e : m = n
      · exact e ▸ self
      · exact (others m e).trans (r.taken m c (ctxOther m e ▸ hc))
    · by_cases e : m = n
      · subst e
        rw [ctxSelf] at hc
        cases hc
        exact level
      · exact r.levels m c (ctxOther m e ▸ hc)
    · have ne := hn.idle o ho
      exact ⟨(r.storing o ho).1, (others _ ne).trans (r.storing o ho).2.1, (ctxOther _ ne).trans (r.storing o ho).2.2⟩
  unfold State.accept
  dsimp only
  split
  · refine opened.keeps ?_
    unfold State.startStall
    exact ite_keeps (State.setRelease_keeps (Keeps.refl _) _) (Keeps.refl _)
  · exact opened

/-- A card all of whose checks pass names a level of the aisle (R28). -/
theorem State.cardLevel_of_orderCheck {k : OrderKind} (passed : s.orderCheck n k = none) :
    1 ≤ s.cardLevel n ∧ s.cardLevel n ≤ s.levels := by
  rw [State.orderCheck, firstFailure_eq_none] at passed
  have fields : s.badField n k = none := passed _ (by simp)
  rw [State.badField, firstFailure_eq_none] at fields
  have level : check (decide (1 ≤ s.cardLevel n ∧ s.cardLevel n ≤ s.levels)) .badField 12 = none := fields _ (by simp)
  simpa [check_eq_none] using level

theorem State.examineOrder_settles (sound : s.store.Sound) (n : Nat) (k : OrderKind) : Settles n s (s.examineOrder n k) := by
  unfold State.examineOrder
  split
  · exact State.refuse_settles s n _ _
  · next passed =>
    have level := State.cardLevel_of_orderCheck passed
    exact State.accept_settles s n k ⟨level.1, level.2.trans (State.levels_le sound)⟩

theorem State.examineCancel_settles (s : State) (n : Nat) : Settles n s (s.examineCancel n) := by
  unfold State.examineCancel
  split
  · exact State.refuse_settles s n _ _
  · split
    · exact State.refuse_settles s n _ _
    · split
      · exact State.refuse_settles s n _ _
      · next t ht => exact (State.cancelTarget_keeps (Keeps.refl s) _ _ _ ht).settles (State.done_settles t n _)

theorem State.examineFlush_settles (s : State) (n : Nat) : Settles n s (s.examineFlush n) := by
  have flushed : Settles n s (s.flush n) := by
    refine Keeps.settles (s := State.flushPlaces _) ?_ (State.done_settles _ n _)
    simp (maxDischargeDepth := 10) [Keeps.refl]
  unfold State.examineFlush
  (repeat' split) <;> first | exact State.refuse_settles s n _ _ | exact flushed

theorem State.examineSkip_settles (s : State) (n : Nat) : Settles n s (s.examineSkip n) := by
  unfold State.examineSkip
  dsimp only
  split
  · exact State.refuse_settles s n _ _
  · split
    · exact (State.giveUp_keeps (Keeps.refl s) _ _).settles (State.done_settles _ n _)
    · exact (State.voiding_keeps (Keeps.refl s) _).settles (State.done_settles _ n _)

theorem State.examineRenumber_settles (s : State) (n : Nat) : Settles n s (s.examineRenumber n) := by
  unfold State.examineRenumber
  split
  · exact State.refuse_settles s n _ _
  · split
    · exact State.done_settles s n _
    · exact (State.setRelease_keeps (Keeps.refl s) _).settles (State.done_settles _ n _)

theorem State.examineBar_settles (s : State) (n : Nat) : Settles n s (s.examineBar n) := by
  unfold State.examineBar
  split
  · exact State.refuse_settles s n _ _
  · exact (State.bar_keeps (Keeps.refl s) _).settles (State.done_settles _ n _)

theorem State.examineUnbarKeep_settles (s : State) (n : Nat) : Settles n s (s.examineUnbarKeep n) := by
  unfold State.examineUnbarKeep
  split
  · exact State.refuse_settles s n _ _
  · exact (State.unbarKeep_keeps (Keeps.refl s) _).settles (State.done_settles _ n _)

theorem State.examineUnbarClear_settles (s : State) (n : Nat) : Settles n s (s.examineUnbarClear n) := by
  unfold State.examineUnbarClear
  split
  · exact State.refuse_settles s n _ _
  · split
    · exact State.refuse_settles s n _ _
    · exact (State.unbarClear_keeps (Keeps.refl s) _).settles (State.done_settles _ n _)

/-- The card of a store operation that starts is TAKEN (R160). -/
theorem State.startStore_settles (s : State) (n : Nat) (w : StoreWork) : Settles n s (s.startStore n w) := by
  refine ⟨rfl, fun r hn => ?_⟩
  obtain ⟨others, self, unlisted⟩ := State.setCardState_taken_settles hn r
  refine ⟨⟨r.posted.1, fun m hm => ?_⟩, ⟨r.finished.1, fun m hm => ?_⟩, fun m c hc => ?_, r.levels, fun o ho => ?_, r.asks⟩
  · exact ⟨(r.posted.2 m hm).1, (others m (fun e => hn.unposted (e ▸ hm))).trans (r.posted.2 m hm).2⟩
  · exact ⟨(r.finished.2 m hm).1,
      (congrArg cardFinal (others m (fun e => unlisted (e ▸ hm)))).trans (r.finished.2 m hm).2⟩
  · have ne : m ≠ n := by
      rintro rfl
      exact absurd hn.closed (by rw [show s.ctx m = some c from hc]; simp)
    exact (others m ne).trans (r.taken m c hc)
  · cases ho
    exact ⟨hn.slot, self, hn.closed⟩

theorem State.examineRetire_settles (s : State) (n : Nat) : Settles n s (s.examineRetire n) := by
  unfold State.examineRetire
  split
  · exact State.refuse_settles s n _ _
  · split
    · exact State.refuse_settles s n _ _
    · split
      · exact State.refuse_settles s n _ _
      · split
        · exact State.done_settles s n _
        · split
          · exact State.refuse_settles s n _ _
          · exact (State.startStore_settles s n _).keeps (State.setStatus_keeps (Keeps.refl _) _ _)

theorem State.examineCommit_settles (s : State) (n : Nat) : Settles n s (s.examineCommit n) := by
  unfold State.examineCommit
  split
  · exact State.refuse_settles s n _ _
  · split
    · exact State.refuse_settles s n _ _
    · exact State.startStore_settles s n _

theorem State.examineErase_settles (s : State) (n : Nat) : Settles n s (s.examineErase n) := by
  unfold State.examineErase
  split
  · exact State.refuse_settles s n _ _
  · exact State.startStore_settles s n _

/-! ### The examiner and the profile store -/

/-- The head of the post queue is in hand once it is taken off. -/
theorem State.takeHead_inHand {rest : List Nat} (r : Roster s) (head : s.board.postQueue = n :: rest) :
    Roster (s.takeHead rest) ∧ InHand (s.takeHead rest) n := by
  obtain ⟨once, posted⟩ := r.posted
  rw [head] at once posted
  have notTaken : s.cardState n ≠ cardTaken := by
    rw [(posted n (by simp)).2]
    decide
  refine ⟨⟨⟨once.of_cons, fun m hm => posted m (List.mem_cons_of_mem _ hm)⟩, r.finished, r.taken, r.levels, r.storing, r.asks⟩,
    ⟨(posted n (by simp)).1, ?_, (List.nodup_cons.mp once).1, ?_, fun o ho e => ?_⟩⟩
  · exact (congrArg cardFinal (posted n (by simp)).2).trans rfl
  · cases open' : s.ctx n with
    | none => exact open'
    | some c => exact absurd (r.taken n c open') notTaken
  · exact notTaken (e ▸ (r.storing o ho).2.1)

/-- The card of a store operation is in hand once the operation is over. -/
theorem State.endStore_inHand {o : StoreOp} (r : Roster s) (op : s.store.op = some o) (profile : List Byte)
    (slots : Vector Slot 32) : Roster (s.endStore profile slots) ∧ InHand (s.endStore profile slots) o.card := by
  obtain ⟨slot, taken, closed⟩ := r.storing o op
  refine ⟨⟨r.posted, r.finished, r.taken, r.levels, (fun _ ho => nomatch ho), r.asks⟩,
    ⟨slot, (congrArg cardFinal taken).trans rfl, fun posted => ?_, closed, (fun _ ho => nomatch ho)⟩⟩
  have state := (r.posted.2 _ posted).2
  rw [taken] at state
  exact absurd state (by decide)

/-- From `a` to `s` the queue stands and the books stay in order. -/
structure Orders (a s : State) : Prop where
  pending : s.pending = a.pending
  roster : Roster a → Roster s

theorem Keeps.orders (h : Keeps a s) : Orders a s := ⟨h.pending, h.roster⟩

theorem Orders.refl (a : State) : Orders a a := ⟨rfl, id⟩

theorem Orders.trans (h : Orders a s) (k : Orders s t) : Orders a t := ⟨k.pending.trans h.pending, k.roster ∘ h.roster⟩

/-- A store operation's end finishes its card. -/
theorem Settles.ofStore {o : StoreOp} {profile : List Byte} {slots : Vector Slot 32} (op : s.store.op = some o)
    (h : Settles o.card (s.endStore profile slots) t) : Orders s t :=
  ⟨h.pending, fun r => h.roster (State.endStore_inHand r op profile slots).1 (State.endStore_inHand r op profile slots).2⟩

theorem State.commitEnded_orders {o : StoreOp} (op : s.store.op = some o) (copy : List Byte) (completed : Bool)
    (readBack : List Byte) : Orders s (s.commitEnded o copy completed readBack) := by
  unfold State.commitEnded
  dsimp only
  split
  · exact Settles.ofStore op ((State.adoptProfile_keeps (Keeps.refl _) copy).settles (State.finishCard_settles _ _ _ _ _ _ (by decide)))
  · exact Settles.ofStore op ((State.raiseStoreLost_keeps (State.loseProfile_keeps (Keeps.refl _) _) _ _).settles
      (State.finishCard_settles _ _ _ _ _ _ (by decide)))

theorem State.eraseEnded_orders {o : StoreOp} (op : s.store.op = some o) (profile : List Byte) (slots : Vector Slot 32) :
    Orders s (s.eraseEnded o profile slots) := by
  have lost := State.loseProfile_keeps (State.forgetFailures_keeps (Keeps.refl (s.endStore (areaOf profile) slots))) true
  unfold State.eraseEnded
  dsimp only
  split
  · exact Settles.ofStore op (lost.settles (State.finishCard_settles _ _ _ _ _ _ (by decide)))
  · exact Settles.ofStore op ((State.raiseStoreLost_keeps lost _ _).settles (State.finishCard_settles _ _ _ _ _ _ (by decide)))

theorem State.retireEnded_orders {o : StoreOp} (op : s.store.op = some o) (p slot : Nat) (readBack : Slot) :
    Orders s (s.retireEnded o p slot readBack) := by
  unfold State.retireEnded
  dsimp only
  split
  · exact Settles.ofStore op ((State.setStatus_keeps (Keeps.refl _) _ _).settles (State.finishCard_settles _ _ _ _ _ _ (by decide)))
  · exact Settles.ofStore op ((State.raise_keeps (State.setStatus_keeps (State.markFailed_keeps (Keeps.refl _) _) _ _) _ _ _ _).settles
      (State.finishCard_settles _ _ _ _ _ _ (by decide)))

/-! ### The aisle computer's writes (R158) -/

/-- A post: the card was FREE, so it stands in no list, has no order and no store operation. -/
theorem State.post_orders (slot : n < 128) (free : s.cardState n = cardFree) :
    Orders s ((s.setCardState n cardPosted).setBoard
      { (s.setCardState n cardPosted).board with postQueue := s.board.postQueue ++ [n] }) := by
  refine ⟨rfl, fun r => ?_⟩
  have others (m : Nat) (ne : m ≠ n) := State.cardState_setCardState_ne s cardPosted ne
  have self := State.cardState_setCardState slot s cardPosted
  have apart {m : Nat} (hm : s.cardState m ≠ cardFree) : m ≠ n := fun e => hm (e ▸ free)
  have posted (m : Nat) (hm : m ∈ s.board.postQueue) : m ≠ n := apart (by rw [(r.posted.2 m hm).2]; decide)
  have finished (m : Nat) (hm : m ∈ s.board.finishList) : m ≠ n :=
    apart (fun e => absurd ((congrArg cardFinal e).symm.trans (r.finished.2 m hm).2) (by decide))
  refine ⟨⟨?_, fun m hm => ?_⟩, ⟨r.finished.1, fun m hm => ?_⟩, fun m c hc => ?_, r.levels, fun o ho => ?_, r.asks⟩
  · show (s.board.postQueue ++ [n]).Nodup
    rw [List.nodup_append]
    exact ⟨r.posted.1, by simp, fun m hm k hk => by rw [List.mem_singleton.mp hk]; exact posted m hm⟩
  · rcases List.mem_append.mp hm with hm | hm
    · exact ⟨(r.posted.2 m hm).1, (others m (posted m hm)).trans (r.posted.2 m hm).2⟩
    · rw [List.mem_singleton.mp hm]
      exact ⟨slot, self⟩
  · exact ⟨(r.finished.2 m hm).1, (congrArg cardFinal (others m (finished m hm))).trans (r.finished.2 m hm).2⟩
  · exact (others m (apart (by rw [r.taken m c hc]; decide))).trans (r.taken m c hc)
  · obtain ⟨low, taken, closed⟩ := r.storing o ho
    exact ⟨low, (others _ (apart (by rw [taken]; decide))).trans taken, closed⟩

/-- A final card is freed: it leaves the finish list. -/
theorem State.free_orders (final : cardFinal (s.cardState n) = true) (count : Half) :
    Orders s ((s.setCardState n cardFree).setBoard
      { (s.setCardState n cardFree).board with
        finishList := s.board.finishList.filter (fun m => m != n), changeCount := count }) := by
  refine ⟨rfl, fun r => ?_⟩
  have others (m : Nat) (ne : m ≠ n) := State.cardState_setCardState_ne s cardFree ne
  have apart {m : Nat} (hm : cardFinal (s.cardState m) = false) : m ≠ n := by
    rintro rfl
    rw [final] at hm
    cases hm
  refine ⟨⟨r.posted.1, fun m hm => ?_⟩, ⟨r.finished.1.filter _, fun m hm => ?_⟩, fun m c hc => ?_, r.levels, fun o ho => ?_, r.asks⟩
  · exact ⟨(r.posted.2 m hm).1, (others m (apart (by rw [(r.posted.2 m hm).2]; rfl))).trans (r.posted.2 m hm).2⟩
  · obtain ⟨listed, ne⟩ := List.mem_filter.mp hm
    exact ⟨(r.finished.2 m listed).1, (congrArg cardFinal (others m (by simpa using ne))).trans (r.finished.2 m listed).2⟩
  · exact (others m (apart (by rw [r.taken m c hc]; rfl))).trans (r.taken m c hc)
  · obtain ⟨low, taken, closed⟩ := r.storing o ho
    exact ⟨low, (others _ (apart (by rw [taken]; rfl))).trans taken, closed⟩

theorem State.writeCardState_orders (s : State) (n : Nat) (v : Byte) : Orders s (s.writeCardState n v) := by
  unfold State.writeCardState
  dsimp only
  split
  · exact .refl s
  · next high =>
    split
    · next free => exact State.post_orders (Nat.not_le.mp high) free.1
    · split
      · exact .refl s
      · split
        · next final => exact State.free_orders final.1 _
        · exact (State.misuse_keeps (Keeps.refl s)).orders

theorem State.writeByte_orders (s : State) (addr : Nat) (v : Byte) : Orders s (s.writeByte addr v) := by
  have stored (clear : ∀ m, m < 128 → cardAddr m 0 < addr ∨ addr + 1 ≤ cardAddr m 0) :
      Orders s (s.setMem (Memory.write s.board.mem addr [v])) :=
    (State.write_keeps (Keeps.refl s) addr [v] clear).orders
  have misused : Orders s s.misuse := (State.misuse_keeps (Keeps.refl s)).orders
  unfold State.writeByte
  split
  · exact misused
  · split
    · exact stored (fun m _ => by unfold cardAddr; omega)
    · split
      · split
        · exact (State.writeAcknowledge_keeps (Keeps.refl s) _ _).orders
        · exact misused
      · split
        · exact stored (fun m _ => by unfold cardAddr; omega)
        · split
          · exact misused
          · split
            · exact State.writeCardState_orders s _ v
            · exact stored (fun m _ => by unfold cardAddr; omega)

theorem State.writeBytes_orders (s : State) (addr : Nat) (vs : List Byte) : Orders s (s.writeBytes addr vs) := by
  induction vs generalizing s addr with
  | nil => exact .refl s
  | cons v vs ih =>
    refine Orders.trans ?_ (ih _ (addr + 1))
    split
    · exact State.writeByte_orders s addr v
    · exact .refl s

/-! ### INIT -/

/-- A state byte reads FREE where the cells of the cards are cleared. -/
theorem Memory.read_cardAddr_of_kept (m : List Host.Cell) (high : ∀ c ∈ m, 0x4000 ≤ c.1) (slot : n < 128) :
    Memory.read m (cardAddr n 0) = cardFree := by
  have range : 0x1000 ≤ cardAddr n 0 ∧ cardAddr n 0 < 0x3000 := by unfold cardAddr; omega
  rw [Memory.read_of_not_mem m _ (fun c hc => by have := high c hc; omega)]
  unfold Memory.blank
  rw [if_neg (by omega)]
  rfl

/-- INIT leaves the books empty, whatever it begins from. -/
theorem State.initialise_orders (s : State) (aisle : BitVec 6) (kept : List Host.Cell) :
    Orders s (s.initialise aisle kept) := by
  have closed (n : Nat) : (s.initialise aisle kept).ctx n = none := by
    show (State.reset.contexts[n]?).join = none
    simp only [State.reset]
    cases h : (Vector.replicate 128 (none : Option Context))[n]? with
    | none => rfl
    | some c =>
      obtain ⟨_, e⟩ := Vector.getElem?_eq_some_iff.mp h
      simp at e
      rw [← e]
      rfl
  have noOp : (s.initialise aisle kept).store.op = none := Store.cut_op s.store s.freeCount
  refine ⟨rfl, fun _ => ⟨⟨List.nodup_nil, fun n hn => nomatch hn⟩, ⟨List.nodup_nil, fun n hn => nomatch hn⟩,
    fun n c hc => ?_, fun n c hc => ?_, fun o ho => ?_, List.nodup_nil⟩⟩
  · rw [closed] at hc; cases hc
  · rw [closed] at hc; cases hc
  · rw [noOp] at ho; cases ho

theorem State.rereadInputs_keeps (h : Keeps a s) : Keeps a s.rereadInputs := by
  refine foldl_keeps _ (fun t k ht => ?_) _ _ h
  split
  · exact State.setPlace_keeps ht _ _
  · exact ht

/-! ### The commands -/

/-- What every command does to the queue, and to the books of a state whose profiles are valid, before the neighbours act. -/
structure Tends (s : State) (r : Result) : Prop where
  leads : ∃ u, r = .next u.resolved ∧ u.pending = s.pending ∧ (s.store.Sound → Roster s → Roster u)

theorem State.begin_sound (sound : s.store.Sound) : s.begin.store.Sound := by
  unfold State.begin State.raiseDue
  split
  · exact ⟨sound.active, sound.copy⟩
  · exact sound

theorem State.event_tends (s : State) (f : State → State) (hf : ∀ t, t.store.Sound → Orders t (f t))
    (queue : ∀ t, (f t).pending = t.pending) : Tends s (s.event f) :=
  ⟨_, rfl, (queue _).trans (State.pending_begin s), fun sound r =>
    (hf _ (State.begin_sound sound)).roster ((State.begin_keeps (Keeps.refl s)).roster r)⟩

theorem State.event_tends_of_orders (s : State) (f : State → State) (hf : ∀ t, Orders t (f t)) : Tends s (s.event f) :=
  State.event_tends s f (fun t _ => hf t) (fun t => (hf t).pending)

theorem State.live_tends (s : State) (f : State → State) (hf : ∀ t, Orders t (f t)) : Tends s (s.live f) :=
  State.event_tends_of_orders s _ (fun t => by split; exact .refl t; exact hf t)

theorem State.live_tends_of_keeps (s : State) (f : State → State) (hf : ∀ t, Keeps t t → Keeps t (f t)) : Tends s (s.live f) :=
  State.live_tends s f (fun t => (hf t (Keeps.refl t)).orders)

theorem State.liftFrameIn_tends (s : State) (x : Side) (f : State → State) (hf : ∀ t u, Keeps t u → Keeps t (f u)) :
    Tends s (s.liftFrameIn x f) :=
  State.live_tends_of_keeps s _ (fun t h => hf t _ (State.hear_keeps h x))

theorem State.examine_tends (s : State) (row : Nat → Bool) (f : Nat → State → State)
    (hf : ∀ n t, t.store.Sound → Settles n t (f n t)) (queue : ∀ n t, (f n t).pending = t.pending) :
    Tends s (s.examine row f) := by
  unfold State.examine State.live
  refine State.event_tends s _ (fun t sound => ?_) (fun t => ?_) <;> dsimp only
  · split
    · exact .refl t
    · split
      · exact .refl t
      · next n rest head =>
        split
        · refine ⟨queue n _, fun r => ?_⟩
          obtain ⟨taken, hand⟩ := State.takeHead_inHand r head
          exact (hf n (t.takeHead rest) sound).roster taken hand
        · exact .refl t
  · split
    · rfl
    · split
      · rfl
      · split
        · exact queue _ _
        · rfl

theorem State.examine_tends_of_settles (s : State) (row : Nat → Bool) (f : Nat → State → State)
    (hf : ∀ n t, Settles n t (f n t)) : Tends s (s.examine row f) :=
  State.examine_tends s row f (fun n t _ => hf n t) (fun n t => (hf n t).pending)

theorem State.pending_examineOrder (s : State) (n : Nat) (k : OrderKind) : (s.examineOrder n k).pending = s.pending := by
  unfold State.examineOrder State.accept State.startStall
  dsimp only
  (repeat' split) <;> simp

/-- Every command leaves the queue, and keeps the books of a state whose profiles are valid. -/
theorem exec_tends (c : Instr) (s : State) : Tends s (exec c s) := by
  cases c <;> dsimp only [exec]
  case powerOn | reset =>
    dsimp only [execPowerOn, execReset]
    exact State.event_tends_of_orders s _ (fun t => State.initialise_orders t _ _)
  case initEnd =>
    dsimp only [execInitEnd]
    refine State.event_tends_of_orders s _ (fun t => ?_)
    have reread := State.rereadInputs_keeps (Keeps.refl t)
    generalize t.rereadInputs = u at reread
    have configured := reread.of_book (t := { u with
      mode := .config
      board := { u.board with latchMode := true, latchMisuse := false, latchRefused := false, enable := 0 } }) rfl
    split
    · split
      · exact (State.startChain_keeps configured).orders
      · refine (State.setStore_keeps configured _ ?_).orders
        rfl
    · exact .refl t
  case noProfile | relayedFrame | liftFrameDiscard =>
    dsimp only [execNoProfile, execRelayedFrame, execLiftFrameDiscard]
    exact State.live_tends s _ Orders.refl
  case eStopAssert | eStopRelease | entryArrive | entryArriveDeassert | rejectFullChange | exitReadyChange | spurCountChange =>
    dsimp only [execEStopAssert, execEStopRelease, execEntryArrive, execEntryArriveDeassert, execRejectFullChange,
      execExitReadyChange, execSpurCountChange]
    refine State.event_tends_of_orders s _ (fun t => Keeps.orders ?_)
    have lined (l : Lines) : Keeps t { t with lines := l } := (Keeps.refl t).of_book rfl
    repeat' split
    all_goals simp [lined]
  case exchangeWrite => exact State.live_tends s _ (fun t => State.writeBytes_orders t _ _)
  case postedWrite | freeWrite => exact State.live_tends s _ (fun t => State.writeCardState_orders t _ _)
  case retrieve | store =>
    dsimp only [execRetrieve, execStore]
    exact State.examine_tends s _ _ (fun n t sound => State.examineOrder_settles sound n _)
      (fun n t => State.pending_examineOrder t n _)
  case badKind => exact State.examine_tends_of_settles s _ _ (fun n t => State.refuse_settles t n _ _)
  case cancel => exact State.examine_tends_of_settles s _ _ (fun n t => State.examineCancel_settles t n)
  case flush => exact State.examine_tends_of_settles s _ _ (fun n t => State.examineFlush_settles t n)
  case skip => exact State.examine_tends_of_settles s _ _ (fun n t => State.examineSkip_settles t n)
  case renumber => exact State.examine_tends_of_settles s _ _ (fun n t => State.examineRenumber_settles t n)
  case bar => exact State.examine_tends_of_settles s _ _ (fun n t => State.examineBar_settles t n)
  case unbarKeep => exact State.examine_tends_of_settles s _ _ (fun n t => State.examineUnbarKeep_settles t n)
  case unbarClear => exact State.examine_tends_of_settles s _ _ (fun n t => State.examineUnbarClear_settles t n)
  case retire => exact State.examine_tends_of_settles s _ _ (fun n t => State.examineRetire_settles t n)
  case commit => exact State.examine_tends_of_settles s _ _ (fun n t => State.examineCommit_settles t n)
  case erase => exact State.examine_tends_of_settles s _ _ (fun n t => State.examineErase_settles t n)
  case commitEnd | eraseEnd | retireEnd =>
    dsimp only [execCommitEnd, execEraseEnd, execRetireEnd]
    refine State.live_tends s _ (fun t => ?_)
    split
    · exact .refl t
    · next o op =>
      split <;> simp only [Orders.refl, State.commitEnded_orders op, State.eraseEnded_orders op, State.retireEnded_orders op]
  case status | arrived | stopDone | tripEnd | ready | parkedAck | state | fault | unknownKindFrame =>
    dsimp only [execStatus, execArrived, execStopDone, execTripEnd, execReady, execParkedAck, execState, execFault,
      execUnknownKindFrame]
    refine State.liftFrameIn_tends s _ _ (fun t u h => ?_)
    simp [h]
  case silenceTimerExpiry | parkTimerExpiry | registerWrite =>
    dsimp only [execSilenceTimerExpiry, execParkTimerExpiry, execRegisterWrite]
    refine State.live_tends_of_keeps s _ (fun t h => ?_)
    split <;> simp [h]
  case acknowledge | clearEntry | requestConfig | requestRun | requestHold | causeWrite | causeEnableWrite =>
    dsimp only [execAcknowledge, execClearEntry, execRequestConfig, execRequestRun, execRequestHold, execCauseWrite,
      execCauseEnableWrite]
    refine State.live_tends_of_keeps s _ (fun t h => ?_)
    simp [h]
  case dropAsk | takeAsk | laneCount =>
    dsimp only [execDropAsk, execTakeAsk, execLaneCount]
    refine State.live_tends_of_keeps s _ (fun t h => State.report_keeps h _ _ _ _ (fun u k hu => ?_))
    simp [hu]
  case dropDone | dropAbort | takeDone | takeAbort =>
    dsimp only [execDropDone, execDropAbort, execTakeDone, execTakeAbort]
    refine State.live_tends_of_keeps s _ (fun t h => State.report_keeps h _ _ _ _ (fun u k hu =>
      State.grantReport_keeps hu _ _ _ (fun v g hv => ?_)))
    simp [hv]
  case nothing | overflow | restarted =>
    dsimp only [execNothing, execOverflow, execRestarted]
    refine State.live_tends_of_keeps s _ (fun t h => State.pollAnswer_keeps h _ _ _ (fun u k hu => ?_))
    simp [hu]
  case resyncReport | ack =>
    dsimp only [execResyncReport, execAck]
    refine State.live_tends_of_keeps s _ (fun t h => ?_)
    simp [h]
  case grantTimerExpiry | visit | exchangeUnanswered | hello | checkError | commandResend | stateAskRepeat | wakeTimerExpiry |
      deadlineExpiry | entryReaderResult | divertDone | mismatchTimerExpiry | exitReaderResult | pass | overdueTimerExpiry |
      stallTimerExpiry =>
    dsimp only [execGrantTimerExpiry, execVisit, execExchangeUnanswered, execHello, execCheckError, execCommandResend,
      execStateAskRepeat, execWakeTimerExpiry, execDeadlineExpiry, execEntryReaderResult, execDivertDone, execMismatchTimerExpiry,
      execExitReaderResult, execPass, execOverdueTimerExpiry, execStallTimerExpiry]
    refine State.live_tends_of_keeps s _ (fun t h => ?_)
    simp [h]

end

/-- Settles O6: an event always ends with the neighbours' resolution, and neither it nor the event touches the queue. -/
theorem everyCommandCompletes : Obligations.EveryCommandCompletes := by
  intro c s
  obtain ⟨u, run, queue, _⟩ := (exec_tends c s).leads
  exact ⟨u.resolved, run, ((State.resolved_keeps (Keeps.refl u)).pending).trans queue, State.resolved_wake⟩

/-- A millisecond that passes changes nothing of the books. -/
theorem Roster.tick {s : State} (r : Roster s) : Roster s.tick :=
  ⟨r.posted, r.finished, r.taken, r.levels, r.storing, r.asks⟩

/-- Settles O5: a command of the queue keeps the books by `exec_tends` and the law of the neighbours, and the module's own time
changes nothing of them. -/
theorem stepKeepsRoster : Obligations.StepKeepsRoster := by
  intro s t inv roster stepped
  unfold step at stepped
  split at stepped
  · next c rest _ =>
    obtain ⟨u, run, _, books⟩ := (exec_tends c { s with pending := rest }).leads
    obtain rfl : u.resolved = t := by rw [run] at stepped; exact Host.Outcome.next.inj stepped
    refine (State.resolved_keeps (Keeps.refl u)).roster (books inv.store ?_)
    exact ⟨roster.posted, roster.finished, roster.taken, roster.levels, roster.storing, roster.asks⟩
  · obtain rfl := Host.Outcome.next.inj stepped
    unfold State.idle
    split
    · exact roster.tick
    · exact ⟨roster.posted, roster.finished, roster.taken, roster.levels, roster.storing, roster.asks⟩

end Sys2Proof.Machine
end

section
/-! PROOF. The queue, INIT's commands and the E-STOP line (the statements StepRunsFront, InvariantAtReset, EStopLine and
InitIgnoresCommands). -/

namespace Sys2Proof.Machine

/-- Settles O1, by the step's own case of a queue that holds a command. -/
theorem stepRunsFront : Obligations.StepRunsFront := by
  intro c rest s queue
  unfold step
  split
  · next d r e =>
    rw [queue] at e
    obtain ⟨rfl, rfl⟩ := List.cons.inj e
    rfl
  · next e => rw [queue] at e; cases e

@[simp] theorem State.ctx_reset (n : Nat) : State.reset.ctx n = none := by
  simp only [State.ctx, State.reset, Vector.getElem?_replicate]
  split <;> rfl

/-- Settles O3: the lists and the memory of the reset state are empty, and no profile is in use. -/
theorem invariantAtReset : Obligations.InvariantAtReset := by
  refine ⟨⟨rfl, rfl, ⟨fun r e => (by cases e), fun o r e => (by cases e)⟩, rfl⟩,
    ⟨⟨List.nodup_nil, fun n hn => (by cases hn)⟩, ⟨List.nodup_nil, fun n hn => (by cases hn)⟩, fun n c hc => ?_, fun n c hc => ?_,
      fun o ho => (by cases ho), List.nodup_nil⟩, rfl, rfl, State.ctx_reset, rfl, rfl⟩
  · rw [State.ctx_reset] at hc; cases hc
  · rw [State.ctx_reset] at hc; cases hc

/-! ### Events that tell nobody, in any mode -/

/-- Where no NO_PROFILE is to be raised an event starts with the list of frames cleared. -/
theorem State.Reported.begin {s : State} (h : s.Reported) : s.begin = { s with sent := [] } := by
  by_cases init : s.mode = .init
  · exact State.begin_of_init init
  · exact State.begin_of_reported (h init)

theorem State.reported_of_init {s : State} (init : s.mode = .init) : s.Reported := fun live => absurd init live

/-- An event that tells no neighbour of a change is its own change alone. -/
theorem State.event_of_quiet {s : State} {f : State → State} (begun : s.begin = { s with sent := [] })
    (quiet : (f { s with sent := [] }).wake = []) : s.event f = .next (f { s with sent := [] }) := by
  rw [State.event, begun, State.resolved_quiet quiet]

/-- INIT ignores an event of the live modes. -/
theorem State.live_of_init {s : State} (init : s.mode = .init) (quiet : s.wake = []) (f : State → State) :
    s.live f = .next { s with sent := [] } := by
  have begun : s.begin = { s with sent := [] } := State.begin_of_init init
  refine (State.event_of_quiet begun ?_).trans ?_ <;> simp [init, quiet]

/-- Where no neighbour told can act, settling forgets who was told. -/
theorem State.resolved_of_stuck {s : State} (stuck : ∀ r ∈ s.wake, s.runRetry r = none) : s.resolved = { s with wake := [] } := by
  have none : s.ready = [] := by
    simp only [State.ready, List.filter_eq_nil_iff]
    intro r hr
    simp [stuck r hr]
  show State.settle 256 s = _
  unfold State.settle
  rw [none]

/-- Settles O11, by the mode: the assertion is a change of mode in RUN alone. -/
theorem eStopLine : Obligations.EStopLine := by
  intro s reported quiet
  dsimp only [exec, execEStopAssert, execEStopRelease]
  constructor
  · rw [State.event_of_quiet reported.begin (by split <;> exact quiet)]
    by_cases run : s.mode = .run
    · simp [run, State.changeMode]
    · have other : (s.mode == .run) = false := by simpa using run
      simp [run, other]
  · exact State.event_of_quiet reported.begin quiet

/-- The commands that INIT does not take are events of the live modes. -/
theorem exec_eq_live {c : Instr} (ignored : takenInInit c = false) (s : State) : ∃ f, exec c s = s.live f := by
  cases c <;> dsimp only [exec]
  case powerOn | reset | initEnd | eStopAssert | eStopRelease | entryArrive | entryArriveDeassert | rejectFullChange |
      spurCountChange | exitReadyChange => cases ignored
  case badKind | retrieve | store | cancel | flush | skip | renumber | bar | unbarKeep | unbarClear | retire | commit | erase =>
    dsimp only [execBadKind, execRetrieve, execStore, execCancel, execFlush, execSkip, execRenumber, execBar, execUnbarKeep,
      execUnbarClear, execRetire, execCommit, execErase, State.examine]
    exact ⟨_, rfl⟩
  case status | arrived | stopDone | tripEnd | ready | parkedAck | state | fault | unknownKindFrame =>
    dsimp only [execStatus, execArrived, execStopDone, execTripEnd, execReady, execParkedAck, execState, execFault,
      execUnknownKindFrame, State.liftFrameIn]
    exact ⟨_, rfl⟩
  all_goals
    dsimp only [execNoProfile, execExchangeWrite, execPostedWrite, execFreeWrite, execAcknowledge, execClearEntry,
      execRequestConfig, execRequestRun, execRequestHold, execCauseWrite, execCauseEnableWrite, execRegisterWrite, execCommitEnd,
      execEraseEnd, execRetireEnd, execDropAsk, execDropDone, execDropAbort, execTakeAsk, execTakeDone, execTakeAbort,
      execGrantTimerExpiry, execLaneCount, execNothing, execOverflow, execRestarted, execResyncReport, execAck, execVisit,
      execExchangeUnanswered, execHello, execCheckError, execRelayedFrame, execLiftFrameDiscard, execSilenceTimerExpiry,
      execCommandResend, execStateAskRepeat, execParkTimerExpiry, execWakeTimerExpiry, execDeadlineExpiry, execEntryReaderResult,
      execDivertDone, execMismatchTimerExpiry, execExitReaderResult, execPass, execOverdueTimerExpiry, execStallTimerExpiry]
    exact ⟨_, rfl⟩

/-- In INIT a line's event that tells one neighbour who does not act there sets the line alone. -/
theorem State.event_line_of_init {s : State} (init : s.mode = .init) (quiet : s.wake = []) (l : Lines) (b : Bool) (r : Retry)
    (stuck : ∀ t : State, t.mode = .init → t.runRetry r = none) :
    (if b then ({ s with sent := [], lines := l } : State) else State.tell { s with sent := [], lines := l } r).resolved =
      { s with sent := [], lines := l } := by
  cases b
  · have told : (State.tell { s with sent := [], lines := l } r).wake = [r] := by simp [State.tell, quiet]
    rw [if_neg (by simp), State.resolved_of_stuck]
    · unfold State.tell
      split <;> simp [quiet]
    · rw [told]
      intro q hq
      rw [List.mem_singleton.mp hq]
      exact stuck _ (by rw [State.mode_tell]; exact init)
  · rw [if_pos rfl]
    exact State.resolved_quiet quiet

theorem State.tryReject_of_not_run {s : State} (h : s.mode ≠ .run) : s.tryReject = none := by
  unfold State.tryReject
  split
  · next run => exact absurd run h
  · rfl

theorem State.tryMerge_of_not_run {s : State} (h : s.mode ≠ .run) : s.tryMerge = none := by
  unfold State.tryMerge
  exact if_neg (fun go => h go.1)

/-- Settles O8: a live event is ignored, and a line's event keeps the line's level alone. -/
theorem initIgnoresCommands : Obligations.InitIgnoresCommands := by
  intro s init quiet becomes
  have begun : s.begin = { s with sent := [] } := State.begin_of_init init
  have notRun (t : State) (h : t.mode = .init) : t.mode ≠ .run := by simp [h]
  refine ⟨fun c ignored => ?_, ?entryArrive, ?deassert, fun full => ?full, fun ready => ?ready, fun spur count => ?spur,
    ?assert, ?release⟩
  · obtain ⟨f, hf⟩ := exec_eq_live ignored s
    rw [hf, State.live_of_init init quiet]
  all_goals
    dsimp only [becomes, exec, execEntryArrive, execEntryArriveDeassert, execRejectFullChange, execExitReadyChange,
      execSpurCountChange, execEStopAssert, execEStopRelease, State.event]
    simp only [begun]
  case full =>
    have settled := State.event_line_of_init init quiet { s.lines with rejectFull := full } full .reject
      (fun t h => State.tryReject_of_not_run (notRun t h))
    exact congrArg Host.Outcome.next settled
  case ready =>
    have settled := State.event_line_of_init init quiet { s.lines with exitReady := ready } (!ready) .merge
      (fun t h => State.tryMerge_of_not_run (notRun t h))
    cases ready <;> exact congrArg Host.Outcome.next settled
  all_goals
    simp only [init, if_true, reduceCtorEq, if_false]
    exact congrArg Host.Outcome.next (State.resolved_quiet quiet)

end Sys2Proof.Machine
end

section
/-! PROOF. The module's own time (the statement IdleStep): which rows are due, part by part, and what one millisecond changes. -/

namespace Sys2Proof.Machine

/-! ### The rows that are due -/

theorem mem_dueIf (b : Bool) (i c : Instr) : c ∈ dueIf b i ↔ c = i ∧ b = true := by
  cases b <;> simp [dueIf]

theorem side_exists (p : Side → Prop) : (∃ x, p x) ↔ p .a ∨ p .b :=
  ⟨fun ⟨x, hx⟩ => by cases x; exact .inl hx; exact .inr hx, fun h => h.elim (⟨.a, ·⟩) (⟨.b, ·⟩)⟩

theorem port_exists (p : Port → Prop) : (∃ x, p x) ↔ p .bottom ∨ p .top :=
  ⟨fun ⟨x, hx⟩ => by cases x; exact .inl hx; exact .inr hx, fun h => h.elim (⟨.bottom, ·⟩) (⟨.top, ·⟩)⟩

/-- The row that examines a card, by its kind (R160). -/
theorem State.examination_eq (s : State) (n : Nat) :
    let rows : List Instr := [.badKind, .retrieve, .store, .cancel, .flush, .skip, .renumber, .bar]
    let k := (s.cardKind n).toNat
    s.examination n = if k < 8 then rows.getD k .badKind else if k = 8 then (if s.clearOption n = true then .unbarClear else .unbarKeep)
      else if k = 9 then .retire else if k = 10 then .commit else if k = 11 then .erase else .badKind := by
  intro rows k
  unfold State.examination
  change (match k with | 1 => _ | 2 => _ | 3 => _ | 4 => _ | 5 => _ | 6 => _ | 7 => _ | 8 => _ | 9 => _ | 10 => _ | 11 => _ | _ => _) = _
  clear_value k
  by_cases low : k < 12
  · interval_cases k <;> rfl
  · split <;> simp_all
    omega

/-- A deadline runs and its time is over (R121). -/
theorem Lift.deadlineOver_iff (l : Lift) : (l.deadlineRuns && (l.trip.map (·.left)) == some 0) = true ↔
    l.state = .onTrip ∧ ∃ t, l.trip = some t ∧ t.left = 0 ∧ t.expired = false ∧ t.phase ≠ .waitingMode := by
  cases h : l.trip <;> simp [Lift.deadlineRuns, h]
  tauto

theorem State.mem_liftDue (s : State) (x : Side) (c : Instr) :
    c ∈ s.liftDue x ↔
      (c = .silenceTimerExpiry x ∧ (s.lift x).silence = some 0) ∨
      (c = .commandResend x ∧ (s.lift x).echo = some 0 ∧ (s.lift x).queue ≠ []) ∨
      (c = .stateAskRepeat x ∧ (s.lift x).ask = some 0 ∧ (s.lift x).state = .syncing) ∨
      (c = .parkTimerExpiry x ∧ (s.lift x).park = some 0 ∧ (s.lift x).state = .idle) ∨
      (c = .wakeTimerExpiry x ∧ (s.lift x).wake = some 0 ∧ ((s.lift x).state = .parking ∨ (s.lift x).state = .waking)) ∨
      (c = .deadlineExpiry x ∧ (s.lift x).state = .onTrip ∧
        ∃ t, (s.lift x).trip = some t ∧ t.left = 0 ∧ t.expired = false ∧ t.phase ≠ .waitingMode) := by
  simp only [State.liftDue, List.mem_append, mem_dueIf, or_assoc, Lift.deadlineOver_iff]
  simp [Lift.asksAgain, and_comm]

theorem State.overdueDue_iff (s : State) : s.overdueDue = true ↔ ∃ x e, s.release.merge = .releasing x e (some 0) := by
  unfold State.overdueDue
  split
  · next x e h => simp [h]
  · next h => simpa using fun x e => h x e

theorem State.mem_mismatchDue (s : State) (c : Instr) :
    c ∈ (List.range 169).flatMap (fun p => dueIf ((s.place p).mismatch == some 0) (.mismatchTimerExpiry p)) ↔
      ∃ p, p < 169 ∧ c = .mismatchTimerExpiry p ∧ (s.place p).mismatch = some 0 := by
  simp [List.mem_flatMap, mem_dueIf]

theorem State.mem_grantDue (s : State) (c : Instr) :
    c ∈ (List.range 40).flatMap (fun k =>
        dueIf (((s.grant (k + 1)).map (·.timer)).join == some 0) (.grantTimerExpiry (k + 1))) ↔
      ∃ k g, 1 ≤ k ∧ k ≤ 40 ∧ c = .grantTimerExpiry k ∧ s.grant k = some g ∧ g.timer = some 0 := by
  simp only [List.mem_flatMap, List.mem_range, mem_dueIf, beq_iff_eq]
  constructor
  · rintro ⟨k, hk, rfl, timer⟩
    obtain ⟨g, hg, expired⟩ : ∃ g, s.grant (k + 1) = some g ∧ g.timer = some 0 := by
      simpa [Option.join_eq_some_iff] using timer
    exact ⟨k + 1, g, by omega, by omega, rfl, hg, expired⟩
  · rintro ⟨k, g, low, high, rfl, hg, expired⟩
    obtain ⟨j, rfl⟩ : ∃ j, k = j + 1 := ⟨k - 1, by omega⟩
    exact ⟨j, by omega, rfl, by simp [hg, expired]⟩

theorem State.mem_portDue (s : State) (p : Port) (c : Instr) :
    c ∈ s.portDue p ↔
      (c = .exchangeUnanswered p ∧ ∃ e, (s.chainPort p).exchange = some e ∧ e.left = 0) ∨
      (c = .hello p ∧ (s.chainPort p).exchange = none ∧ ((s.chainPort p).probeTimer = some 0 ∨ (s.chainPort p).probes ≠ [])) ∨
      (c = .visit p ∧ (s.chainPort p).exchange = none ∧
        ¬((s.chainPort p).probeTimer = some 0 ∨ (s.chainPort p).probes ≠ []) ∧ s.served p ≠ []) := by
  unfold State.portDue
  split
  · next e he => simp [mem_dueIf, he]
  · next none =>
    split
    · next probes => simp [none, probes]
    · next idle => simp [mem_dueIf, none, idle]

/-- Outside INIT the rows that are due are the parts together, and no other. -/
theorem State.mem_due (s : State) (live : s.mode ≠ .init) (c : Instr) :
    c ∈ s.due ↔
      (c = .noProfile ∧ s.store.noProfileDue = true) ∨
      (∃ n rest, s.board.postQueue = n :: rest ∧ c = s.examination n) ∨
      (∃ x, c ∈ s.liftDue x) ∨
      (c = .stallTimerExpiry ∧ s.release.stall = some 0) ∨
      (c = .overdueTimerExpiry ∧ ∃ x e, s.release.merge = .releasing x e (some 0)) ∨
      (∃ p, p < 169 ∧ c = .mismatchTimerExpiry p ∧ (s.place p).mismatch = some 0) ∨
      (∃ k g, 1 ≤ k ∧ k ≤ 40 ∧ c = .grantTimerExpiry k ∧ s.grant k = some g ∧ g.timer = some 0) ∨
      (∃ p, c ∈ s.portDue p) := by
  rw [State.due, if_neg live]
  simp only [List.mem_append, mem_dueIf, State.overdueDue_iff, State.mem_mismatchDue, State.mem_grantDue, beq_iff_eq, or_assoc,
    side_exists, port_exists]
  cases s.board.postQueue <;> simp

/-! ### One millisecond -/

theorem State.place_tick (s : State) (p : Nat) :
    s.tick.place p = { s.place p with mismatch := (s.place p).mismatch.map (fun k => k - 1) } := by
  have down (r : Timer) : r.tick = r.map (fun k => k - 1) := by cases r <;> rfl
  simp only [State.place, State.tick, Vector.getElem?_map]
  cases s.places[p]? <;> simp [down]

theorem State.grant_tick (s : State) (k : Nat) :
    s.tick.grant k = (s.grant k).map (fun g => { g with timer := g.timer.map (fun r => r - 1) }) := by
  have down (r : Timer) : r.tick = r.map (fun k => k - 1) := by cases r <;> rfl
  cases k with
  | zero => rfl
  | succ k =>
    simp only [State.grant, State.tick, Vector.getElem?_map]
    rcases s.handover.grants[k]? with _ | _ | g <;> simp [down]

/-- A deadline's time goes by while its trip is under way and its stop is not withheld for the mode (R121). -/
theorem Lift.tick_eq (l : Lift) :
    l.tick = { l with
      echo := l.echo.map (fun k => k - 1), park := l.park.map (fun k => k - 1), wake := l.wake.map (fun k => k - 1)
      silence := l.silence.map (fun k => k - 1), ask := l.ask.map (fun k => k - 1)
      trip := l.trip.map (fun r => { r with
        left := if l.state = .onTrip ∧ r.expired = false ∧ r.phase ≠ .waitingMode then r.left - 1 else r.left }) } := by
  have down (r : Timer) : r.tick = r.map (fun k => k - 1) := by cases r <;> rfl
  have trip : l.trip.map (fun t => t.tick l.deadlineRuns) = l.trip.map (fun r => { r with
      left := if l.state = .onTrip ∧ r.expired = false ∧ r.phase ≠ .waitingMode then r.left - 1 else r.left }) := by
    cases h : l.trip with
    | none => rfl
    | some t =>
      by_cases runs : l.deadlineRuns = true
      · have open' : l.state = .onTrip ∧ t.expired = false ∧ t.phase ≠ .waitingMode := by
          simpa [Lift.deadlineRuns, h] using runs
        simp [Trip.tick, runs, open']
      · have closed : ¬(l.state = .onTrip ∧ t.expired = false ∧ t.phase ≠ .waitingMode) := by
          simpa [Lift.deadlineRuns, h] using runs
        simp [Trip.tick, runs, closed]
  simp only [Lift.tick, down, trip]

theorem ChainPort.tick_eq (r : ChainPort) :
    r.tick = { r with
      exchange := r.exchange.map (fun e => { e with left := e.left - 1 }), probeTimer := r.probeTimer.map (fun k => k - 1) } := by
  have down (r : Timer) : r.tick = r.map (fun k => k - 1) := by cases r <;> rfl
  simp only [ChainPort.tick, down]

/-- Settles O2: the rows due are `mem_due` with each part written out, and the tick is taken field by field. -/
theorem idleStep : Obligations.IdleStep := by
  intro s queue down port rows
  have stepped : step s = .next s.idle := by
    unfold step
    split
    · next e => rw [queue] at e; cases e
    · rfl
  have timer (r : Timer) : r.tick = down r := by cases r <;> rfl
  refine ⟨fun init => by rw [State.due, if_pos init], fun live c => ?due, fun some' => ?queued, fun none' => ?ticks⟩
  case due => simp only [State.mem_due s live, State.mem_liftDue, State.mem_portDue, State.examination_eq, rows]
  case queued =>
    rw [stepped]
    unfold State.idle
    split
    · next none' => exact absurd none' some'
    · rfl
  case ticks =>
    refine ⟨s.tick, ?_, rfl, queue, rfl, rfl, rfl, rfl, rfl, rfl, rfl, State.place_tick s, State.grant_tick s, rfl,
      timer _, ?merge, rfl, fun x => ?lift, ChainPort.tick_eq _, ChainPort.tick_eq _, rfl⟩
    · rw [stepped, State.idle, none']
    case merge =>
      show s.release.merge.tick = _
      cases s.release.merge <;> simp [Merge.tick, timer]
    case lift => cases x <;> exact Lift.tick_eq _

end Sys2Proof.Machine
end

section
/-! PROOF. The memory port's writes (the statements ExchangeWrites and RegisterWrites). -/

namespace Sys2Proof.Machine

/-! ### What a write of one byte leaves -/

@[simp] theorem State.misuse_frame (s : State) :
    s.misuse.wake = s.wake ∧ s.misuse.mode = s.mode ∧ s.misuse.store = s.store ∧ s.misuse.sent = s.sent := ⟨rfl, rfl, rfl, rfl⟩

@[simp] theorem State.writeCardState_frame (s : State) (n : Nat) (v : Byte) :
    (s.writeCardState n v).mode = s.mode ∧ (s.writeCardState n v).store = s.store ∧ (s.writeCardState n v).sent = s.sent := by
  unfold State.writeCardState
  dsimp only
  (repeat' split) <;> simp

@[simp] theorem State.writeAcknowledge_frame (s : State) (k : Nat) (v : Byte) :
    (s.writeAcknowledge k v).mode = s.mode ∧ (s.writeAcknowledge k v).store = s.store ∧
      (s.writeAcknowledge k v).sent = s.sent := by
  unfold State.writeAcknowledge
  (repeat' split) <;> simp

@[simp] theorem State.writeByte_frame (s : State) (a : Nat) (v : Byte) :
    (s.writeByte a v).wake = s.wake ∧ (s.writeByte a v).mode = s.mode ∧ (s.writeByte a v).store = s.store ∧
      (s.writeByte a v).sent = s.sent := by
  unfold State.writeByte
  (repeat' split) <;> simp [State.setMem]

@[simp] theorem State.writeBytes_frame (s : State) (a : Nat) (vs : List Byte) : (s.writeBytes a vs).wake = s.wake := by
  induction vs generalizing s a with
  | nil => rfl
  | cons v vs ih =>
    refine (ih _ (a + 1)).trans ?_
    split <;> simp

theorem Awake.writeByte {s : State} (h : Awake s) (a : Nat) (v : Byte) :
    Awake (({ s with sent := [] } : State).writeByte a v) := by
  obtain ⟨wake, mode, store, sent⟩ := State.writeByte_frame { s with sent := [] } a v
  exact ⟨by rw [mode]; exact h.mode, wake.trans h.quiet, by rw [store]; exact h.reported⟩

/-! ### The ranges of 9.1 -/

theorem State.writeBytes_single (s : State) {a : Nat} (inside : a < 0x8000) (v : Byte) : s.writeBytes a [v] = s.writeByte a v := by
  simp [State.writeBytes, inside]

/-- A byte that is not guarded and is no card's state byte is stored. -/
theorem State.writeByte_stored (s : State) {a : Nat} (home : Memory.home a = true)
    (plain : ¬(0x1000 ≤ a ∧ a < 0x3000 ∧ (a - 0x1000) % 64 = 0)) (v : Byte) :
    s.writeByte a v = s.setMem (Memory.write s.board.mem a [v]) := by
  have range : (0x00C0 ≤ a ∧ a < 0x0100) ∨ (0x0400 ≤ a ∧ a < 0x0A00) ∨ (0x0C80 ≤ a ∧ a < 0x8000) := by
    simpa [Memory.home, or_assoc] using home
  unfold State.writeByte
  split_ifs <;> first | rfl | omega

/-- A byte the HC40 owns is left and MISUSE latches. -/
theorem State.writeByte_guarded (s : State) {a : Nat}
    (range : a < 0x00C0 ∨ (0x0A00 ≤ a ∧ a < 0x0C80) ∨ (0x0100 ≤ a ∧ a < 0x0400 ∧ (a - 0x0100) % 16 ≠ 2)) (v : Byte) :
    s.writeByte a v = s.misuse := by
  unfold State.writeByte
  split_ifs <;> first | rfl | omega

theorem State.writeByte_cardState (s : State) {n : Nat} (hn : n < 128) (v : Byte) :
    s.writeByte (cardAddr n 0) v = s.writeCardState n v := by
  have e : cardAddr n 0 = 0x1000 + 64 * n := rfl
  unfold State.writeByte
  rw [e]
  split_ifs <;> first | omega | (congr 1; omega)

theorem exec_exchangeWrite_of_awake {s : State} (h : Awake s) (off : BitVec 15) (vs : List Byte) :
    exec (.exchangeWrite off vs) s = .next (({ s with sent := [] } : State).writeBytes off.toNat vs) :=
  State.live_of_awake h (fun t => t.writeBytes_frame _ vs)

theorem exec_exchangeWrite_byte {s : State} (h : Awake s) (off : BitVec 15) (v : Byte) :
    exec (.exchangeWrite off [v]) s = .next (({ s with sent := [] } : State).writeByte off.toNat v) := by
  rw [exec_exchangeWrite_of_awake h, State.writeBytes_single _ off.isLt]

/-- Settles O14, range by range; a wider write is the write of its first byte followed by the others. -/
theorem exchangeWrites : Obligations.ExchangeWrites := by
  intro s off v awake a misused
  have one : exec (.exchangeWrite off [v]) s = .next (({ s with sent := [] } : State).writeByte a v) :=
    exec_exchangeWrite_byte awake off v
  refine ⟨fun home plain => ?stored, fun range => ?guarded, fun k hk at' => ?acknowledge, fun n hn at' => ?state,
    fun w vs t inside first => ?wide⟩
  case stored =>
    rw [State.writeByte_stored _ home plain] at one
    refine ⟨_, one, ?_, fun b ne => ?_, rfl, rfl⟩
    · exact Memory.read_write_inside s.board.mem a [v] 0 (by simp) (by simpa using home)
    · exact Memory.read_write_outside s.board.mem a [v] b (by simp only [List.length_singleton]; omega)
  case guarded => rw [one, State.writeByte_guarded _ range]; rfl
  case acknowledge =>
    have ack (u : Byte) (c : Instr) (written : exec c s = s.live (fun t => t.writeAcknowledge k u)) :
        exec c s = .next (({ s with sent := [] } : State).writeAcknowledge k u) := by
      rw [written, State.live_of_awake awake (fun t => t.wake_writeAcknowledge k u)]
    have byte : ({ s with sent := [] } : State).writeByte a v = ({ s with sent := [] } : State).writeAcknowledge k v := by
      rw [← State.writeBytes_acknowledge _ hk, at', State.writeBytes_single _ (by omega)]
    rw [one, byte, ack 0x01 (.acknowledge k) rfl, ack 0x02 (.clearEntry k) rfl]
    by_cases is1 : v = 0x01
    · rw [if_pos is1, is1]
    · by_cases is2 : v = 0x02
      · rw [if_neg is1, if_pos is2, is2]
      · rw [if_neg is1, if_neg is2, State.writeAcknowledge_misuse _ _ is1 is2]; rfl
  case state => rw [one, at', State.writeByte_cardState _ hn, exec_postedWrite_of_awake awake]
  case wide =>
    obtain rfl : ({ s with sent := [] } : State).writeByte a v = t := Host.Outcome.next.inj (one.symm.trans first)
    have awake' : Awake (({ s with sent := [] } : State).writeByte a v) :=
      awake.writeByte a v
    have next : (off + 1).toNat = a + 1 := by
      rw [BitVec.toNat_add]
      exact Nat.mod_eq_of_lt inside
    rw [exec_exchangeWrite_of_awake awake, exec_exchangeWrite_of_awake awake', next]
    have cleared (u : State) (h : u.sent = []) : ({ u with sent := [] } : State) = u := by cases u; cases h; rfl
    rw [cleared (({ s with sent := [] } : State).writeByte a v) (State.writeByte_frame _ a v).2.2.2, State.writeBytes, if_pos off.isLt]

/-- Settles O16: a whole word's write is the row of its register, every other write latches MISUSE. -/
theorem registerWrites : Obligations.RegisterWrites := by
  intro s off width v awake misused
  have write (off width : Nat) (v : Word) :
      exec (.registerWrite off width v) s = s.live (fun t => if width = 4 then t.writeRegister off v else t.misuse) := rfl
  have misuse (off width : Nat) (v : Word)
      (other : (fun t : State => if width = 4 then t.writeRegister off v else t.misuse) = State.misuse) :
      exec (.registerWrite off width v) s = misused := by
    rw [write, other, State.live_of_awake awake State.wake_misuse]; rfl
  refine ⟨rfl, rfl, rfl, fun n1 n2 n3 => misuse _ _ _ ?_, State.live_of_awake awake (f := fun t => t.clearCauses v) (fun _ => rfl), rfl,
    State.live_of_awake awake (f := fun t => t.setEnables v) (fun _ => rfl), rfl, fun n4 n8 nC => misuse _ _ _ ?_, fun narrow => misuse _ _ _ ?_⟩
  · funext t; exact (if_pos rfl).trans ((if_pos rfl).trans ((if_neg n1).trans ((if_neg n2).trans (if_neg n3))))
  · funext t; simp [State.writeRegister, n4, n8, nC]
  · funext t; simp [narrow]

end Sys2Proof.Machine
end

section
/-! PROOF. What a place record holds after each change of the place map, and the requests to mode control (the statement
ModeRequests). -/

namespace Sys2Proof.Machine

/-! ### The place map's rules -/

/-- Starting, keeping or stopping the mismatch timer alters that timer alone (R11). -/
@[simp] theorem State.retimed_frame (s : State) (p : Nat) (q : Place) :
    (s.retimed p q).entries = q.entries ∧ (s.retimed p q).res = q.res ∧ (s.retimed p q).lock = q.lock ∧
    (s.retimed p q).fitted = q.fitted ∧ (s.retimed p q).retired = q.retired ∧ (s.retimed p q).retiring = q.retiring ∧
    (s.retimed p q).frozen = q.frozen ∧ (s.retimed p q).barred = q.barred ∧ (s.retimed p q).awaiting = q.awaiting ∧
    (s.retimed p q).sensed = q.sensed := by
  unfold State.retimed
  split <;> simp

theorem State.place_eq_of_places {s t : State} (h : t.places = s.places) (p : Nat) : t.place p = s.place p := by
  simp [State.place, h]

@[simp] theorem State.place_writeMirror (s : State) (p r : Nat) : (s.writeMirror p).place r = s.place r := rfl

theorem State.place_setPlace (s : State) (p : Nat) (q : Place) (r : Nat) :
    (s.setPlace p q).place r = if p = r ∧ r < 169 then s.retimed p q else s.place r := by
  have e : (s.setPlace p q).places = s.places.setIfInBounds p (s.retimed p q) := by simp [State.setPlace]
  simp only [State.place, e, Vector.getElem?_setIfInBounds]
  by_cases h : p = r
  · subst h
    by_cases hp : p < 169 <;> simp [hp]
  · simp [h]

theorem State.place_setPlace_self (s : State) {p : Nat} (q : Place) (hp : p < 169) :
    (s.setPlace p q).place p = s.retimed p q := by simp [State.place_setPlace, hp]

theorem State.place_setPlace_ne (s : State) {p r : Nat} (q : Place) (ne : p ≠ r) : (s.setPlace p q).place r = s.place r := by
  simp [State.place_setPlace, ne]

@[simp] theorem State.place_tellAll (s : State) (rs : List Retry) (p : Nat) : (s.tellAll rs).place p = s.place p :=
  State.place_eq_of_places (by simp) p

@[simp] theorem State.place_afterReservation (s : State) (p r : Nat) : (s.afterReservation p).place r = s.place r :=
  State.place_eq_of_places (by simp) r

theorem State.place_unreserve_ne (s : State) {p r : Nat} (ne : p ≠ r) : (s.unreserve p).place r = s.place r := by
  simp [State.unreserve, State.place_setPlace_ne _ _ ne]

theorem State.place_unreserve_self (s : State) {p : Nat} (hp : p < 169) :
    (s.unreserve p).place p = s.retimed p { s.place p with res := (s.place p).res - 1 } := by
  simp [State.unreserve, State.place_setPlace_self _ _ hp]

/-- The reservations released by a list of stops, place by place (R102). -/
theorem State.res_releaseStops (s : State) (stops : List Stop) {q : Nat} (hq : q < 169) :
    ((s.releaseStops stops).place q).res = (s.place q).res - stops.countP (fun st => st.reserved && st.place == q) := by
  induction stops generalizing s with
  | nil => rfl
  | cons st stops ih =>
    refine (ih _).trans ?_
    rw [List.countP_cons]
    by_cases reserved : st.reserved = true
    · by_cases here : st.place = q
      · subst here
        simp [reserved, State.place_unreserve_self _ hq]
        omega
      · simp [reserved, here, State.place_unreserve_ne _ here]
    · simp [reserved]

/-! ### An event of a live state -/

theorem exec_of_awake {s : State} {c : Instr} {f : State → State} (awake : Awake s) (e : exec c s = s.live f) :
    exec c s = .next (f { s with sent := [] }).resolved := by
  rw [e, State.live, State.event, State.begin_of_reported awake.reported, if_neg awake.mode]

/-! ### Becoming CONFIG (R122, R176) -/

@[simp] theorem State.parkLift_calm (s : State) (x : Side) : (s.parkLift x).calm = s.calm := by simp [State.parkLift]

@[simp] theorem State.releaseStops_calm (s : State) (stops : List Stop) : (s.releaseStops stops).calm = s.calm :=
  foldl_calm _ (fun t st => by split <;> simp) stops s

@[simp] theorem State.discardPlan_calm (s : State) (x : Side) : (s.discardPlan x).calm = s.calm := by
  unfold State.discardPlan
  split <;> simp

@[simp] theorem State.parkWhenIdle_calm (s : State) (x : Side) : (s.parkWhenIdle x).calm = s.calm := by
  unfold State.parkWhenIdle
  split <;> simp

theorem State.changeMode_calm (s : State) (m : Mode) : (s.changeMode m).calm = { s.calm with mode := m, latchMode := true } := rfl

/-- The neighbours that a plan's end and a lift's parking tell: none of them can do anything outside RUN where no card is
open. -/
def Retry.ofRoom : Retry → Bool
  | .walk => true
  | .plan _ => true
  | .divert => true
  | _ => false

theorem ofRoom_of_mem_toldRoom {p : Nat} {r : Retry} (h : r ∈ toldRoom p) : r.ofRoom = true := by
  unfold toldRoom at h
  split at h
  · rcases List.mem_append.1 h with h | h
    · rcases List.mem_pair.1 h with rfl | rfl <;> rfl
    · split at h
      · rcases List.mem_singleton.1 h with rfl; rfl
      · cases h
  · cases h

theorem State.ofRoom_unreserve {s : State} (h : ∀ r ∈ s.wake, r.ofRoom = true) (p : Nat) :
    ∀ r ∈ (s.unreserve p).wake, r.ofRoom = true := by
  intro r hr
  simp only [State.unreserve, State.afterReservation_frame, State.mem_tellAll, State.setPlace_frame] at hr
  exact hr.elim (h r) ofRoom_of_mem_toldRoom

theorem State.ofRoom_releaseStops (stops : List Stop) {s : State} (h : ∀ r ∈ s.wake, r.ofRoom = true) :
    ∀ r ∈ (s.releaseStops stops).wake, r.ofRoom = true := by
  induction stops generalizing s with
  | nil => exact h
  | cons st stops ih =>
    refine ih ?_
    dsimp only
    split
    · exact State.ofRoom_unreserve h _
    · exact h

theorem State.ofRoom_discardPlan {s : State} (h : ∀ r ∈ s.wake, r.ofRoom = true) (x : Side) :
    ∀ r ∈ (s.discardPlan x).wake, r.ofRoom = true := by
  unfold State.discardPlan
  split
  · exact h
  · exact State.ofRoom_releaseStops _ (by simpa using h)

theorem State.ofRoom_parkWhenIdle {s : State} (h : ∀ r ∈ s.wake, r.ofRoom = true) (x : Side) :
    ∀ r ∈ (s.parkWhenIdle x).wake, r.ofRoom = true := by
  unfold State.parkWhenIdle
  split
  · intro r hr
    simp only [State.parkLift, State.mem_tell, State.queueLift_frame, State.wake_updateLift] at hr
    rcases hr with hr | rfl
    · exact State.ofRoom_discardPlan h x r hr
    · rfl
  · exact h

@[simp] theorem State.parkWhenIdle_frame (s : State) (x : Side) :
    (s.parkWhenIdle x).mode = s.mode ∧ (s.parkWhenIdle x).contexts = s.contexts := by
  unfold State.parkWhenIdle
  split <;> simp

theorem State.runRetry_ofRoom {s : State} (mode : s.mode ≠ .run) (noOrder : ∀ n, s.ctx n = none) {r : Retry}
    (h : r.ofRoom = true) : s.runRetry r = none := by
  cases r with
  | walk => simp [State.runRetry, State.walk, mode]
  | plan x => simp [State.runRetry, State.tryPlan, mode]
  | divert =>
    unfold State.runRetry State.divertChoice
    (repeat' split) <;> simp_all
  | _ => cases h

/-! ### The lift units' rules -/

theorem State.lift_congr {s t : State} (h : t.lifts = s.lifts) (x : Side) : t.lift x = s.lift x := by simp [State.lift, h]

@[simp] theorem State.lift_tell (s : State) (r : Retry) (x : Side) : (s.tell r).lift x = s.lift x := State.lift_congr (by simp) x

@[simp] theorem State.lift_tellAll (s : State) (rs : List Retry) (x : Side) : (s.tellAll rs).lift x = s.lift x :=
  State.lift_congr (by simp) x

@[simp] theorem State.lift_transmit (s : State) (f : Frame) (x : Side) : (s.transmit f).lift x = s.lift x := rfl

@[simp] theorem State.lift_releaseStops (s : State) (stops : List Stop) (x : Side) :
    (s.releaseStops stops).lift x = s.lift x := State.lift_congr (by simp) x

theorem State.lift_pump_ne (s : State) {x y : Side} (ne : x ≠ y) : (s.pump x).lift y = s.lift y := by
  unfold State.pump
  dsimp only
  (repeat' split) <;> simp [State.lift_setLift_ne _ _ _ _ ne]

/-- Sending the first command alters the command frame number, the send count and the echo timer alone (R110). -/
@[simp] theorem State.lift_pump_frame (s : State) (x y : Side) :
    ((s.pump x).lift y).state = (s.lift y).state ∧ ((s.pump x).lift y).counter = (s.lift y).counter ∧
    ((s.pump x).lift y).trip = (s.lift y).trip ∧ ((s.pump x).lift y).pending = (s.lift y).pending ∧
    ((s.pump x).lift y).queue = (s.lift y).queue ∧ ((s.pump x).lift y).stray = (s.lift y).stray ∧
    ((s.pump x).lift y).park = (s.lift y).park ∧ ((s.pump x).lift y).wake = (s.lift y).wake ∧
    ((s.pump x).lift y).silence = (s.lift y).silence ∧ ((s.pump x).lift y).needStatus = (s.lift y).needStatus ∧
    ((s.pump x).lift y).ask = (s.lift y).ask ∧ ((s.pump x).lift y).awaitReady = (s.lift y).awaitReady := by
  by_cases h : x = y
  · subst h
    unfold State.pump
    dsimp only
    (repeat' split) <;> simp
  · simp [State.lift_pump_ne s h]

theorem State.lift_queueLift_ne (s : State) {x y : Side} (c : LiftCmd) (ne : x ≠ y) : (s.queueLift x c).lift y = s.lift y := by
  simp [State.queueLift, State.lift_pump_ne _ ne, State.lift_updateLift_ne _ _ _ _ ne]

/-- Queueing a command alters the queue and what sending the first command alters (R110). -/
@[simp] theorem State.lift_queueLift_frame (s : State) (x y : Side) (c : LiftCmd) :
    ((s.queueLift x c).lift y).state = (s.lift y).state ∧ ((s.queueLift x c).lift y).counter = (s.lift y).counter ∧
    ((s.queueLift x c).lift y).trip = (s.lift y).trip ∧ ((s.queueLift x c).lift y).pending = (s.lift y).pending ∧
    ((s.queueLift x c).lift y).stray = (s.lift y).stray ∧
    ((s.queueLift x c).lift y).park = (s.lift y).park ∧ ((s.queueLift x c).lift y).wake = (s.lift y).wake ∧
    ((s.queueLift x c).lift y).silence = (s.lift y).silence ∧ ((s.queueLift x c).lift y).needStatus = (s.lift y).needStatus ∧
    ((s.queueLift x c).lift y).ask = (s.lift y).ask ∧ ((s.queueLift x c).lift y).awaitReady = (s.lift y).awaitReady := by
  by_cases h : x = y
  · subst h
    simp [State.queueLift]
  · simp [State.lift_queueLift_ne s c h]

@[simp] theorem State.queue_queueLift (s : State) (x : Side) (c : LiftCmd) :
    ((s.queueLift x c).lift x).queue = (s.lift x).queue ++ [c] := by simp [State.queueLift]

theorem State.discardPlan_lift_ne (s : State) {x y : Side} (ne : x ≠ y) : (s.discardPlan x).lift y = s.lift y := by
  unfold State.discardPlan
  split <;> simp [State.lift_updateLift_ne _ _ _ _ ne]

/-- Discarding a lift's plan alters no field of its record but the plan (R102). -/
theorem State.discardPlan_lift (s : State) (x : Side) : (s.discardPlan x).lift x = { s.lift x with pending := none } := by
  unfold State.discardPlan
  split
  · next h => cases e : s.lift x; simp [e] at h; simp [h]
  · simp

theorem State.parkLift_lift_ne (s : State) {x y : Side} (ne : x ≠ y) : (s.parkLift x).lift y = s.lift y := by
  simp [State.parkLift, State.lift_queueLift_ne _ _ ne, State.lift_updateLift_ne _ _ _ _ ne]

theorem State.parkWhenIdle_lift_ne (s : State) {x y : Side} (ne : x ≠ y) : (s.parkWhenIdle x).lift y = s.lift y := by
  unfold State.parkWhenIdle
  split <;> simp [State.parkLift_lift_ne _ ne, State.discardPlan_lift_ne _ ne]

theorem State.parkWhenIdle_lift_of_busy {s : State} {x : Side} (busy : (s.lift x).state ≠ .idle) : s.parkWhenIdle x = s := by
  simp [State.parkWhenIdle, busy]

/-- An idle lift that is parked at becoming CONFIG (R122). -/
theorem State.parkWhenIdle_lift_of_idle {s : State} {x : Side} (idle : (s.lift x).state = .idle) :
    let l := (s.parkWhenIdle x).lift x
    l.state = .parking ∧ l.pending = none ∧ l.queue = (s.lift x).queue ++ [.park] ∧ l.park = none ∧ l.wake = some 5000 ∧
      l.trip = (s.lift x).trip := by
  simp [State.parkWhenIdle, idle, State.parkLift, State.discardPlan_lift, wakeLimit]

/-- The stops of the plan that parking lift `x` at becoming CONFIG discards. -/
def State.parkedStops (s : State) (x : Side) : List Stop :=
  match (s.lift x).state, (s.lift x).pending with
  | .idle, some p => p.stops
  | _, _ => []

theorem State.parkWhenIdle_res (s : State) (x : Side) {q : Nat} (hq : q < 169) :
    ((s.parkWhenIdle x).place q).res =
      (s.place q).res - (s.parkedStops x).countP (fun st => st.reserved && st.place == q) := by
  unfold State.parkWhenIdle State.parkedStops
  by_cases idle : (s.lift x).state = .idle
  · have parked : ((s.discardPlan x).parkLift x).place q = (s.discardPlan x).place q := State.place_eq_of_places (by simp) q
    rw [if_pos idle, parked, State.discardPlan, idle]
    cases pending : (s.lift x).pending with
    | none => rfl
    | some p => exact State.res_releaseStops _ _ hq
  · rw [if_neg idle]
    cases e : (s.lift x).state <;> first | rfl | exact absurd e idle

theorem State.place_changeMode (s : State) (m : Mode) (p : Nat) : (s.changeMode m).place p = s.place p := rfl

/-- Becoming CONFIG with no open card: no neighbour told of it has anything to do. -/
theorem State.resolved_enterConfig {s : State} (quiet : s.wake = []) (noOrder : ∀ n, s.ctx n = none) :
    s.enterConfig.resolved = { s.enterConfig with wake := [] } := by
  have none (n : Nat) : s.enterConfig.ctx n = none := by simpa [State.enterConfig, State.ctx, State.changeMode] using noOrder n
  have mode : s.enterConfig.mode = .config := by simp [State.enterConfig, State.changeMode]
  refine State.resolved_of_stuck fun r hr => State.runRetry_ofRoom (by simp [mode]) none ?_
  refine State.ofRoom_parkWhenIdle (State.ofRoom_parkWhenIdle (fun q hq => ?_) _) _ r hr
  rw [show (s.changeMode .config).wake = [] from quiet] at hq
  cases hq

theorem State.anyOpen_iff (s : State) : s.anyOpen = true ↔ ∃ n, n < 128 ∧ s.ctx n ≠ none := by
  simp only [State.anyOpen, State.findOpen, List.find?_isSome, List.mem_range]
  refine exists_congr fun n => and_congr_right fun _ => ?_
  cases s.ctx n <;> simp

theorem State.anyOpen_of_none {s : State} (noOrder : ∀ n, s.ctx n = none) : s.anyOpen = false := by
  rw [Bool.eq_false_iff]
  exact fun h => (s.anyOpen_iff.1 h).elim fun n hn => hn.2 (noOrder n)

theorem State.enterRun_calm (s : State) : s.enterRun.calm = { s.calm with mode := .run, latchMode := true } := by
  simp [State.enterRun, State.changeMode_calm]

theorem State.enterConfig_calm (s : State) : s.enterConfig.calm = { s.calm with mode := .config, latchMode := true } := by
  simp [State.enterConfig, State.changeMode_calm]

/-! ### The requests by the present mode (R176) -/

section
variable (s : State)

theorem State.requestedRun_refused (m : s.mode = .config) (why : s.hasProfile = false ∨ s.lines.eStop = true ∨ s.profileBusy = true) :
    s.requestedRun = s.refuseRequest := by
  have stop : (!s.hasProfile || s.lines.eStop || s.profileBusy) = true := by simpa [or_assoc] using why
  simp [State.requestedRun, m, stop]

theorem State.requestedRun_taken (m : s.mode = .config) (p : s.hasProfile = true) (e : s.lines.eStop = false)
    (b : s.profileBusy = false) : s.requestedRun = s.enterRun := by simp [State.requestedRun, m, p, e, b]

theorem State.requestedRun_of_run (m : s.mode = .run) : s.requestedRun = s := by simp [State.requestedRun, m]

theorem State.requestedRun_of_hold (m : s.mode = .hold) :
    s.requestedRun = if s.lines.eStop then s.refuseRequest else s.enterRun := by simp [State.requestedRun, m]

theorem State.requestedHold_of_config (m : s.mode = .config) : s.requestedHold = s.refuseRequest := by simp [State.requestedHold, m]

theorem State.requestedHold_of_run (m : s.mode = .run) : s.requestedHold = s.changeMode .hold := by simp [State.requestedHold, m]

theorem State.requestedHold_of_hold (m : s.mode = .hold) : s.requestedHold = s := by simp [State.requestedHold, m]

theorem State.requestedConfig_of_config (m : s.mode = .config) : s.requestedConfig = s := by simp [State.requestedConfig, m]

theorem State.requestedConfig_of_run (m : s.mode = .run) : s.requestedConfig = s.refuseRequest := by simp [State.requestedConfig, m]

theorem State.requestedConfig_of_hold (m : s.mode = .hold) :
    s.requestedConfig = if s.anyOpen then s.refuseRequest else s.enterConfig := by simp [State.requestedConfig, m]

end

/-- Parking at becoming CONFIG, lift by lift (R122). -/
theorem State.enterConfig_lift (s : State) (x : Side) :
    ((s.lift x).state ≠ .idle → s.enterConfig.lift x = s.lift x) ∧
    ((s.lift x).state = .idle →
      let l := s.enterConfig.lift x
      l.state = .parking ∧ l.pending = none ∧ l.queue = (s.lift x).queue ++ [.park] ∧ l.park = none ∧ l.wake = some 5000 ∧
        l.trip = (s.lift x).trip) := by
  have ab : Side.a ≠ .b := by decide
  have own : ∃ u : State, u.lift x = s.lift x ∧ s.enterConfig.lift x = (u.parkWhenIdle x).lift x := by
    cases x with
    | a => exact ⟨s.changeMode .config, rfl, State.parkWhenIdle_lift_ne _ ab.symm⟩
    | b => exact ⟨(s.changeMode .config).parkWhenIdle .a, State.parkWhenIdle_lift_ne _ ab, rfl⟩
  obtain ⟨u, same, eq⟩ := own
  rw [eq, ← same]
  exact ⟨fun busy => by rw [State.parkWhenIdle_lift_of_busy busy], fun idle => State.parkWhenIdle_lift_of_idle idle⟩

/-- The reservations released at becoming CONFIG (R102, R122). -/
theorem State.enterConfig_res (s : State) {q : Nat} (hq : q < 169) :
    (s.enterConfig.place q).res =
      (s.place q).res - (s.parkedStops .a ++ s.parkedStops .b).countP (fun st => st.reserved && st.place == q) := by
  have b : ((s.changeMode .config).parkWhenIdle .a).parkedStops .b = s.parkedStops .b := by
    unfold State.parkedStops
    rw [State.parkWhenIdle_lift_ne _ (by decide)]
    rfl
  unfold State.enterConfig
  rw [State.parkWhenIdle_res _ _ hq, State.parkWhenIdle_res _ _ hq, b, List.countP_append, Nat.sub_sub]
  rfl

/-- Settles O12, mode by mode. -/
theorem modeRequests : Obligations.ModeRequests := by
  intro s awake same refused taken
  let u : State := { s with sent := [] }
  have quiet : u.wake = [] := awake.quiet
  have config : exec .requestConfig s = .next u.requestedConfig.resolved := exec_of_awake awake rfl
  have run : exec .requestRun s = .next u.requestedRun.resolved := exec_of_awake awake rfl
  have hold : exec .requestHold s = .next u.requestedHold.resolved := exec_of_awake awake rfl
  have stays {c : Instr} {t : State} (e : exec c s = .next t.resolved) (idle : t = u) : exec c s = same := by
    rw [e, idle, State.resolved_quiet quiet]
  have refuses {c : Instr} {t : State} (e : exec c s = .next t.resolved)
      (refuse : t = u.refuseRequest) : exec c s = refused := by
    rw [e, refuse, State.resolved_quiet (s := u.refuseRequest) quiet]; rfl
  have takes {c : Instr} {t : State} {m : Mode} (e : exec c s = .next t.resolved)
      (calm : t.calm = { s.calm with mode := m, latchMode := true }) : taken c m :=
    ⟨_, e, State.resolved_calm.trans calm⟩
  have configured (m : s.mode = .hold) (none : ∀ n, s.ctx n = none) :
      u.requestedConfig = u.enterConfig := by
    rw [State.requestedConfig_of_hold u m, if_neg (by rw [State.anyOpen_of_none (s := u) none]; decide)]
  refine ⟨fun m why => refuses run (State.requestedRun_refused u m why),
    fun m p e b => takes run (by rw [State.requestedRun_taken u m p e b]; exact State.enterRun_calm u),
    fun m => ⟨refuses hold (State.requestedHold_of_config u m), stays config (State.requestedConfig_of_config u m)⟩,
    fun m => ⟨takes hold (by rw [State.requestedHold_of_run u m]; rfl), refuses config (State.requestedConfig_of_run u m),
      stays run (State.requestedRun_of_run u m)⟩,
    fun m e => refuses run ((State.requestedRun_of_hold u m).trans (if_pos e)),
    fun m e => takes run (by rw [State.requestedRun_of_hold u m, if_neg (by rw [e]; decide)]; exact State.enterRun_calm u),
    fun m some => refuses config ((State.requestedConfig_of_hold u m).trans (if_pos (u.anyOpen_iff.2 some))),
    fun m none => takes config (by rw [configured m none]; exact State.enterConfig_calm u),
    fun m none => ?parked, fun m => stays hold (State.requestedHold_of_hold u m)⟩
  have led : exec .requestConfig s = .next { u.enterConfig with wake := [] } := by
    rw [config, configured m none, State.resolved_enterConfig quiet none]
  refine ⟨_, led, fun x => State.enterConfig_lift u x, fun q hq => ?_⟩
  exact State.enterConfig_res u (Nat.lt_of_lt_of_le hq (by decide))

end Sys2Proof.Machine
end

section
/-! PROOF. What a read returns: the views of the exchange memory, the place mirror and the registers (the statement Reads). -/

namespace Sys2Proof.Machine

/-! ### Bytes of words (4.1) -/

theorem half_bytes (x : Half) : half (x.extractLsb' 0 8) (x.extractLsb' 8 8) = x := by
  refine BitVec.eq_of_getLsbD_eq fun i hi => ?_
  simp only [half, BitVec.getLsbD_append, BitVec.getLsbD_extractLsb']
  by_cases h : i < 8
  · simp [h]
  · simp [h, show i - 8 < 8 by omega, show 8 + (i - 8) = i by omega]

theorem word_bytes (x : Word) :
    word (x.extractLsb' 0 8) (x.extractLsb' 8 8) (x.extractLsb' 16 8) (x.extractLsb' 24 8) = x := by
  refine BitVec.eq_of_getLsbD_eq fun i hi => ?_
  simp only [word, BitVec.getLsbD_append, BitVec.getLsbD_extractLsb']
  by_cases h8 : i < 8
  · simp [h8]
  · by_cases h16 : i < 16
    · simp [h8, show i - 8 < 8 by omega, show 8 + (i - 8) = i by omega]
    · by_cases h24 : i < 24
      · simp [h8, show ¬i - 8 < 8 by omega, show i - 8 - 8 < 8 by omega, show 16 + (i - 8 - 8) = i by omega]
      · simp [h8, show ¬i - 8 < 8 by omega, show ¬i - 8 - 8 < 8 by omega, show i - 8 - 8 - 8 < 8 by omega,
          show 24 + (i - 8 - 8 - 8) = i by omega]

/-! ### The views of 9.1, range by range -/

section
variable (s : State)

theorem State.exchangeByte_header {i : Nat} (h : i < 0x40) : s.exchangeByte i = s.headerByte i := if_pos h

theorem State.headerByte_spare {i : Nat} (h : 7 ≤ i) : s.headerByte i = 0x00 := by
  unfold State.headerByte
  split <;> first | omega | rfl

theorem State.exchangeByte_finish {i : Nat} (h : i < 128) : s.exchangeByte (0x40 + i) = s.finishByte i := by
  unfold State.exchangeByte
  rw [if_neg (by omega), if_pos (by omega)]
  congr 1
  omega

theorem State.exchangeByte_condition {k i : Nat} (hk : k < 48) (hi : i < 16) :
    s.exchangeByte (0x0100 + 16 * k + i) = (s.cond k).byte i := by
  unfold State.exchangeByte
  rw [if_neg (by omega), if_neg (by omega), if_pos (by omega), show (0x0100 + 16 * k + i - 0x0100) / 16 = k by omega,
    show (0x0100 + 16 * k + i - 0x0100) % 16 = i by omega]

theorem State.exchangeByte_profile {i : Nat} (h : i < 512) :
    s.exchangeByte (0x0A00 + i) = ((s.store.active.getD [])[i]?).getD 0x00 := by
  unfold State.exchangeByte
  rw [if_neg (by omega), if_neg (by omega), if_neg (by omega), if_pos (by omega), show 0x0A00 + i - 0x0A00 = i by omega]

theorem State.exchangeByte_slot {j i : Nat} (hj : j < 32) (hi : i < 4) :
    s.exchangeByte (0x0C00 + 4 * j + i) = ((s.store.slots[j]?).map (fun x => slotByte x i)).getD 0x00 := by
  unfold State.exchangeByte
  rw [if_neg (by omega), if_neg (by omega), if_neg (by omega), if_neg (by omega), if_pos (by omega)]
  simp only [show (0x0C00 + 4 * j + i - 0x0C00) / 4 = j by omega, show (0x0C00 + 4 * j + i - 0x0C00) % 4 = i by omega]

theorem State.exchangeByte_memory {a : Nat}
    (h : (0x00C0 ≤ a ∧ a < 0x0100) ∨ (0x0400 ≤ a ∧ a < 0x0A00) ∨ (0x0C80 ≤ a)) :
    s.exchangeByte a = Memory.read s.board.mem a := by
  unfold State.exchangeByte
  rw [if_neg (by omega), if_neg (by omega), if_neg (by omega), if_neg (by omega), if_neg (by omega)]

/-- The condition codes by their number (9.7). -/
def condCodes : List (Option Cond) := [none, some .stall, some .overdue, some .idMismatch, some .foreignOut, some .unreadable,
  some .noCard, some .levelClosed, some .rejectFull, some .overrun, some .fault, some .lostLock, some .wakeFail,
  some .reconciled, some .checkErrors, some .nodeDead, some .nodeCut, some .storeFault, some .noProfile, some .frozen,
  some .grantOverdue, some .overflow, some .reportGap, some .noCardAsk, some .foreignStored]

theorem condCodes_condByte (c : Option Cond) : condCodes[((c.map condByte).getD 0x00).toNat]? = some c := by
  cases c with
  | none => rfl
  | some c => cases c <;> rfl

/-! ### The place mirror (R21) -/

theorem State.length_mirrorRecord (p : Nat) : (s.mirrorRecord p).length = 8 := by
  unfold State.mirrorRecord
  split <;> rfl

theorem home_mirror {p i : Nat} (hp : p < 169) (hi : i < 8) : Memory.home (0x3000 + 8 * p + i) = true := by
  simp [Memory.home]
  omega

theorem State.read_writeMirror_inside {p i : Nat} (hp : p < 169) (hi : i < 8) :
    Memory.read (s.writeMirror p).board.mem (0x3000 + 8 * p + i) = (s.mirrorRecord p).getD i 0x00 := by
  have len := s.length_mirrorRecord p
  rw [show (s.writeMirror p).board.mem = Memory.write s.board.mem (0x3000 + 8 * p) (s.mirrorRecord p) from rfl,
    Memory.read_write_inside _ _ _ i (by omega) (home_mirror hp hi)]
  simp [List.getD, len, hi]

theorem State.read_writeMirror_outside {p a : Nat} (h : a < 0x3000 + 8 * p ∨ 0x3008 + 8 * p ≤ a) :
    Memory.read (s.writeMirror p).board.mem a = Memory.read s.board.mem a :=
  Memory.read_write_outside _ _ _ _ (by rw [s.length_mirrorRecord p]; omega)

theorem State.writeMirror_mirrored {p : Nat} (hp : p < 169) : (s.writeMirror p).Mirrored p :=
  fun _ hi => s.read_writeMirror_inside hp hi

theorem State.exchangeByte_writeMirror {p a : Nat} (hp : p < 169) (h : a < 0x3000 + 8 * p ∨ 0x3008 + 8 * p ≤ a) :
    (s.writeMirror p).exchangeByte a = s.exchangeByte a := by
  unfold State.exchangeByte
  rw [s.read_writeMirror_outside h]
  rfl

/-- A place's record is replaced: the mirror shows what changed of it (R21). -/
theorem State.setPlace_mirrored {p : Nat} (hp : p < 169) (q : Place)
    (shown : s.Mirrored p ∨ (s.setPlace p q).mirrorRecord p ≠ s.mirrorRecord p ∨ q.mirrored ≠ (s.place p).mirrored) :
    (s.setPlace p q).Mirrored p := by
  generalize hu : ({ s with places := s.places.setIfInBounds p (s.retimed p q) } : State) = u
  have place : u.place p = s.retimed p q := by
    subst hu
    simp [State.place, Vector.getElem?_setIfInBounds, hp]
  have set : s.setPlace p q = if u.mirrorChanged s p then u.writeMirror p else u := by subst hu; rfl
  rw [set] at shown ⊢
  split
  · exact u.writeMirror_mirrored hp
  · next same =>
    have mem : u.board.mem = s.board.mem := by subst hu; rfl
    simp only [State.mirrorChanged, place, bne_iff_ne, ne_eq, Bool.or_eq_true, not_or, not_not] at same
    obtain ⟨sameFields, sameRecord⟩ := same
    rw [if_neg (by simp [State.mirrorChanged, place, sameFields, sameRecord])] at shown
    rcases shown with shown | differs | differs
    · intro i hi
      rw [mem, sameRecord]
      exact shown i hi
    · exact absurd sameRecord differs
    · refine absurd ?_ differs
      rw [← sameFields]
      unfold State.retimed
      split <;> rfl

theorem Place.fields_of_mirrored {q r : Place} (h : q.mirrored = r.mirrored) :
    q.entries = r.entries ∧ q.res = r.res ∧ q.lock = r.lock ∧ q.fitted = r.fitted ∧ q.retired = r.retired ∧
      q.retiring = r.retiring ∧ q.frozen = r.frozen ∧ q.barred = r.barred ∧ q.awaiting = r.awaiting := by
  simpa [Place.mirrored] using h

theorem State.mirrorRecord_unfitted {p : Nat} (lane : p < 160) (unfitted : (s.place p).fitted = false) :
    s.mirrorRecord p = [0x00, 0x00, 0x00, 0x00, 0x00, 0xFE, 0xFE, 0xFE] := by
  simp [State.mirrorRecord, isLane, lane, unfitted]

theorem State.mirrorRecord_shown {p : Nat} (fitted : p < 160 → (s.place p).fitted = true) :
    s.mirrorRecord p = [s.statusByte p, ((s.place p).frozen.map freezeByte).getD 0x00, lockByte p (s.place p).lock,
      byteOf (s.place p).res, byteOf (s.entries p).length, s.entryAt p 0, s.entryAt p 1, s.entryAt p 2] := by
  unfold State.mirrorRecord
  rw [if_neg]
  simpa [isLane] using fitted

/-- The eight flags of a status byte stand in its eight bits (1.6). -/
theorem status_bits : ∀ a b c d e f g : Bool,
    let status : Byte := 0x01 ||| bit a 0x02 ||| bit b 0x04 ||| bit c 0x08 ||| bit d 0x10 ||| bit e 0x20 ||| bit f 0x40 ||| bit g 0x80
    status.getLsbD 0 = true ∧ status.getLsbD 1 = a ∧ status.getLsbD 2 = b ∧ status.getLsbD 3 = c ∧ status.getLsbD 4 = d ∧
      status.getLsbD 5 = e ∧ status.getLsbD 6 = f ∧ status.getLsbD 7 = g := by decide

theorem State.statusByte_of_lane_or_spur {p : Nat} (h : p < 164) (fitted : p < 160 → (s.place p).fitted = true) :
    s.statusByte p = 0x01 ||| bit (s.place p).retired 0x02 ||| bit (s.place p).retiring 0x04 |||
      bit (s.place p).frozen.isSome 0x08 ||| bit (s.place p).barred 0x10 ||| bit (s.place p).awaiting 0x20 |||
      bit (s.admitsDepartures p) 0x40 ||| bit (s.admitsArrivals p) 0x80 := by
  unfold State.statusByte
  rw [if_neg (by simpa [isLane] using fitted), if_pos (by simp [isLane, isSpur]; omega)]

theorem State.statusByte_of_deck {p : Nat} (h : 164 ≤ p) : s.statusByte p = 0x01 := by
  unfold State.statusByte
  rw [if_neg (by simp [isLane]; omega), if_neg (by simp [isLane, isSpur]; omega)]

/-! ### The register window (9.6) -/

theorem State.getLsbD_ident (i : Nat) : s.ident.getLsbD i = if i < 6 then s.board.aisle.getLsbD i
    else decide (8 ≤ i) && Config.hardwareRevision.getLsbD (i - 8) := by
  simp only [State.ident, BitVec.getLsbD_or, BitVec.getLsbD_setWidth, BitVec.getLsbD_shiftLeft]
  by_cases h : i < 6
  · simp [h, show i < 8 by omega, show i < 32 by omega]
  · by_cases h32 : i < 32
    · have none : s.board.aisle.getLsbD i = false := BitVec.getLsbD_of_ge _ _ (by omega)
      by_cases h8 : i < 8
      · simp [h, h32, h8, none, show ¬8 ≤ i by omega]
      · simp [h, h32, h8, none, show 8 ≤ i by omega, show i - 8 < 32 by omega]
    · have none : Config.hardwareRevision.getLsbD (i - 8) = false := BitVec.getLsbD_of_ge _ _ (by omega)
      simp [h, h32, none]

theorem bytes32_modeByte (m : Mode) : bytes32 ((modeByte m).setWidth 32) = [modeByte m, 0x00, 0x00, 0x00] := by
  cases m <;> rfl

theorem State.registerRead_wide {off width : Nat} (h : 4 < width) : s.registerRead off width = List.replicate width 0x00 :=
  if_neg (by omega)

theorem take_zeros {width : Nat} (h : width ≤ 4) : (bytes32 0).take width = List.replicate width 0x00 := by
  rw [show bytes32 0 = List.replicate 4 0x00 from rfl, List.take_replicate]
  congr 1
  omega

end

/-- Five words one after another, and the bytes of one of them at its place. -/
theorem take_of_window {a b c d e : Word} {off width : Nat} (ho : off ∈ [0x00, 0x04, 0x08, 0x0C, 0x10]) (hw : width ≤ 4) :
    (bytes32 ([a, b, c, d, e].getD (off / 4) 0)).take width =
      (List.range width).map (fun i => (bytes32 a ++ bytes32 b ++ bytes32 c ++ bytes32 d ++ bytes32 e).getD (off + i) 0x00) := by
  simp only [List.mem_cons, List.not_mem_nil, or_false] at ho
  rcases ho with rfl | rfl | rfl | rfl | rfl <;> interval_cases width <;> rfl

theorem State.registerRead_window (s : State) {off width : Nat} (ho : off ∈ [0x00, 0x04, 0x08, 0x0C, 0x10]) (hw : width ≤ 4) :
    s.registerRead off width = (List.range width).map (fun i =>
      (bytes32 s.ident ++ [modeByte s.mode, 0x00, 0x00, 0x00] ++ bytes32 (s.cause.setWidth 32) ++
        bytes32 (s.board.enable.setWidth 32) ++ bytes32 s.board.clock).getD (off + i) 0x00) := by
  rw [← bytes32_modeByte s.mode, ← take_of_window ho hw, State.registerRead, if_pos hw]
  simp only [List.mem_cons, List.not_mem_nil, or_false] at ho
  rcases ho with rfl | rfl | rfl | rfl | rfl <;> rfl

theorem State.registerRead_elsewhere (s : State) {off width : Nat} (ho : off ∉ [0x00, 0x04, 0x08, 0x0C, 0x10]) :
    s.registerRead off width = List.replicate width 0x00 := by
  by_cases hw : width ≤ 4
  · simp only [List.mem_cons, List.not_mem_nil, or_false, not_or] at ho
    obtain ⟨n0, n4, n8, nC, n10⟩ := ho
    rw [State.registerRead, if_pos hw, State.register, if_neg n0, if_neg n4, if_neg n8, if_neg nC, if_neg n10, take_zeros hw]
  · exact s.registerRead_wide (by omega)

/-- The causes, bit by bit, in every mode (R165, R179). -/
theorem State.getLsbD_cause_iff (s : State) (i : Nat) : s.cause.getLsbD i = true ↔ s.mode ≠ .init ∧
    ((i = 0 ∧ s.board.finishList ≠ []) ∨ (i = 1 ∧ ∃ k, k < 48 ∧ (s.cond k).changed = true) ∨
      (i = 2 ∧ s.board.latchMode = true) ∨ (i = 3 ∧ s.board.latchMisuse = true) ∨ (i = 4 ∧ s.board.latchRefused = true)) := by
  by_cases live : s.mode ≠ .init
  · obtain ⟨finished, condition, mode, misuse, refused⟩ := State.getLsbD_cause live
    by_cases h : i < 5
    · interval_cases i
      · rw [finished]; simp [live, s.causeFinished_iff]
      · rw [condition]; simp [live, s.causeCondition_iff]
      · rw [mode]; simp [live]
      · rw [misuse]; simp [live]
      · rw [refused]; simp [live]
    · rw [BitVec.getLsbD_of_ge _ _ (by omega)]
      simp [show i ≠ 0 by omega, show i ≠ 1 by omega, show i ≠ 2 by omega, show i ≠ 3 by omega, show i ≠ 4 by omega]
  · rw [State.cause_of_init (not_not.1 live)]
    simp [live]

/-- Settles O17: each range's view in turn. -/
theorem reads : Obligations.Reads := by
  intro s at' codes
  have header (i : Nat) (h : i < 0x40) : at' i = s.headerByte i := s.exchangeByte_header h
  refine ⟨?_, header 2 (by decide), header 3 (by decide), ?_, ?_, fun i h1 h2 => (header i h2).trans (s.headerByte_spare h1),
    fun i hi => ?_, fun k hk => ?_, fun i hi => ?_, fun j x slot => ?_, fun a h => s.exchangeByte_memory (by omega),
    fun p hp => ⟨s.writeMirror_mirrored hp, fun a h => s.exchangeByte_writeMirror hp h, fun q =>
      ⟨s.place_setPlace_self q hp, fun h => s.setPlace_mirrored hp q (.inl h), fun h => s.setPlace_mirrored hp q (.inr (.inl h)),
        fun h => s.setPlace_mirrored hp q (.inr (.inr fun e => h (Place.fields_of_mirrored e)))⟩⟩,
    fun p hp unfitted => s.mirrorRecord_unfitted hp unfitted, fun p hp fitted => ?_, s.ident, s.cause.setWidth 32,
    s.getLsbD_ident, fun i => ?_, fun off width ho hw => ?_, fun off width ho => s.registerRead_elsewhere ho,
    fun off width h => s.registerRead_wide h⟩
  · rw [header 0 (by decide), header 1 (by decide)]; exact half_bytes _
  · rw [header 4 (by decide), header 5 (by decide)]; exact half_bytes _
  · rw [header 6 (by decide)]; cases e : s.mode <;> simp [State.headerByte, modeByte, e]
  · rw [show at' (0x40 + i) = _ from s.exchangeByte_finish hi, State.finishByte]
    cases s.board.finishList[i]? <;> rfl
  · have byte (i : Nat) (hi : i < 16) : at' (0x0100 + 16 * k + i) = (s.cond k).byte i := s.exchangeByte_condition hk hi
    dsimp only
    rw [byte 0, byte 1, byte 2, byte 3, byte 4, byte 5, byte 6, byte 7, byte 8, byte 9, byte 10, byte 11, byte 12, byte 13,
      byte 14, byte 15]
    exact ⟨condCodes_condByte _, rfl, rfl, rfl, rfl, rfl, rfl, rfl, word_bytes _, word_bytes _⟩
    all_goals decide
  · rw [show at' (0x0A00 + i) = _ from s.exchangeByte_profile hi]
    cases s.store.active <;> simp
  · have hj : j < 32 := by
      by_contra h
      simp [Vector.getElem?_eq_none (Nat.not_lt.1 h)] at slot
    have byte (i : Nat) (hi : i < 4) : at' (0x0C00 + 4 * j + i) = slotByte x i := by
      rw [show at' (0x0C00 + 4 * j + i) = _ from s.exchangeByte_slot hj hi, slot]; rfl
    have at_ {a i : Nat} (hi : i < 4) (e : a = 0x0C00 + 4 * j + i) : at' a = slotByte x i := e ▸ byte i hi
    exact ⟨at_ (i := 0) (by decide) rfl, at_ (i := 1) (by decide) (by omega), at_ (i := 2) (by decide) (by omega),
      at_ (i := 3) (by decide) (by omega)⟩
  · refine ⟨s.statusByte p, ?_, fun h => s.statusByte_of_deck h, fun h => ?_⟩
    · rw [s.mirrorRecord_shown fitted]
      have entry (i : Nat) : s.entryAt p i = (match (s.place p).entries[i]? with
          | some (.card n) => byteOf n | some .foreign => 0xFF | none => 0xFE) := by
        unfold State.entryAt State.entries
        rcases (s.place p).entries[i]? with _ | _ | _ <;> rfl
      rw [entry, entry, entry]
      congr 1
      · rcases (s.place p).frozen with _ | _ | _ | _ <;> rfl
    · rw [s.statusByte_of_lane_or_spur h fitted]
      exact status_bits _ _ _ _ _ _ _
  · rw [BitVec.getLsbD_setWidth, ← s.getLsbD_cause_iff]
    by_cases h : i < 32
    · simp [h]
    · simp [h, BitVec.getLsbD_of_ge s.cause i (by omega)]
  · rw [header 6 (by decide)]
    exact s.registerRead_window ho hw

end Sys2Proof.Machine
end

section
/-! PROOF. What the neighbours leave alone (the statement NeighboursKeepFrame): outside RUN only a waiting stop that passes, and a
divert that no lane can ever take, act, and neither issues work. -/

namespace Sys2Proof.Machine

/-- What issuing work would alter: the grants, the merge, the divert, the lane locks, and of each lift its state, its plan and the
number of its trip. -/
structure Issued where
  grants : Vector (Option Grant) 40
  merge : Merge
  entry : EntryUnit
  locks : Vector Lock 169
  lifts : Side → LiftState × Option Plan × Option Byte

def Lift.issued (l : Lift) : LiftState × Option Plan × Option Byte := (l.state, l.pending, l.trip.map (·.number))

def State.issued (s : State) : Issued where
  grants := s.handover.grants
  merge := s.release.merge
  entry := s.entry
  locks := s.places.map (·.lock)
  lifts x := (s.lift x).issued

section
variable {s : State}

theorem State.issued_congr {t : State} (grants : t.handover.grants = s.handover.grants) (merge : t.release.merge = s.release.merge)
    (entry : t.entry = s.entry) (places : t.places = s.places) (lifts : t.lifts = s.lifts) : t.issued = s.issued := by
  simp [State.issued, State.lift, grants, merge, entry, places, lifts]

theorem State.setPlace_issued (p : Nat) (q : Place) (h : q.lock = (s.place p).lock) : (s.setPlace p q).issued = s.issued := by
  have same : (s.retimed p q).lock = (s.place p).lock := by simpa using h
  have locks := map_setIfInBounds_same Place.lock s.places p {} _ same
  have places : (s.setPlace p q).places = s.places.setIfInBounds p (s.retimed p q) := by simp [State.setPlace]
  simp [State.issued, State.lift, places, locks]

theorem State.unreserve_issued (p : Nat) : (s.unreserve p).issued = s.issued :=
  (State.issued_congr (by simp [State.unreserve]) (by simp [State.unreserve]) (by simp [State.unreserve])
    (by simp [State.unreserve]) (by simp [State.unreserve])).trans
    (State.setPlace_issued p { s.place p with res := (s.place p).res - 1 } rfl)

theorem State.setEntries_issued (p : Nat) (es : List Entry) : (s.setEntries p es).issued = s.issued :=
  State.setPlace_issued p _ rfl

theorem State.updateLift_issued (x : Side) (f : Lift → Lift) (h : (f (s.lift x)).issued = (s.lift x).issued) :
    (s.updateLift x f).issued = s.issued := by
  have lifts : (fun y => ((s.updateLift x f).lift y).issued) = fun y => (s.lift y).issued := by
    funext y
    by_cases e : x = y
    · subst e; simpa using h
    · rw [State.lift_updateLift_ne _ _ _ _ e]
  simp [State.issued] at lifts ⊢
  exact lifts

theorem State.queueLift_issued (x : Side) (c : LiftCmd) : (s.queueLift x c).issued = s.issued := by
  simp [State.issued, Lift.issued]

theorem State.endStop_issued (x : Side) (i : Nat) (o : StopOutcome) : (s.endStop x i o).issued = s.issued := by
  refine State.updateLift_issued x _ ?_
  simp [Lift.issued, Lift.endStop, Trip.endStop, Function.comp_def]

theorem State.turnBack_issued (n p : Nat) (r : ReasonCode) : (s.turnBack n p r).issued = s.issued :=
  State.issued_congr (by simp) (by simp) (by simp) (by simp) (by simp)

theorem State.passHoldings_issued (x : Side) (st : Stop) : (s.passHoldings x st).issued = s.issued := by
  have kept : (if st.reserved then s.unreserve st.place else s).issued = s.issued := by
    split
    · exact State.unreserve_issued _
    · rfl
  unfold State.passHoldings
  split
  · rfl
  · dsimp only
    split
    · exact kept
    · split
      · exact (State.turnBack_issued _ _ _).trans kept
      · exact kept

theorem State.passStop_issued (x : Side) (i : Nat) (st : Stop) : (s.passStop x i st).issued = s.issued :=
  (State.queueLift_issued x _).trans ((State.endStop_issued x i _).trans (State.passHoldings_issued x st))

theorem State.setPhase_issued (x : Side) (ph : StopPhase) : (s.updateLift x (fun l => l.setPhase ph)).issued = s.issued := by
  refine State.updateLift_issued x _ ?_
  simp [Lift.issued, Lift.setPhase, Function.comp_def]

@[simp] theorem State.merge_advance : s.advance.release.merge = s.release.merge := by
  simp [State.advance, State.setRelease]

@[simp] theorem State.merge_voiding (x : Half) : (s.voiding x).release.merge = s.release.merge := by
  unfold State.voiding
  (repeat' split) <;> simp [State.setRelease]

@[simp] theorem State.merge_restStall : s.restStall.release.merge = s.release.merge := by
  unfold State.restStall
  split <;> simp [State.setRelease]

@[simp] theorem State.merge_giveUp (n : Nat) (stays : Bool) : (s.giveUp n stays).release.merge = s.release.merge := by
  unfold State.giveUp
  split
  · rfl
  · split
    · simp [State.unlist, State.setRelease]
    · rfl

@[simp] theorem State.merge_finishOrder (n : Nat) (final : Byte) (r : ReasonCode) (detail : Byte) (gives : Bool) :
    (s.finishOrder n final r detail gives).release.merge = s.release.merge := by
  unfold State.finishOrder
  dsimp only
  (repeat' split) <;> simp

theorem State.closeDivert_issued (n : Nat) (c : Context) : (s.closeDivert n c).issued = s.issued := by
  have own : (s.setEntries divert [.foreign]).issued = s.issued := State.setEntries_issued _ _
  refine Eq.trans (State.issued_congr ?_ ?_ ?_ ?_ ?_) own <;> simp [State.closeDivert, State.setDivert]

/-! ### Outside RUN -/

/-- A stop is not let go on outside RUN (R113). -/
theorem State.decideStop_of_not_run (still : s.mode ≠ .run) (x : Side) (st : Stop) :
    s.decideStop x st = .pass ∨ s.decideStop x st = .waitMode := by
  unfold State.decideStop
  split
  · split_ifs <;> simp
  · split_ifs <;> simp

theorem State.retest_issued (still : s.mode ≠ .run) (x : Side) (w : Prompt) (t : State) (e : s.retest x w = some t) :
    t.issued = s.issued := by
  have taken (i : Nat) (st : Stop) : (s.takeDecision x i st (s.decideStop x st)).issued = s.issued := by
    rcases State.decideStop_of_not_run still x st with d | d <;> rw [d]
    · exact State.passStop_issued x i st
    · exact State.setPhase_issued x _
  unfold State.retest at e
  (repeat' split at e) <;> first | (cases e; done) | (cases e; exact taken _ _)

theorem State.divertChoice_issued (still : s.mode ≠ .run) (t : State) (e : s.divertChoice = some t) : t.issued = s.issued := by
  have none (x : Side) : s.spurTakes x = false := by simp [State.spurTakes, still]
  unfold State.divertChoice at e
  split at e
  · split at e
    · cases e
    · split at e
      · cases e; exact State.closeDivert_issued _ _
      · simp only [none, List.filter_false] at e
        cases e
  · cases e

theorem State.trySend_of_not_run (still : s.mode ≠ .run) (x : Side) : s.trySend x = none := by
  unfold State.trySend
  split
  · rfl
  · exact if_neg fun go => still go.1

theorem State.runRetry_issued (still : s.mode ≠ .run) (r : Retry) (t : State) (e : s.runRetry r = some t) :
    t.issued = s.issued := by
  cases r with
  | walk => simp [State.runRetry, State.walk, still] at e
  | merge => simp [State.runRetry, State.tryMerge_of_not_run still] at e
  | plan x => simp [State.runRetry, State.tryPlan, still] at e
  | stop x w => exact State.retest_issued still x w t e
  | send x => exact absurd e (by rw [State.runRetry, State.trySend_of_not_run still]; nofun)
  | divert => exact State.divertChoice_issued still t e
  | reject => simp [State.runRetry, State.tryReject_of_not_run still] at e

theorem State.act_issued (still : s.mode ≠ .run) (r : Retry) : (s.act r).issued = s.issued := by
  unfold State.act
  dsimp only
  cases e : State.runRetry { s with wake := s.wake.filter (fun q => q != r) } r with
  | none => rfl
  | some t => exact State.runRetry_issued (s := { s with wake := s.wake.filter (fun q => q != r) }) still r t e

theorem State.settle_issued (k : Nat) (still : s.mode ≠ .run) : (State.settle k s).issued = s.issued := by
  induction k generalizing s with
  | zero => rfl
  | succ k ih =>
    have acts (u : State) (same : u.mode = s.mode) (r : Retry) : (u.act r).mode ≠ .run ∧ (u.act r).issued = u.issued :=
      have mode : (u.act r).mode = u.mode := congrArg Calm.mode (State.act_calm (s := u) r)
      ⟨by rw [mode, same]; exact still, State.act_issued (by rw [same]; exact still) r⟩
    unfold State.settle
    split
    · rfl
    · next r _ => exact (ih (acts s rfl r).1).trans (acts s rfl r).2
    · next r q rs _ =>
      have acted := acts { s with freeCount := s.freeCount + 1 } rfl (s.pick (r :: q :: rs) r)
      exact (ih acted.1).trans acted.2

end

/-- Settles O7: the calm part stands after settling, nothing happens where none was told, and outside RUN no work is issued. -/
theorem neighboursKeepFrame : Obligations.NeighboursKeepFrame := by
  intro s
  refine ⟨State.resolved_calm, State.resolved_quiet, fun still => ?_⟩
  have issued : s.resolved.issued = s.issued := State.settle_issued _ still
  have lift (x : Side) : (s.resolved.lift x).issued = (s.lift x).issued := congrFun (congrArg Issued.lifts issued) x
  refine ⟨congrArg Issued.grants issued, congrArg Issued.merge issued, congrArg Issued.entry issued, fun p => ?_, fun x => ?_⟩
  · have locks : s.resolved.places.map (·.lock) = s.places.map (·.lock) := congrArg Issued.locks issued
    have at' := congrArg (fun v => (v[p]?).getD Lock.none) locks
    simp only [Vector.getElem?_map] at at'
    unfold State.place
    rcases h : s.resolved.places[p]? with _ | a <;> rcases h' : s.places[p]? with _ | b <;> simp [h, h'] at at' ⊢ <;> exact at'
  · have own := lift x
    simp only [Lift.issued, Prod.mk.injEq] at own
    exact own

end Sys2Proof.Machine
end

section
/-! PROOF. The bytes of a card, its finish, and what an examination does (the statements FinishCard and BadKindRefused). -/

namespace Sys2Proof.Machine

/-! ### The bytes of a card (9.3) -/

section
variable {s : State} {n : Nat}

theorem State.cardByte_writeCard_inside (hn : n < 128) (i : Nat) (bs : List Byte) (j : Nat) (hj : j < bs.length)
    (fits : i + j < 64) : (s.writeCard n i bs).cardByte n (i + j) = bs[j] :=
  have e : cardAddr n (i + j) = cardAddr n i + j := by simp [cardAddr, Nat.add_assoc]
  show Memory.read (Memory.write s.board.mem (cardAddr n i) bs) (cardAddr n (i + j)) = bs[j] by
    rw [e]
    exact Memory.read_write_inside _ _ _ j hj (e ▸ Memory.home_cardAddr hn fits)

theorem State.cardByte_setCardState_ne (b : Byte) {j : Nat} (hj : j ≠ 0) :
    (s.setCardState n b).cardByte n j = s.cardByte n j :=
  State.read_setCardState_ne s n b (by simp [cardAddr, hj])

theorem State.cardWord_congr {u : State} (h : ∀ j, s.cardByte n j = u.cardByte n j) (i : Nat) : s.cardWord n i = u.cardWord n i := by
  simp only [State.cardWord, h]

/-- The outcome bytes 32 to 48 of a card as R161 lists them. -/
def outcomeBlock (r : ReasonCode) (detail side flags : Byte) (examined bound finished : Word) (trip : Byte) : List Byte :=
  [reasonByte r, detail, side, flags] ++ bytes32 examined ++ bytes32 bound ++ bytes32 finished ++ [trip]

theorem State.outcome_written (s : State) (hn : n < 128) (final : Byte) (r : ReasonCode) (detail side flags : Byte)
    (examined bound finished : Word) (trip : Byte) :
    CardOutcome ((s.writeCard n 32 (outcomeBlock r detail side flags examined bound finished trip)).setCardState n final) n
      final r detail side flags examined bound finished trip := by
  generalize hb : outcomeBlock r detail side flags examined bound finished trip = bs
  have len : bs.length = 17 := by subst hb; rfl
  have byte (j : Nat) (hj : j < 17) :
      ((s.writeCard n 32 bs).setCardState n final).cardByte n (32 + j) = bs[j]'(by omega) := by
    rw [State.cardByte_setCardState_ne _ (by omega), State.cardByte_writeCard_inside hn 32 bs j (by omega) (by omega)]
  have cardWord (j : Nat) (hj : j + 3 < 17) :
      ((s.writeCard n 32 bs).setCardState n final).cardWord n (32 + j) =
        word (bs[j]'(by omega)) (bs[j + 1]'(by omega)) (bs[j + 2]'(by omega)) (bs[j + 3]'(by omega)) := by
    rw [State.cardWord, byte j (by omega), Nat.add_assoc 32 j 1, byte (j + 1) (by omega), Nat.add_assoc 32 j 2,
      byte (j + 2) (by omega), Nat.add_assoc 32 j 3, byte (j + 3) (by omega)]
  refine ⟨State.cardState_setCardState hn _ _, (byte 0 (by decide)).trans ?_, (byte 1 (by decide)).trans ?_,
    (byte 2 (by decide)).trans ?_, (byte 3 (by decide)).trans ?_, (cardWord 4 (by decide)).trans ?_,
    (cardWord 8 (by decide)).trans ?_, (cardWord 12 (by decide)).trans ?_, (byte 16 (by decide)).trans ?_⟩ <;> subst hb
  · rfl
  · rfl
  · rfl
  · rfl
  · exact word_bytes examined
  · exact word_bytes bound
  · exact word_bytes finished
  · rfl

theorem CardOutcome.congr {t u : State} {final : Byte} {r : ReasonCode} {detail side flags : Byte} {examined bound finished : Word}
    {trip : Byte} (h : CardOutcome t n final r detail side flags examined bound finished trip)
    (mem : u.board.mem = t.board.mem) : CardOutcome u n final r detail side flags examined bound finished trip := by
  have byte (i : Nat) : u.cardByte n i = t.cardByte n i := by simp [State.cardByte, mem]
  obtain ⟨state, reason, d, sd, fl, ex, bd, fin, tr⟩ := h
  refine ⟨(byte 0).trans state, (byte 32).trans reason, (byte 33).trans d, (byte 34).trans sd, (byte 35).trans fl, ?_, ?_, ?_,
    (byte 48).trans tr⟩
  · rw [← ex]; exact State.cardWord_congr byte _
  · rw [← bd]; exact State.cardWord_congr byte _
  · rw [← fin]; exact State.cardWord_congr byte _

/-- Writing a card's outcome and state leaves every other byte (9.1). -/
theorem State.read_outcome_outside (s : State) (final : Byte) (bs : List Byte) (len : bs.length = 17) {a : Nat}
    (state : a ≠ cardAddr n 0) (outside : a < cardAddr n 32 ∨ cardAddr n 48 < a) :
    Memory.read ((s.writeCard n 32 bs).setCardState n final).board.mem a = Memory.read s.board.mem a := by
  rw [State.read_setCardState_ne _ _ _ state]
  refine Memory.read_write_outside _ _ _ _ ?_
  simp only [cardAddr] at outside ⊢
  omega

/-! ### The finish of a card without an order (R161, R162) -/

/-- Settles O20. -/
theorem finishCard : Obligations.FinishCard := by
  intro u n final r detail examined hn
  generalize hv : u.writeCard n 32 (outcomeBlock r detail 0x00 0x00 examined 0 u.stamp 0x00) = v
  have finished : u.finishCard n final r detail examined =
      if final = cardRefused then
        ((v.setCardState n final).appendFinish n).setBoard { ((v.setCardState n final).appendFinish n).board with latchRefused := true }
      else (v.setCardState n final).appendFinish n := by subst hv; rfl
  have mem : (u.finishCard n final r detail examined).board.mem = (v.setCardState n final).board.mem := by
    rw [finished]; split <;> rfl
  constructor
  · exact (hv ▸ State.outcome_written u hn final r detail 0x00 0x00 examined 0 u.stamp 0x00).congr mem
  · refine ⟨?_, ?_, ?_, fun a state outside => ?_, ?_, ?_⟩
    · rw [finished]; subst hv; split <;> rfl
    · rw [finished]; subst hv; split <;> rfl
    · rw [finished]; subst hv
      split
      · next h => subst h; simp [State.setBoard]
      · next h => simp [h, State.appendFinish, State.setBoard, State.setCardState, State.writeCard, State.setMem]
    · rw [mem, ← hv]
      exact State.read_outcome_outside u final _ rfl state outside
    · rw [finished]; subst hv; split <;> rfl
    · rw [finished]; subst hv; split <;> rfl

/-! ### An examination (R159, R160) -/

/-- The head of the post queue is examined: it has left the queue, and then what its kind brings (R159, R160). -/
theorem Head.exec_eq {k : Byte} {rest : List Nat} (h : Head s k n rest) {c : Instr} {row : State → Nat → Bool}
    {f : Nat → State → State} (e : exec c s = s.examine (row s) f) (own : row s n = true) :
    exec c s = .next (f n (s.examining rest)).resolved := by
  obtain ⟨⟨mode, quiet, reported⟩, queue, -, -⟩ := h
  have live : ¬s.begin.mode = .init := by simpa using mode
  have front : s.begin.board.postQueue = n :: rest := by simpa using queue
  rw [e, State.examine, State.live, State.event, if_neg live, front]
  exact congrArg _ (congrArg _ (if_pos own))

theorem Head.begin_eq {k : Byte} {rest : List Nat} (h : Head s k n rest) : s.begin = { s with sent := [] } :=
  State.begin_of_reported h.awake.reported

theorem Head.examining_eq {k : Byte} {rest : List Nat} (h : Head s k n rest) :
    s.examining rest = { s with sent := [], board := { s.board with postQueue := rest } } := by
  rw [State.examining, h.begin_eq]; rfl

theorem Head.quiet {k : Byte} {rest : List Nat} (h : Head s k n rest) : (s.examining rest).wake = [] := by
  rw [h.examining_eq]; exact h.awake.quiet

theorem Head.stamp {k : Byte} {rest : List Nat} (h : Head s k n rest) : (s.examining rest).stamp = s.stamp := by
  rw [h.examining_eq]; rfl

@[simp] theorem State.wake_finishCard (u : State) (n : Nat) (final : Byte) (r : ReasonCode) (detail : Byte) (examined : Word) :
    (u.finishCard n final r detail examined).wake = u.wake := by
  unfold State.finishCard
  dsimp only
  split <;> rfl

/-- The card at the head finishes at once in `u`, where nobody is told of anything. -/
theorem Head.finishes {k : Byte} {rest : List Nat} (h : Head s k n rest) {c : Instr} {row : State → Nat → Bool}
    {f : Nat → State → State} (e : exec c s = s.examine (row s) f) (own : row s n = true) {u : State} {final : Byte}
    {r : ReasonCode} {detail : Byte} (does : f n (s.examining rest) = u.finishNow n final r detail) (quiet : u.wake = [])
    (stamp : u.stamp = s.stamp) : ∃ t, exec c s = .next t ∧ FinishedAs u t n final r detail s.stamp := by
  refine ⟨_, h.exec_eq e own, ?_⟩
  rw [does, State.resolved_quiet (by rw [State.finishNow, State.wake_finishCard, quiet]), State.finishNow, stamp]
  exact finishCard u n final r detail s.stamp h.slot

/-- The card at the head is refused (R160, R161). -/
theorem Head.refuses {k : Byte} {rest : List Nat} (h : Head s k n rest) {c : Instr} {row : State → Nat → Bool}
    {f : Nat → State → State} (e : exec c s = s.examine (row s) f) (own : row s n = true) {r : ReasonCode} {detail : Byte}
    (does : f n (s.examining rest) = (s.examining rest).refuse n r detail) :
    ∃ t, exec c s = .next t ∧ FinishedAs (s.examining rest) t n cardRefused r detail s.stamp :=
  h.finishes e own does h.quiet h.stamp

/-- The card at the head does what leads to `v` (R160). -/
theorem Head.leads {k : Byte} {rest : List Nat} (h : Head s k n rest) {c : Instr} {row : State → Nat → Bool}
    {f : Nat → State → State} (e : exec c s = s.examine (row s) f) (own : row s n = true) {v : State}
    (does : f n (s.examining rest) = v) : Leads c s v := by
  rw [Leads, h.exec_eq e own, does]

theorem Head.isKind {k : Byte} {rest : List Nat} (h : Head s k n rest) : s.isKind k n = true := by
  rw [State.isKind, h.kind, beq_self_eq_true]

end

/-- Settles O21. -/
theorem badKindRefused : Obligations.BadKindRefused := by
  intro s k n rest head unknown
  have kind : (s.examining rest).cardKind n = k := by rw [head.examining_eq]; exact head.kind
  refine head.refuses (c := .badKind) (row := fun s n => decide (s.cardKind n = 0 ∨ 0x0B < (s.cardKind n).toNat))
    (f := fun n t => t.refuse n .badKind (t.cardKind n)) rfl ?_ ?_
  · simpa [head.kind] using unknown
  · rw [kind]

end Sys2Proof.Machine
end

section
/-! PROOF. The examination of RETRIEVE and STORE (the statements OrderChecksPassed and OrderAccepted). -/

namespace Sys2Proof.Machine

/-! ### Checks in their order -/

theorem firstFailure_cons (r : Refused) (rs : List Refused) : firstFailure (r :: rs) = r.or (firstFailure rs) := by
  cases r <;> rfl

theorem check_holds {b : Bool} (h : b = true) (r : ReasonCode) (d : Byte) : check b r d = none := if_pos h

theorem check_fails {b : Bool} (h : ¬b = true) (r : ReasonCode) (d : Byte) : check b r d = some (r, d) := if_neg h

/-! ### The lowest open card of a kind -/

section
variable {s : State} {p : Context → Bool}

theorem State.findOpen_eq_none : s.findOpen p = none ↔ ∀ m c, s.ctx m = some c → p c = false := by
  simp only [State.findOpen, List.find?_eq_none, List.mem_range, Bool.not_eq_true]
  constructor
  · intro h m c hc
    simpa [hc] using h m (s.ctx_lt m c hc)
  · intro h m _
    cases hc : s.ctx m with
    | none => rfl
    | some c => exact h m c hc

theorem find?_range_lowest {q : Nat → Bool} {k m : Nat} (hm : m < k) (own : q m = true) (lowest : ∀ j, j < m → q j = false) :
    (List.range k).find? q = some m := by
  obtain ⟨d, rfl⟩ := Nat.exists_eq_add_of_lt hm
  have before : (List.range m).find? q = none := by
    simp only [List.find?_eq_none, List.mem_range, Bool.not_eq_true]
    exact lowest
  rw [show m + d + 1 = m + (d + 1) from rfl, List.range_add, List.find?_append, before, List.range_succ_eq_map]
  simp [own]

theorem State.findOpen_eq_lowest {m : Nat} {c : Context} (hc : s.ctx m = some c) (own : p c = true)
    (lowest : ∀ j d, j < m → s.ctx j = some d → p d = false) : s.findOpen p = some m := by
  refine find?_range_lowest (s.ctx_lt m c hc) (by simpa [hc] using own) fun j hj => ?_
  cases hd : s.ctx j with
  | none => rfl
  | some d => exact lowest j d hj hd

theorem State.ctx_of_findOpen {m : Nat} (h : s.findOpen p = some m) : ∃ c, s.ctx m = some c ∧ p c = true := by
  have own := List.find?_some h
  cases hc : s.ctx m with
  | none => simp [hc] at own
  | some c => exact ⟨c, rfl, by simpa [hc] using own⟩

end

/-! ### The checks of R28 -/

theorem prefOf_isSome (b : Byte) : (prefOf b).isSome = true ↔ 1 ≤ b.toNat ∧ b.toNat ≤ 3 := by
  unfold prefOf
  split <;> simp_all
  omega

section
variable (s : State) (n : Nat) (k : OrderKind)

theorem State.modeOk_iff : (s.mode == .run || s.mode == .hold) = true ↔ s.mode = .run ∨ s.mode = .hold := by simp

theorem State.flagsOk_iff : (s.cardFlags n == 0x00 || (k == .retrieve && s.cardFlags n == 0x01)) = true ↔
    s.cardFlags n = 0x00 ∨ (k = .retrieve ∧ s.cardFlags n = 0x01) := by simp

theorem State.toteOk_iff : (s.cardTote n != 0) = true ↔ s.cardTote n ≠ 0 := by simp

theorem State.levelOk_iff : decide (1 ≤ s.cardLevel n ∧ s.cardLevel n ≤ s.levels) = true ↔
    1 ≤ s.cardLevel n ∧ s.cardLevel n ≤ s.levels := by simp

/-- The first five checks: the mode and the four fields. -/
theorem State.orderCheck_fields (mode : s.mode = .run ∨ s.mode = .hold)
    (flags : s.cardFlags n = 0x00 ∨ (k = .retrieve ∧ s.cardFlags n = 0x01))
    (pref : 1 ≤ (s.cardPref n).toNat ∧ (s.cardPref n).toNat ≤ 3) (tote : s.cardTote n ≠ 0)
    (level : 1 ≤ s.cardLevel n ∧ s.cardLevel n ≤ s.levels) :
    s.orderCheck n k = (s.dupTote (s.cardTote n)).or
      ((check (s.levelServes (s.cardLevel n) k) .levelClosed (byteOf (s.cardLevel n))).or
        (match s.cardNumber n k with
          | none => none
          | some x => firstFailure [check (s.ahead x) .staleSeq 0, s.dupSeq x])) := by
  simp only [State.orderCheck, State.badField, firstFailure_cons, check_holds (s.modeOk_iff.2 mode),
    check_holds ((s.flagsOk_iff n k).2 flags), check_holds ((prefOf_isSome _).2 pref), check_holds ((s.toteOk_iff n).2 tote),
    check_holds ((s.levelOk_iff n).2 level)]
  cases s.cardNumber n k <;> simp [firstFailure]

theorem State.dupTote_of_fresh (fresh : ∀ m c, s.ctx m = some c → c.tote ≠ s.cardTote n) : s.dupTote (s.cardTote n) = none := by
  rw [State.dupTote, State.findOpen_eq_none.2 fun m c hc => by simpa using fresh m c hc]
  rfl

theorem State.levelServes_iff (level : Nat) : s.levelServes level k = true ↔
    match k with
    | .retrieve => s.canEverAdmit (outLane level .a) = true ∨ s.canEverAdmit (outLane level .b) = true
    | .store => s.canEverAdmit (inLaneOf level .a) = true ∨ s.canEverAdmit (inLaneOf level .b) = true := by
  cases k <;> simp [State.levelServes]

theorem State.cardNumber_of_numbered (h : k = .retrieve ∧ s.cardFlags n = 0x01) : s.cardNumber n k = some (s.cardSeq n) := if_pos h

theorem State.cardNumber_of_plain (h : ¬(k = .retrieve ∧ s.cardFlags n = 0x01)) : s.cardNumber n k = none := if_neg h

theorem State.ahead_iff (x : Half) : s.ahead x = true ↔ (x - s.release.n).toNat < 32768 := decide_eq_true_iff

theorem State.dupSeq_eq_none (x : Half) :
    s.dupSeq x = none ↔ x ∉ s.release.voids ∧ ∀ m c, s.ctx m = some c → c.seqState = .live → c.seq ≠ some x := by
  unfold State.dupSeq
  split
  · next h => simp [h]
  · next h => simp [h, State.findOpen_eq_none, Context.holds]

theorem State.orderCheck_numbered_iff (s : State) (n : Nat) (k : OrderKind) :
    (match s.cardNumber n k with
      | none => none
      | some x => firstFailure [check (s.ahead x) .staleSeq 0, s.dupSeq x]) = none ↔
    (k = .retrieve ∧ s.cardFlags n = 0x01 → (s.cardSeq n - s.release.n).toNat < 32768 ∧ s.cardSeq n ∉ s.release.voids ∧
      ∀ m c, s.ctx m = some c → c.seqState = .live → c.seq ≠ some (s.cardSeq n)) := by
  by_cases h : k = .retrieve ∧ s.cardFlags n = 0x01
  · rw [s.cardNumber_of_numbered n k h]
    simp only [firstFailure_eq_none, List.mem_cons, List.not_mem_nil, or_false, forall_eq_or_imp, forall_eq, check_eq_none,
      s.ahead_iff, s.dupSeq_eq_none, h, and_self, forall_const]
  · rw [s.cardNumber_of_plain n k h]
    exact ⟨fun _ hk => absurd hk h, fun _ => rfl⟩

end

/-- A refused order card: the code and detail of the first check that fails (R28). -/
theorem Head.orderRefused {s : State} {n : Nat} {rest : List Nat} {k : OrderKind} {r : ReasonCode × Byte} {kind : Byte}
    (head : Head s kind n rest) {c : Instr} {row : State → Nat → Bool}
    (e : exec c s = s.examine (row s) (fun n t => t.examineOrder n k)) (own : row s n = true) (fails : s.orderCheck n k = some r) :
    ∃ t, exec c s = .next t ∧ FinishedAs (s.examining rest) t n cardRefused r.1 r.2 s.stamp := by
  refine head.refuses e own ?_
  have same : (s.examining rest).orderCheck n k = some r := by rw [head.examining_eq]; exact fails
  simp only [State.examineOrder, same]

/-- Settles O22: the checks one after another, each under those before it. -/
theorem orderChecksPassed : Obligations.OrderChecksPassed := by
  intro s n k out level x modeOk flagsOk prefOk toteOk levelOk fields fresh serves numbered inFront
  have passed (f : fields) : out = _ := s.orderCheck_fields n k f.1 f.2.1 f.2.2.1 f.2.2.2.1 f.2.2.2.2
  have served (h : serves) (r : ReasonCode) (d : Byte) : check (s.levelServes level k) r d = none :=
    check_holds ((s.levelServes_iff k level).2 h) r d
  have holdsMode (h : modeOk) := check_holds (s.modeOk_iff.2 h) .wrongMode 0
  have holdsFlags (h : flagsOk) := check_holds ((s.flagsOk_iff n k).2 h) .badField 2
  have holdsPref (h : prefOk) := check_holds ((prefOf_isSome _).2 h) .badField 3
  have holdsTote (h : toteOk) := check_holds ((s.toteOk_iff n).2 h) .badField 8
  refine ⟨fun m => ?_, fun m f => ?_, fun m f p => ?_, fun m f p t => ?_, fun m f p t l => ?_, fun m c f hc same lowest => ?_,
    fun f fr sv => ?_, fun f fr sv nu fro => ?_, fun f fr sv nu fro vd => ?_, fun m c f fr sv nu fro nv hc holds lowest => ?_, ?_,
    fun rest r head fails => ?_⟩
  · show firstFailure _ = _
    rw [firstFailure_cons, check_fails (mt s.modeOk_iff.1 m)]; rfl
  · simp only [out, State.orderCheck, State.badField, firstFailure_cons, holdsMode m,
      check_fails (mt (s.flagsOk_iff n k).1 f)]; rfl
  · simp only [out, State.orderCheck, State.badField, firstFailure_cons, holdsMode m, holdsFlags f,
      check_fails (mt (prefOf_isSome _).1 p)]; rfl
  · simp only [out, State.orderCheck, State.badField, firstFailure_cons, holdsMode m, holdsFlags f, holdsPref p,
      check_fails (mt (s.toteOk_iff n).1 t)]; rfl
  · simp only [out, State.orderCheck, State.badField, firstFailure_cons, holdsMode m, holdsFlags f, holdsPref p, holdsTote t,
      check_fails (mt (s.levelOk_iff n).1 l)]; rfl
  · rw [passed f, State.dupTote, State.findOpen_eq_lowest hc (by simpa using same) fun j d hj hd => by simpa using lowest j d hj hd]
    rfl
  · rw [passed f, s.dupTote_of_fresh n fr, check_fails (mt (s.levelServes_iff k level).1 sv)]; rfl
  · rw [passed f, s.dupTote_of_fresh n fr, served sv, s.cardNumber_of_numbered n k nu]
    simp only [firstFailure_cons, check_fails (mt (s.ahead_iff (s.cardSeq n)).1 fro)]; rfl
  · rw [passed f, s.dupTote_of_fresh n fr, served sv, s.cardNumber_of_numbered n k nu]
    simp only [firstFailure_cons, check_holds ((s.ahead_iff (s.cardSeq n)).2 fro), State.dupSeq]
    rw [if_pos vd]; rfl
  · rw [passed f, s.dupTote_of_fresh n fr, served sv, s.cardNumber_of_numbered n k nu]
    simp only [firstFailure_cons, check_holds ((s.ahead_iff (s.cardSeq n)).2 fro), State.dupSeq]
    rw [if_neg nv, State.findOpen_eq_lowest hc holds lowest]; rfl
  · constructor
    · intro ok
      have all := (firstFailure_eq_none _).1 ok
      simp only [List.forall_mem_cons, State.badField, firstFailure_eq_none, check_eq_none] at all
      obtain ⟨mode, ⟨flags, pref, tote, level, -⟩, dup, serve, number, -⟩ := all
      have open' : s.findOpen (fun c => c.tote == s.cardTote n) = none := Option.map_eq_none_iff.1 dup
      exact ⟨⟨s.modeOk_iff.1 mode, (s.flagsOk_iff n k).1 flags, (prefOf_isSome _).1 pref, (s.toteOk_iff n).1 tote,
          (s.levelOk_iff n).1 level⟩, fun m c hc => by simpa using State.findOpen_eq_none.1 open' m c hc,
        (s.levelServes_iff k _).1 serve, (s.orderCheck_numbered_iff n k).1 number⟩
    · rintro ⟨f, fr, sv, nu⟩
      rw [passed f, s.dupTote_of_fresh n fr, served sv, (s.orderCheck_numbered_iff n k).2 nu]; rfl
  · cases k with
    | retrieve => exact head.orderRefused (row := fun s => s.isKind kindRetrieve) rfl head.isKind fails
    | store => exact head.orderRefused (row := fun s => s.isKind kindStore) rfl head.isKind fails

/-! ### An accepted order (R29) -/

section
variable (s : State) (n : Nat) (k : OrderKind)

theorem State.startStall_eq : s.startStall = { s with release := { s.release with
    stall := if s.release.stall = none ∧ s.release.stallReported = false then some (1000 * s.stallLimit) else s.release.stall } } := by
  unfold State.startStall
  split <;> rfl

/-- Accepting an order card writes its state byte, its context and, for a sequenced card, the stall timer (R29, R69). -/
theorem State.accept_eq : s.accept n k = { s with
    board := (s.setCardState n cardTaken).board
    contexts := s.contexts.setIfInBounds n (some (s.newContext n k))
    release := { s.release with
      stall := if k = .retrieve ∧ s.cardFlags n = 0x01 ∧ s.release.stall = none ∧ s.release.stallReported = false
        then some (1000 * s.stallLimit) else s.release.stall } } := by
  unfold State.accept
  by_cases numbered : k = .retrieve ∧ s.cardFlags n = 0x01
  · have sequenced : (s.cardNumber n k).isSome = true := by rw [s.cardNumber_of_numbered n k numbered]; rfl
    rw [if_pos sequenced, State.startStall_eq]
    simp only [numbered, true_and]
    rfl
  · have plain : ¬(s.cardNumber n k).isSome = true := by rw [s.cardNumber_of_plain n k numbered]; decide
    rw [if_neg plain, if_neg fun h => numbered ⟨h.1, h.2.1⟩]
    rfl

theorem State.newContext_eq : s.newContext n k =
    { kind := k, tote := s.cardTote n, level := s.cardLevel n, pref := (prefOf (s.cardPref n)).getD .any,
      seq := (if k = .retrieve ∧ s.cardFlags n = 0x01 then some (s.cardSeq n) else none),
      phase := (match k with | .retrieve => .pending | .store => .awaited), side := none, place := none,
      demoted := false, cancelRequested := false,
      seqState := (if k = .retrieve ∧ s.cardFlags n = 0x01 then .live else .absent), failure := none, trip := 0,
      accepted := s.stamp, bound := 0, loaded := 0, finished := 0, sideChanged := false, demotedFlag := false,
      overrun := false, idMismatch := false, returned := false, delivered := false } := by
  have sequenced : (if (s.cardNumber n k).isSome = true then SeqState.live else .absent) =
      if k = .retrieve ∧ s.cardFlags n = 0x01 then .live else .absent := by
    unfold State.cardNumber
    split <;> rfl
  unfold State.newContext
  rw [sequenced]
  cases k <;> rfl

end

/-- An accepted order card: no neighbour is told of anything (R29). -/
theorem Head.orderAccepted {s : State} {n : Nat} {rest : List Nat} {k : OrderKind} {kind : Byte} (head : Head s kind n rest)
    {c : Instr} {row : State → Nat → Bool} (e : exec c s = s.examine (row s) (fun n t => t.examineOrder n k))
    (own : row s n = true) (passes : s.orderCheck n k = none) :
    exec c s = .next (({ s with sent := [], board := { s.board with postQueue := rest } } : State).accept n k) := by
  have does : (s.examining rest).examineOrder n k = (s.examining rest).accept n k := by
    have same : (s.examining rest).orderCheck n k = none := by rw [head.examining_eq]; exact passes
    simp only [State.examineOrder, same]
  rw [head.exec_eq e own, does, head.examining_eq, State.resolved_quiet]
  rw [State.accept_eq]
  exact head.awake.quiet

/-- Settles O23. -/
theorem orderAccepted : Obligations.OrderAccepted := by
  intro s n rest k head passes
  let u : State := { s with sent := [], board := { s.board with postQueue := rest } }
  refine ⟨u.accept n k, ?_, ?_⟩
  · cases k with
    | retrieve => exact head.orderAccepted (row := fun s => s.isKind kindRetrieve) rfl head.isKind passes
    | store => exact head.orderAccepted (row := fun s => s.isKind kindStore) rfl head.isKind passes
  · rw [State.accept_eq]
    refine ⟨State.cardState_setCardState head.slot u _, ?_, fun m ne => State.ctx_setContext_ne u n m _ ne.symm,
      fun a ne => State.read_setCardState_ne u n _ ne, rfl, rfl, rfl, rfl, rfl⟩
    exact (State.ctx_setContext_self u n _ head.slot).trans (congrArg some (u.newContext_eq n k))

end Sys2Proof.Machine
end

section
/-! PROOF. The end of an order, the release number and the examinations of CANCEL, SKIP and RENUMBER (the statements CancelExamined,
FinishOrder, ReleaseAdvances and SkipAndRenumber). -/

namespace Sys2Proof.Machine

/-! ### The release number (R50, R56) -/

/-- Telling neighbours alters the list of those told alone (R7). -/
theorem State.tellAll_eq (s : State) (rs : List Retry) : s.tellAll rs = { s with wake := (s.tellAll rs).wake } := by
  unfold State.tellAll
  induction rs generalizing s with
  | nil => rfl
  | cons r rs ih =>
    rw [List.foldl_cons, ih]
    unfold State.tell
    split <;> rfl

/-- Stepping over void numbers: those that follow on one another from `n` are gone, and the number after them is not void next. -/
theorem stepOver_spec (n : Half) (voids : List Half) : ∃ gone, voids = gone ++ (stepOver n voids).2 ∧
    gone = (List.range gone.length).map (fun i => n + BitVec.ofNat 16 i) ∧
    (stepOver n voids).1 = n + BitVec.ofNat 16 gone.length ∧ (stepOver n voids).1 ∉ (stepOver n voids).2.head? := by
  induction voids generalizing n with
  | nil => exact ⟨[], rfl, rfl, by simp [stepOver], by simp [stepOver]⟩
  | cons v vs ih =>
    by_cases next : v = n
    · subst next
      obtain ⟨gone, split, run, number, fresh⟩ := ih (v + 1)
      have shift (i : Nat) : v + BitVec.ofNat 16 (i + 1) = v + 1 + BitVec.ofNat 16 i := by
        rw [BitVec.ofNat_add, BitVec.add_assoc, BitVec.add_comm 1]; rfl
      rw [show stepOver v (v :: vs) = stepOver (v + 1) vs from if_pos rfl]
      refine ⟨v :: gone, by rw [List.cons_append, ← split], ?_, by rw [number, List.length_cons, shift], fresh⟩
      rw [List.length_cons, List.range_succ_eq_map, List.map_cons, List.map_map]
      exact congrArg₂ List.cons (by simp) (run.trans (List.map_congr_left fun i _ => (shift i).symm))
    · rw [show stepOver n (v :: vs) = (n, v :: vs) from if_neg next]
      exact ⟨[], rfl, rfl, by simp, by simpa using next⟩

/-- A void number takes its place in the serial order (R56). -/
theorem insertVoid_spec (n x : Half) (voids : List Half) : ∃ before after, voids = before ++ after ∧
    (∀ v ∈ before, (v - n).toNat ≤ (x - n).toNat) ∧ (∀ v ∈ after.head?, (x - n).toNat < (v - n).toNat) ∧
    insertVoid n x voids = before ++ x :: after := by
  induction voids with
  | nil => exact ⟨[], [], rfl, by simp, by simp, rfl⟩
  | cons v vs ih =>
    by_cases farther : (x - n).toNat < (v - n).toNat
    · exact ⟨[], v :: vs, rfl, by simp, by simpa using farther, if_pos farther⟩
    · obtain ⟨before, after, split, near, far, inserted⟩ := ih
      refine ⟨v :: before, after, by rw [split]; rfl, ?_, far, (if_neg farther).trans (by rw [inserted]; rfl)⟩
      exact List.forall_mem_cons.2 ⟨Nat.not_lt.1 farther, near⟩

section
variable {s : State}

theorem State.advance_release : s.advance.release = { s.release with
    n := (stepOver (s.release.n + 1) s.release.voids).1, voids := (stepOver (s.release.n + 1) s.release.voids).2
    stallReported := false, stall := if s.anyLive then some (1000 * s.stallLimit) else none } := by
  simp [State.advance, State.setRelease]

@[simp] theorem State.bound_voiding (x : Half) : (s.voiding x).release.bound = s.release.bound := by
  unfold State.voiding
  (repeat' split) <;> simp [State.advance_release, State.setRelease]

theorem State.anyLive_congr {t : State} (h : t.contexts = s.contexts) : t.anyLive = s.anyLive := by
  simp [State.anyLive, State.findOpen, State.ctx, h]

theorem State.restStall_release :
    s.restStall.release = { s.release with stall := if s.anyLive then s.release.stall else none } := by
  unfold State.restStall
  split <;> rfl

/-- The state in which a card has left the bound lists with its number given up, before the number is voided (R39). -/
def State.givenUp (s : State) (n : Nat) (c : Context) (stays : Bool) : State :=
  (s.unlist n).setContext n
    (some { c with seqState := .givenUp, demoted := c.demoted || stays, demotedFlag := c.demotedFlag || stays })

theorem State.giveUp_of_live {n : Nat} {c : Context} {x : Half} (hc : s.ctx n = some c) (live : c.seqState = .live)
    (number : c.seq = some x) (stays : Bool) :
    s.giveUp n stays = (((s.givenUp n c stays).voiding x).restStall).tellAll (toldUnbound (s.boundSide n)) := by
  unfold State.giveUp
  rw [hc]
  dsimp only
  split
  · next y _ other => cases number.symm.trans other; rfl
  · next no => exact absurd number (no x live)

theorem State.giveUp_of_none {n : Nat} {c : Context} (hc : s.ctx n = some c) (none : c.seqState ≠ .live ∨ c.seq = none)
    (stays : Bool) : s.giveUp n stays = s := by
  unfold State.giveUp
  rw [hc]
  dsimp only
  split
  · next x live number => rcases none with no | no <;> simp_all
  · rfl

@[simp] theorem State.contexts_restStall : s.restStall.contexts = s.contexts := by
  unfold State.restStall
  split <;> rfl

/-- `t` differs from `s` at most in the contexts, the release unit and the list of those told. -/
def State.ReleasedFrom (s t : State) : Prop := t = { s with contexts := t.contexts, release := t.release, wake := t.wake }

theorem State.ReleasedFrom.trans {t u : State} (h : s.ReleasedFrom t) (k : t.ReleasedFrom u) : s.ReleasedFrom u := by
  unfold State.ReleasedFrom at h
  rw [h] at k
  exact k

theorem State.tellAll_releasedFrom (rs : List Retry) : s.ReleasedFrom (s.tellAll rs) := by
  have eq := s.tellAll_eq rs
  generalize (s.tellAll rs).wake = w at eq
  rw [State.ReleasedFrom, eq]

theorem State.setRelease_releasedFrom (r : Release) : s.ReleasedFrom (s.setRelease r) := rfl

theorem State.advance_releasedFrom : s.ReleasedFrom s.advance := by
  unfold State.advance
  dsimp only
  exact (State.setRelease_releasedFrom _).trans (State.tellAll_releasedFrom _)

theorem State.voiding_releasedFrom (x : Half) : s.ReleasedFrom (s.voiding x) := by
  unfold State.voiding
  split
  · exact State.advance_releasedFrom
  · split <;> rfl

theorem State.restStall_releasedFrom : s.ReleasedFrom s.restStall := by
  unfold State.restStall
  split <;> rfl

/-- Giving up alters the contexts, the release unit and the list of those told alone (R39). -/
theorem State.giveUp_releasedFrom (n : Nat) (stays : Bool) : s.ReleasedFrom (s.giveUp n stays) := by
  unfold State.giveUp
  split
  · rfl
  · dsimp only
    split
    · next x _ _ =>
      have own (c : Context) : s.ReleasedFrom ((s.unlist n).setContext n (some c)) := rfl
      exact (((own _).trans (State.voiding_releasedFrom x)).trans State.restStall_releasedFrom).trans
        (State.tellAll_releasedFrom _)
    · rfl

/-- The context a card is left with by giving up its number (R39). -/
theorem State.ctx_giveUp {n : Nat} {c : Context} (hc : s.ctx n = some c) (stays : Bool) (m : Nat) :
    (s.giveUp n stays).ctx m = if m = n then
      some (if c.seqState = .live ∧ c.seq.isSome then
        { c with seqState := .givenUp, demoted := c.demoted || stays, demotedFlag := c.demotedFlag || stays } else c)
      else s.ctx m := by
  have slot := s.ctx_lt n c hc
  by_cases live : c.seqState = .live ∧ c.seq.isSome
  · obtain ⟨x, number⟩ := Option.isSome_iff_exists.1 live.2
    have same : (s.giveUp n stays).ctx m = (s.givenUp n c stays).ctx m := by
      rw [State.giveUp_of_live hc live.1 number]
      simp [State.ctx]
    rw [same, if_pos live]
    by_cases own : m = n
    · subst own; rw [if_pos rfl]; exact State.ctx_setContext_self _ _ _ slot
    · rw [if_neg own]; exact State.ctx_setContext_ne _ _ _ _ (Ne.symm own)
  · have none : c.seqState ≠ .live ∨ c.seq = none := by
      by_contra h
      simp only [not_or, not_not] at h
      exact live ⟨h.1, Option.isSome_iff_ne_none.2 h.2⟩
    rw [State.giveUp_of_none hc none, if_neg live]
    split
    · next own => rw [own, hc]
    · rfl

end

/-- Settles O26. -/
theorem releaseAdvances : Obligations.ReleaseAdvances := by
  intro s
  refine ⟨?advance, fun x => ?voiding, fun n c stays hc => ⟨fun none => State.giveUp_of_none hc none stays, fun x live number => ?giveUp⟩⟩
  case advance =>
    obtain ⟨gone, split, run, number, fresh⟩ := stepOver_spec (s.release.n + 1) s.release.voids
    rw [State.advance_release]
    exact ⟨fresh, ⟨gone, split, run, number⟩, rfl, rfl, rfl⟩
  case voiding =>
    refine ⟨fun own => if_pos own, fun other full => ?_, fun other room => ?_⟩
    · rw [State.voiding, if_neg other, if_neg (by omega)]
    · obtain ⟨before, after, split, near, far, inserted⟩ := insertVoid_spec s.release.n x s.release.voids
      refine ⟨before, after, split, near, far, ?_⟩
      rw [State.voiding, if_neg other, if_pos room, inserted]; rfl
  case giveUp =>
    have eq := State.giveUp_of_live hc live number stays
    have given : (s.giveUp n stays).contexts = (s.givenUp n c stays).contexts ∧
        (s.giveUp n stays).release.bound = (s.givenUp n c stays).release.bound := by
      rw [eq]; simp [State.restStall_release]
    have own : ({ s with contexts := (s.giveUp n stays).contexts, release := { s.release with bound := (s.giveUp n stays).release.bound } } : State) =
        s.givenUp n c stays := by rw [given.1, given.2]; rfl
    have release : (s.giveUp n stays).release = { ((s.givenUp n c stays).voiding x).release with
        stall := if (s.giveUp n stays).anyLive then ((s.givenUp n c stays).voiding x).release.stall else none } := by
      have same : (s.giveUp n stays).anyLive = ((s.givenUp n c stays).voiding x).anyLive :=
        State.anyLive_congr (by rw [given.1]; simp)
      rw [same, eq]
      simp [State.restStall_release]
    dsimp only
    rw [own]
    refine ⟨?_, fun m other => ?_, given.2, ?_, ?_, ?_, ?_⟩
    · rw [State.ctx_giveUp hc, if_pos rfl, if_pos ⟨live, by rw [number]; rfl⟩]
    · rw [State.ctx_giveUp hc, if_neg other]
    · rw [release]
    · rw [release]
    · rw [release]
    · rw [State.giveUp_releasedFrom]

/-! ### The end of an order (R40) -/

section
variable {s : State} {n : Nat} {c : Context}

/-- An order that ends, before its card is written: its held asks are gone, and its number where it gives it up (R40, steps 2 and
3). -/
def State.beforeFinish (s : State) (n : Nat) (gives : Bool) : State :=
  if gives then (s.setHeld (s.handover.held.filter (fun h => !h.ofCard n))).giveUp n false
  else s.setHeld (s.handover.held.filter (fun h => !h.ofCard n))

theorem State.beforeFinish_releasedFrom (gives : Bool) :
    (s.setHeld (s.handover.held.filter (fun h => !h.ofCard n))).ReleasedFrom (s.beforeFinish n gives) := by
  unfold State.beforeFinish
  split
  · exact State.giveUp_releasedFrom n false
  · rfl

theorem State.ctx_beforeFinish (hc : s.ctx n = some c) (gives : Bool) (m : Nat) :
    (s.beforeFinish n gives).ctx m = if m = n then
      some (if gives = true ∧ c.seqState = .live ∧ c.seq.isSome then { c with seqState := .givenUp } else c) else s.ctx m := by
  unfold State.beforeFinish
  cases gives with
  | true =>
    rw [if_pos rfl]
    have kept : (s.setHeld (s.handover.held.filter (fun h => !h.ofCard n))).ctx n = some c := hc
    rw [State.ctx_giveUp kept]
    simp only [Bool.or_false, true_and]
    rfl
  | false =>
    have kept : (s.setHeld (s.handover.held.filter (fun h => !h.ofCard n))).ctx m = s.ctx m := rfl
    rw [if_neg (by decide), kept]
    by_cases own : m = n
    · subst own; simp [hc]
    · rw [if_neg own]

/-- The end of an order, card by card (R40, steps 4 to 8). -/
theorem State.finishOrder_eq (hc : s.ctx n = some c) (final : Byte) (r : ReasonCode) (detail : Byte) (gives : Bool) :
    s.finishOrder n final r detail gives =
      (((((s.beforeFinish n gives).writeCard n 32 (outcomeBlock r detail ((c.side.map sideCode).getD 0x00) (resultFlags c)
        c.accepted c.bound s.stamp c.trip)).setCardState n final).appendFinish n).setContext n none) := by
  have ctx := State.ctx_beforeFinish hc gives n
  rw [if_pos rfl] at ctx
  have outcome (d : Context)
      (hd : d = if gives = true ∧ c.seqState = .live ∧ c.seq.isSome then { c with seqState := .givenUp } else c) :
      outcomeBytes { d with finished := s.stamp } r detail =
        outcomeBlock r detail ((c.side.map sideCode).getD 0x00) (resultFlags c) c.accepted c.bound s.stamp c.trip := by
    subst hd
    split <;> rfl
  unfold State.finishOrder
  dsimp only
  split
  · next gone => cases gone.symm.trans ctx
  · next d hd => rw [outcome d (Option.some.inj (hd.symm.trans ctx))]; rfl

end

/-- Settles O25. -/
theorem finishOrder : Obligations.FinishOrder := by
  intro s n c final r detail gives slot hc t
  have eq : t = _ := State.finishOrder_eq hc final r detail gives
  have before := State.beforeFinish_releasedFrom (s := s) (n := n) gives
  have release : t.release = (s.beforeFinish n gives).release := by rw [eq]; rfl
  have mem : t.board.mem = (((s.beforeFinish n gives).writeCard n 32 (outcomeBlock r detail ((c.side.map sideCode).getD 0x00)
      (resultFlags c) c.accepted c.bound s.stamp c.trip)).setCardState n final).board.mem := by rw [eq]; rfl
  have board : (s.beforeFinish n gives).board = s.board := by rw [before]; rfl
  have held : t.handover.held = s.handover.held.filter (fun h => !h.ofCard n) := by rw [eq]; exact by rw [before]; rfl
  refine ⟨fun g => ?_, fun none => ?_, ?_, (State.outcome_written _ slot _ _ _ _ _ _ _ _ _).congr mem, ?_, ?_, fun h hh => ?_,
    fun m other => ?_, ?_, ?_, ?_, ?_, ?_, ?_, ?_, ?_, fun a state outside => ?_⟩
  · rw [release, State.beforeFinish, if_pos g]
  · rw [release, State.beforeFinish]
    split
    · next g =>
      have kept : (s.setHeld (s.handover.held.filter (fun h => !h.ofCard n))).ctx n = some c := hc
      rw [State.giveUp_of_none kept (none.resolve_left (by rw [g]; decide))]; rfl
    · rfl
  · rw [eq]; exact State.ctx_setContext_self _ _ _ slot
  · rw [eq, ← board]; rfl
  · rw [eq, ← board]; rfl
  · rw [held] at hh
    simpa using (List.mem_filter.1 hh).2
  · rw [eq]
    refine (State.ctx_setContext_ne _ _ _ _ (Ne.symm other)).trans ?_
    exact (State.ctx_beforeFinish hc gives m).trans (if_neg other)
  · simp [t]
  · simp [t]
  · simp [t]
  · simp [t]
  · simp [t]
  · simp [t]
  · simp [t]
  · simp [t]
  · rw [mem, State.read_outcome_outside _ _ _ rfl state outside, board]

/-! ### CANCEL (R41 to R45) -/

section
variable {u : State} {n : Nat} {c : Context}

theorem State.examineCancel_of_target {m : Nat} {v : State} (target : u.cardTarget n = m) (slot : m < 128) (hc : u.ctx m = some c)
    (does : u.cancelTarget m c = some v) : u.examineCancel n = v.finishNow n cardDone .none (byteOf m) := by
  unfold State.examineCancel
  rw [target, if_neg (by omega), hc]
  dsimp only
  rw [does]
  rfl

theorem State.examineCancel_in_transit {m : Nat} (target : u.cardTarget n = m) (slot : m < 128) (hc : u.ctx m = some c)
    (does : u.cancelTarget m c = none) : u.examineCancel n = u.refuse n .inTransit (byteOf m) := by
  unfold State.examineCancel
  rw [target, if_neg (by omega), hc]
  dsimp only
  rw [does]

theorem State.cancelTarget_store {m : Nat} (kind : c.kind = .store) : u.cancelTarget m c =
    if c.phase = .awaited then some ((u.cancelAtDivert c).finishOrder m cardCancelled .none 0x00) else none := by
  unfold State.cancelTarget
  rw [kind]
  cases c.phase <;> rfl

end

/-- Settles O24, by the target's kind and phase. -/
theorem cancelExamined : Obligations.CancelExamined := by
  intro s n rest head m u marked refused leads
  have target : u.cardTarget n = m := by simp only [u, head.examining_eq]; rfl
  have context {c : Option Context} (hc : s.ctx m = c) : u.ctx m = c := by simp only [u, head.examining_eq]; exact hc
  have refuses {r : ReasonCode} {d : Byte} (does : u.examineCancel n = u.refuse n r d) : refused r d :=
    head.refuses (c := .cancel) (row := fun s => s.isKind kindCancel) (f := fun n t => t.examineCancel n) rfl head.isKind does
  have cancels {v : State} {c : Context} (slot : m < 128) (hc : s.ctx m = some c) (does : u.cancelTarget m c = some v) : leads v :=
    head.leads (c := .cancel) (row := fun s => s.isKind kindCancel) (f := fun n t => t.examineCancel n) rfl head.isKind
      (State.examineCancel_of_target target slot (context hc) does)
  refine ⟨fun beyond => refuses ?_, fun slot none => refuses ?_, fun c slot hc => ⟨fun kind phase => refuses ?_,
    fun kind phase => cancels slot hc ?_, fun kind phase => cancels slot hc ?_, fun kind phase => cancels slot hc ?_,
    fun kind phase => cancels slot hc ?_, fun kind phase place => cancels slot hc ?_, fun kind phase place => cancels slot hc ?_⟩⟩
  · rw [State.examineCancel, target, if_pos beyond]
  · rw [State.examineCancel, target, if_neg (by omega), context none]
  · exact State.examineCancel_in_transit target slot (context hc) (by rw [State.cancelTarget_store kind, if_neg phase])
  · simp only [State.cancelTarget, kind, phase]
  · simp only [State.cancelTarget, kind, phase]
  · rcases phase with phase | phase <;> simp only [State.cancelTarget, kind, phase] <;> rfl
  · rcases phase with phase | phase | phase <;> simp only [State.cancelTarget, kind, phase] <;> rfl
  · rw [State.cancelTarget_store kind, if_pos phase, State.cancelAtDivert, if_neg place]
  · rw [State.cancelTarget_store kind, if_pos phase, State.cancelAtDivert, if_pos place]
    rfl

/-! ### SKIP and RENUMBER (R58 to R60) -/

theorem State.skipCheck_eq (u : State) (x : Half) : u.skipCheck x =
    if 32768 ≤ (x - u.release.n).toNat then some (.staleSeq, 0x00)
    else if x ∈ u.release.voids then some (.dupSeq, 0x80)
    else if 32 ≤ u.release.voids.length ∧ x ≠ u.release.n then some (.voidFull, 0x00) else none := by
  unfold State.skipCheck
  simp only [firstFailure_cons]
  by_cases behind : 32768 ≤ (x - u.release.n).toNat
  · rw [if_pos behind, check_fails (mt (u.ahead_iff x).1 (by omega))]; rfl
  · rw [if_neg behind, check_holds ((u.ahead_iff x).2 (by omega))]
    by_cases void : x ∈ u.release.voids
    · rw [if_pos void, check_fails (by simpa using void)]; rfl
    · rw [if_neg void, check_holds (by simpa using void)]
      by_cases full : 32 ≤ u.release.voids.length ∧ x ≠ u.release.n
      · rw [if_pos full, check_fails (by simpa using full)]; rfl
      · have room : (decide (u.release.voids.length < 32) || x == u.release.n) = true := by
          rw [Bool.or_eq_true, decide_eq_true_iff, beq_iff_eq]
          by_contra h
          exact full ⟨by omega, fun e => h (.inr e)⟩
        rw [if_neg full, check_holds room]; rfl

/-- Settles O28. -/
theorem skipAndRenumber : Obligations.SkipAndRenumber := by
  intro s n rest x u
  refine ⟨fun head => ?skip, fun head => ?renumber⟩
  case skip =>
    intro refused
    have view : u.skipCheck x = s.skipCheck x ∧ u.cardSeq n = x ∧ ∀ p, u.findOpen p = s.findOpen p := by
      simp only [u, head.examining_eq]; exact ⟨rfl, rfl, fun _ => rfl⟩
    obtain ⟨checks, seq, finds⟩ := view
    have refuses {r : ReasonCode} {d : Byte} (fails : s.skipCheck x = some (r, d)) : refused r d :=
      head.refuses (c := .skip) (row := fun s => s.isKind kindSkip) (f := fun n t => t.examineSkip n) rfl head.isKind (by
        change u.examineSkip n = _
        simp only [State.examineSkip, seq, checks, fails]
        rfl)
    have passes {v : State} (ok : s.skipCheck x = none) (does : u.examineSkip n = v) : Leads .skip s v :=
      head.leads (c := .skip) (row := fun s => s.isKind kindSkip) (f := fun n t => t.examineSkip n) rfl head.isKind does
    refine ⟨fun behind => refuses ?_, fun front void => refuses ?_, fun front fresh full other => refuses ?_,
      fun front fresh room => ?_⟩
    · rw [State.skipCheck_eq, if_pos behind]
    · rw [State.skipCheck_eq, if_neg (by omega), if_pos void]
    · rw [State.skipCheck_eq, if_neg (by omega), if_neg fresh, if_pos ⟨full, other⟩]
    · have ok : s.skipCheck x = none := by
        rw [State.skipCheck_eq, if_neg (by omega), if_neg fresh, if_neg]
        rintro ⟨full, other⟩
        exact room.elim (by omega) other
      refine ⟨fun m holder => passes ok ?_, fun holder => passes ok ?_⟩ <;>
        simp only [State.examineSkip, seq, checks.trans ok, finds, holder] <;> rfl
  case renumber =>
    have seq : u.cardSeq n = x := by simp only [u, head.examining_eq]; rfl
    have busy : (u.anyLive || !u.release.voids.isEmpty) = (s.anyLive || !s.release.voids.isEmpty) := by
      simp only [u, head.examining_eq]; rfl
    have number : u.release = s.release := by simp only [u, head.examining_eq]
    refine ⟨fun why => ?_, fun live voids => ?_⟩
    · refine head.refuses (row := fun s => s.isKind kindRenumber) (f := fun n t => t.examineRenumber n) rfl head.isKind ?_
      change u.examineRenumber n = _
      rw [State.examineRenumber, busy, if_pos]
      simpa using why
    · have idle : ¬(u.anyLive || !u.release.voids.isEmpty) = true := by rw [busy, live, voids]; decide
      by_cases same : x = s.release.n
      · have does : u.examineRenumber n = u.finishNow n cardDone .none 0x00 := by
          rw [State.examineRenumber, if_neg idle, seq, number, if_pos same]; rfl
        obtain ⟨t, e, finished⟩ := head.finishes (row := fun s => s.isKind kindRenumber) (f := fun n t => t.examineRenumber n)
          rfl head.isKind (c := .renumber) does head.quiet head.stamp
        refine ⟨t, e, ?_, fun _ => finished, fun other => absurd same other⟩
        have release : t.release = u.release := by have kept := congrArg State.release finished.2.rest; exact kept
        rw [release, number, same]
      · have does : u.examineRenumber n =
            (u.setRelease { s.release with n := x, stallReported := false, stall := none }).finishNow n cardDone .none 0x00 := by
          rw [State.examineRenumber, if_neg idle, seq, number, if_neg same]; rfl
        obtain ⟨t, e, finished⟩ := head.finishes (row := fun s => s.isKind kindRenumber) (f := fun n t => t.examineRenumber n)
          rfl head.isKind (c := .renumber) does head.quiet head.stamp
        have release : t.release = { s.release with n := x, stallReported := false, stall := none } := by
          have kept := congrArg State.release finished.2.rest
          exact kept
        exact ⟨t, e, by rw [release], fun own => absurd own same, fun _ => ⟨by rw [release], by rw [release], finished⟩⟩

end Sys2Proof.Machine
end

section
/-! PROOF. The place a card names, the check of a profile record, and the examinations of COMMIT and ERASE (the statements NamedPlace
and CommitAndEraseExamined). -/

namespace Sys2Proof.Machine

/-! ### The place a card names (1.5, R16) -/

theorem selectPlace_eq_some (levels level selector p : Nat) : selectPlace levels level selector = some p ↔
    (selector < 4 ∧ 1 ≤ level ∧ level ≤ levels ∧ p = (level - 1) * 4 + selector) ∨
    (4 ≤ selector ∧ selector < 8 ∧ level = 0 ∧ p = 160 + (selector - 4)) := by
  unfold selectPlace
  split_ifs <;> simp <;> omega

/-- Settles O30: LEVELS is at most 40, so that a level's selector names a lane. -/
theorem namedPlace : Obligations.NamedPlace := by
  intro s n k lanesOnly p inv
  have levels : s.levels ≤ 40 := State.levels_le inv.store
  have named : s.namedPlace n k lanesOnly = some p ↔
      selectPlace s.levels (s.cardLevel n) k = some p ∧
        ((isLane p = true ∧ (s.place p).fitted = true) ∨ (isLane p = false ∧ lanesOnly = false)) := by
    unfold State.namedPlace
    cases e : selectPlace s.levels (s.cardLevel n) k with
    | none => simp
    | some q =>
      dsimp only
      split
      · next ok =>
        simp only [Option.some.injEq, iff_self_and]
        rintro rfl
        simpa using ok
      · next no =>
        simp only [Option.some.injEq, reduceCtorEq, false_iff, not_and]
        rintro rfl
        simpa using no
  rw [named, selectPlace_eq_some]
  constructor
  · rintro ⟨⟨small, low, high, rfl⟩ | ⟨four, eight, zero, rfl⟩, lane⟩
    · have isLane : isLane ((s.cardLevel n - 1) * 4 + k) = true := by simp [Machine.isLane]; omega
      simp only [isLane, true_and, reduceCtorEq, false_and, or_false] at lane
      exact .inl ⟨small, low, high, rfl, lane⟩
    · have isSpur : isLane (160 + (k - 4)) = false := by simp [Machine.isLane]
      simp only [isSpur, reduceCtorEq, false_and, true_and, false_or] at lane
      exact .inr ⟨four, eight, zero, rfl, lane⟩
  · rintro (⟨small, low, high, rfl, fitted⟩ | ⟨four, eight, zero, rfl, any⟩)
    · exact ⟨.inl ⟨small, low, high, rfl⟩, .inl ⟨by simp [isLane]; omega, fitted⟩⟩
    · exact ⟨.inr ⟨four, eight, zero, rfl⟩, .inr ⟨by simp [isLane], any⟩⟩

/-! ### The check of a record (R170) -/

theorem toNat_half (lo hi : Byte) : (half lo hi).toNat = lo.toNat + 256 * hi.toNat := by
  have hl := lo.isLt
  rw [half, BitVec.toNat_append, Nat.shiftLeft_eq, Nat.or_comm, Nat.mul_comm]
  have := Nat.two_pow_add_eq_or_of_lt hl hi.toNat
  rw [Nat.or_comm] at this
  omega

/-- Of items in rising order the first that fails is the lowest that fails. -/
theorem firstFalse_eq_some (l : List (Nat × Bool)) (sorted : l.Pairwise (fun a b => a.1 < b.1)) (i : Nat) :
    (l.find? (fun x => !x.2)).map (·.1) = some i ↔ (i, false) ∈ l ∧ ∀ j, j < i → (j, false) ∉ l := by
  induction l with
  | nil => simp
  | cons x l ih =>
    obtain ⟨first, rising⟩ := List.pairwise_cons.1 sorted
    obtain ⟨k, ok⟩ := x
    cases ok with
    | true => simpa using ih rising
    | false =>
      simp only [List.find?_cons_of_pos, Bool.not_false, Option.map_some, Option.some.injEq, List.mem_cons, Prod.mk.injEq,
        and_true]
      constructor
      · rintro rfl
        refine ⟨.inl rfl, fun j hj => ?_⟩
        rintro (rfl | h)
        · exact absurd hj (Nat.lt_irrefl _)
        · exact absurd (first _ h) (Nat.not_lt.2 hj.le)
      · rintro ⟨rfl | h, lowest⟩
        · rfl
        · exact absurd (.inl rfl) (lowest k (first _ h))

theorem recordItems_sorted (r : List Byte) : (recordItems r).Pairwise (fun a b => a.1 < b.1) := by
  have run (base k : Nat) (f : Nat → Bool) :
      ((List.range k).map (fun d => (base + (d + 1), f d))).Pairwise (fun a b => a.1 < b.1) := by
    refine List.Pairwise.map _ (fun a b h => ?_) List.pairwise_lt_range
    dsimp only
    omega
  unfold recordItems
  refine List.pairwise_append.2 ⟨List.pairwise_append.2 ⟨by simp, run 20 _ _, ?_⟩, run 100 _ _, ?_⟩
  · intro a ha b hb
    obtain ⟨d, -, rfl⟩ := List.mem_map.1 hb
    simp only [List.mem_cons, List.not_mem_nil, or_false] at ha
    rcases ha with rfl | rfl | rfl | rfl | rfl | rfl | rfl | rfl | rfl | rfl | rfl <;> dsimp only <;> omega
  · intro a ha b hb
    obtain ⟨d, -, rfl⟩ := List.mem_map.1 hb
    rcases List.mem_append.1 ha with ha | ha
    · simp only [List.mem_cons, List.not_mem_nil, or_false] at ha
      rcases ha with rfl | rfl | rfl | rfl | rfl | rfl | rfl | rfl | rfl | rfl | rfl <;> dsimp only <;> omega
    · obtain ⟨e, he, rfl⟩ := List.mem_map.1 ha
      have := List.mem_range.1 he
      dsimp only
      omega

/-- What it means that an item of R170 fails, its distances and levels running to `top`. -/
def itemFails (r : List Byte) (top item : Nat) : Prop :=
  (item = 1 ∧ recHalf r 0x88 ≠ (crc16 (r.take 0x88)).toNat) ∨ (item = 2 ∧ recHalf r 0x00 ≠ 0x0A01) ∨
  (item = 3 ∧ (recByte r 0x02 < 2 ∨ 40 < recByte r 0x02)) ∨ (item = 4 ∧ recByte r 0x02 < recByte r 0x03) ∨
  (item = 5 ∧ recByte r 0x04 = 0) ∨ (item = 6 ∧ recByte r 0x05 = 0) ∨ (item = 7 ∧ 64 < recByte r 0x08) ∨
  (item = 8 ∧ (recByte r 0x09 = 0 ∨ 64 < recByte r 0x09)) ∨ (item = 9 ∧ recByte r 0x0C = 0) ∨
  (item = 10 ∧ recByte r 0x0D = 0) ∨ (item = 11 ∧ recByte r 0x0E = 0) ∨
  (∃ d, 1 ≤ d ∧ d ≤ top ∧ item = 20 + d ∧
    (recHalf r (0x10 + 2 * (d - 1)) = 0 ∨ (1 < d ∧ recHalf r (0x10 + 2 * (d - 1)) < recHalf r (0x10 + 2 * (d - 1 - 1))))) ∨
  (∃ level, 1 ≤ level ∧ level ≤ top ∧ item = 100 + level ∧ 16 ≤ recByte r (0x60 + (level - 1)))

theorem mem_recordItems_false (r : List Byte) (item : Nat) :
    (item, false) ∈ recordItems r ↔ itemFails r (min 40 (recByte r 0x02)) item := by
  have checkWord : (half (r.getD 0x88 0) (r.getD 0x89 0) == crc16 (r.take 0x88)) = false ↔
      recHalf r 0x88 ≠ (crc16 (r.take 0x88)).toNat := by
    rw [beq_eq_false_iff_ne, ← BitVec.toNat_inj.ne, toNat_half]; rfl
  have distance : (item, false) ∈ (List.range (min 40 (recByte r 0x02))).map (fun d =>
      (20 + (d + 1), decide (1 ≤ recTravel r (d + 1) ∧ (d = 0 ∨ recTravel r d ≤ recTravel r (d + 1))))) ↔
      ∃ d, 1 ≤ d ∧ d ≤ min 40 (recByte r 0x02) ∧ item = 20 + d ∧
        (recHalf r (0x10 + 2 * (d - 1)) = 0 ∨ (1 < d ∧ recHalf r (0x10 + 2 * (d - 1)) < recHalf r (0x10 + 2 * (d - 1 - 1)))) := by
    simp only [List.mem_map, List.mem_range, Prod.mk.injEq, decide_eq_false_iff_not]
    constructor
    · rintro ⟨d, hd, rfl, fails⟩
      refine ⟨d + 1, by omega, by omega, rfl, ?_⟩
      cases d with
      | zero => simp only [recTravel] at fails ⊢; simp at fails ⊢; omega
      | succ e => simp only [recTravel, Nat.add_sub_cancel] at fails ⊢; omega
    · rintro ⟨d, low, high, rfl, fails⟩
      obtain ⟨d, rfl⟩ := Nat.exists_eq_add_of_le' low
      refine ⟨d, by omega, rfl, ?_⟩
      cases d with
      | zero => simp only [recTravel] at fails ⊢; simp at fails ⊢; omega
      | succ e => simp only [recTravel, Nat.add_sub_cancel] at fails ⊢; omega
  have fit : (item, false) ∈ (List.range (min 40 (recByte r 0x02))).map (fun k =>
      (100 + (k + 1), decide (recFit r (k + 1) < 16))) ↔
      ∃ level, 1 ≤ level ∧ level ≤ min 40 (recByte r 0x02) ∧ item = 100 + level ∧ 16 ≤ recByte r (0x60 + (level - 1)) := by
    simp only [List.mem_map, List.mem_range, Prod.mk.injEq]
    constructor
    · rintro ⟨d, hd, rfl, fails⟩
      exact ⟨d + 1, by omega, by omega, rfl, Nat.not_lt.1 (of_decide_eq_false fails)⟩
    · rintro ⟨d, low, high, rfl, fails⟩
      obtain ⟨d, rfl⟩ := Nat.exists_eq_add_of_le' low
      exact ⟨d, by omega, rfl, decide_eq_false (Nat.not_lt.2 fails)⟩
  rw [recordItems, List.mem_append, List.mem_append, distance, fit, itemFails]
  simp only [List.mem_cons, List.not_mem_nil, or_false, Prod.mk.injEq, eq_comm (a := false), checkWord,
    decide_eq_false_iff_not, beq_eq_false_iff_ne]
  simp only [Nat.not_le, Nat.lt_one_iff, not_and_or, or_assoc]

/-- Beyond 40 levels item 3 fails, and no item after it matters. -/
theorem checkRecord_spec (r : List Byte) :
    (∀ item, checkRecord r = some item ↔ itemFails r (recByte r 0x02) item ∧ ∀ j, j < item → ¬itemFails r (recByte r 0x02) j) ∧
    (checkRecord r = none ↔ ∀ item, ¬itemFails r (recByte r 0x02) item) := by
  have lowest (item : Nat) : checkRecord r = some item ↔
      itemFails r (min 40 (recByte r 0x02)) item ∧ ∀ j, j < item → ¬itemFails r (min 40 (recByte r 0x02)) j := by
    simp only [← mem_recordItems_false]
    exact firstFalse_eq_some _ (recordItems_sorted r) item
  have none : checkRecord r = none ↔ ∀ item, ¬itemFails r (min 40 (recByte r 0x02)) item := by
    simp only [← mem_recordItems_false, checkRecord, Option.map_eq_none_iff, List.find?_eq_none, Prod.forall, Bool.forall_bool,
      Bool.not_false, not_true_eq_false, Bool.not_true, Bool.false_eq_true, not_false_eq_true, implies_true, and_true,
      imp_false]
  by_cases few : recByte r 0x02 ≤ 40
  · rw [Nat.min_eq_right few] at lowest none
    exact ⟨lowest, none⟩
  · have third (top : Nat) : itemFails r top 3 := .inr (.inr (.inl ⟨rfl, .inr (Nat.lt_of_not_le few)⟩))
    have early (top top' item : Nat) (h : item ≤ 20) (fails : itemFails r top item) : itemFails r top' item := by
      unfold itemFails at fails ⊢
      rcases fails with h1 | h2 | h3 | h4 | h5 | h6 | h7 | h8 | h9 | h10 | h11 | ⟨d, low, -, rfl, -⟩ | ⟨d, low, -, rfl, -⟩
      all_goals first | (simp only [*, true_or, or_true]; done) | omega
    refine ⟨fun item => (lowest item).trans ?_, none.trans ⟨fun h => absurd (third _) (h 3), fun h => absurd (third _) (h 3)⟩⟩
    have low (top : Nat) (h : ∀ j, j < item → ¬itemFails r top j) : item ≤ 20 := by
      by_contra beyond
      exact h 3 (by omega) (third top)
    constructor
    · rintro ⟨fails, first⟩
      have small := low _ first
      exact ⟨early _ _ item small fails, fun j hj fails' => first j hj (early _ _ j (by omega) fails')⟩
    · rintro ⟨fails, first⟩
      have small := low _ first
      exact ⟨early _ _ item small fails, fun j hj fails' => first j hj (early _ _ j (by omega) fails')⟩

/-! ### COMMIT and ERASE examined (R172, R174) -/

section
variable {s : State} {n : Nat} {kind : Byte} {rest : List Nat}

theorem State.storeCheck_eq (u : State) : u.storeCheck =
    if u.mode ≠ .config then some (.wrongMode, 0) else if u.store.op ≠ none then some (.storeBusy, 0)
    else if (u.lift .a).trip ≠ none ∨ (u.lift .b).trip ≠ none then some (.zoneBusy, 0) else none := by
  unfold State.storeCheck
  simp only [firstFailure_cons]
  by_cases mode : u.mode = .config
  · rw [if_neg (not_not.2 mode), check_holds (by simpa using mode)]
    cases op : u.store.op with
    | some o => rw [check_fails (by simp), if_pos (by simp)]; rfl
    | none =>
      rw [check_holds (b := none.isNone) rfl, if_neg (by simp)]
      by_cases trip : (u.lift .a).trip ≠ none ∨ (u.lift .b).trip ≠ none
      · rw [if_pos trip, check_fails]
        · rfl
        · simpa [imp_iff_not_or] using trip
      · rw [if_neg trip, check_holds]
        · rfl
        · simpa using trip
  · rw [if_pos mode, check_fails (by simpa using mode)]; rfl

/-- Starting a store operation writes the card's state byte and the operation alone (R160). -/
theorem State.startStore_eq (u : State) (w : StoreWork) : u.startStore n w =
    { u with board := (u.setCardState n cardTaken).board, store := { u.store with op := some { work := w, card := n, examined := u.stamp } } } :=
  rfl

/-- Settles O32. -/
theorem commitAndEraseExamined : Obligations.CommitAndEraseExamined := by
  refine ⟨fun r => checkRecord_spec r, fun s n rest c kind w row head => ?_⟩
  intro u free refused
  have view : u.storeCheck = s.storeCheck ∧ u.image = s.image := by
    simp only [u, head.examining_eq]; exact ⟨rfl, rfl⟩
  obtain ⟨checks, image⟩ := view
  -- what the two examinations have in common
  have examined : ∃ f : Nat → State → State,
      (∀ v, f n u = v → exec c s = .next v.resolved) ∧
      (∀ r d, f n u = u.refuse n r d → refused r d) ∧
      (∀ r, s.storeCheck = some r → f n u = u.refuse n r.1 r.2) ∧
      (∀ item, s.storeCheck = none → c = .commit → checkRecord s.image = some item → f n u = u.refuse n .badProfile (byteOf item)) ∧
      (s.storeCheck = none → c = .erase ∨ checkRecord s.image = none → f n u = u.startStore n w) := by
    rcases row with ⟨rfl, rfl, rfl⟩ | ⟨rfl, rfl, rfl⟩
    · refine ⟨fun n t => t.examineCommit n, fun v does => ?_, fun r d does => ?_, fun r fails => ?_, fun item ok _ bad => ?_,
        fun ok good => ?_⟩
      · exact does ▸ head.exec_eq (row := fun s => s.isKind kindCommit) (f := fun n t => t.examineCommit n) rfl head.isKind
      · exact head.refuses (row := fun s => s.isKind kindCommit) (f := fun n t => t.examineCommit n) rfl head.isKind does
      · simp only [State.examineCommit, checks, fails]
      · simp only [State.examineCommit, checks, ok, image, bad]
      · simp only [State.examineCommit, checks, ok, image, good.resolve_left nofun]
    · refine ⟨fun n t => t.examineErase n, fun v does => ?_, fun r d does => ?_, fun r fails => ?_, fun item _ no => (nomatch no),
        fun ok _ => ?_⟩
      · exact does ▸ head.exec_eq (row := fun s => s.isKind kindErase) (f := fun n t => t.examineErase n) rfl head.isKind
      · exact head.refuses (row := fun s => s.isKind kindErase) (f := fun n t => t.examineErase n) rfl head.isKind does
      · simp only [State.examineErase, checks, fails]
      · simp only [State.examineErase, checks, ok]
  obtain ⟨f, leads, refuses, fails, bad, starts⟩ := examined
  have passed (ok : free) : s.storeCheck = none := by
    rw [State.storeCheck_eq, if_neg (not_not.2 ok.1), if_neg (not_not.2 ok.2.1), if_neg]
    rintro (trip | trip)
    · exact trip (ok.2.2 .a)
    · exact trip (ok.2.2 .b)
  refine ⟨fun mode => refuses _ _ (fails (.wrongMode, 0) ?_), fun mode op => refuses _ _ (fails (.storeBusy, 0) ?_),
    fun mode op trip => refuses _ _ (fails (.zoneBusy, 0) ?_), fun item ok commit fault => refuses _ _ (bad item (passed ok) commit fault),
    fun ok good => ⟨u.startStore n w, ?_, ?_⟩⟩
  · rw [State.storeCheck_eq, if_pos mode]
  · rw [State.storeCheck_eq, if_neg (not_not.2 mode), if_pos op]
  · rw [State.storeCheck_eq, if_neg (not_not.2 mode), if_neg (not_not.2 op), if_pos ((side_exists _).1 trip)]
  · rw [leads _ (starts (passed ok) good), State.resolved_quiet]
    exact head.quiet
  · have own := State.startStore_eq (n := n) u w
    simp only [u, head.examining_eq] at own ⊢
    rw [own]
    exact ⟨State.cardState_setCardState head.slot _ _, rfl, fun a ne => State.read_setCardState_ne _ n _ ne, rfl, rfl, rfl⟩

end

end Sys2Proof.Machine
end

section
/-! PROOF. Changes of the whole place map and of the whole chain, what they leave, and what of a state still holds after the neighbours
have acted. -/

namespace Sys2Proof.Machine

/-! ### What the neighbours leave, part by part -/

section
variable {s t : State}

theorem State.standing_of_calm (h : t.calm = s.calm) (p : Nat) : (t.place p).standing = (s.place p).standing := by
  have same := congrArg (fun v : Vector Place 169 => v[p]?) (congrArg Calm.places h)
  simp only [State.calm, Vector.getElem?_map] at same
  unfold State.place
  rcases e : t.places[p]? with _ | a <;> rcases e' : s.places[p]? with _ | b <;> simp [e, e'] at same ⊢
  exact same

theorem State.node_of_calm (h : t.calm = s.calm) (k : Nat) : { t.node k with queue := [] } = { s.node k with queue := [] } := by
  cases k with
  | zero => rfl
  | succ k =>
    have same := congrArg (fun v : Vector Node 40 => v[k]?) (congrArg Calm.nodes h)
    simp only [State.calm, Vector.getElem?_map] at same
    unfold State.node
    rcases e : t.chain.nodes[k]? with _ | a <;> rcases e' : s.chain.nodes[k]? with _ | b <;> simp [e, e'] at same ⊢
    simpa using same

theorem State.cond_of_calm (h : t.calm = s.calm) {k : Nat} (other : k ≠ srcEntry) : t.cond k = s.cond k := by
  have same := congrArg (fun v : Vector CondEntry 48 => v[k]?) (congrArg Calm.conditions h)
  simp only [State.calm, Vector.getElem?_setIfInBounds, if_neg (Ne.symm other)] at same
  unfold State.cond
  rw [same]

theorem State.standing_resolved (s : State) (p : Nat) : (s.resolved.place p).standing = (s.place p).standing :=
  State.standing_of_calm State.resolved_calm p

theorem State.node_resolved (s : State) (k : Nat) : { s.resolved.node k with queue := [] } = { s.node k with queue := [] } :=
  State.node_of_calm State.resolved_calm k

theorem State.node_state_resolved (s : State) (k : Nat) : (s.resolved.node k).state = (s.node k).state := by
  have same := congrArg Node.state (s.node_resolved k)
  exact same

theorem State.cond_resolved (s : State) {k : Nat} (other : k ≠ srcEntry) : s.resolved.cond k = s.cond k :=
  State.cond_of_calm State.resolved_calm other

theorem State.mode_resolved (s : State) : s.resolved.mode = s.mode := congrArg Calm.mode State.resolved_calm
theorem State.store_resolved (s : State) : s.resolved.store = s.store := congrArg Calm.store State.resolved_calm
theorem State.postQueue_resolved (s : State) : s.resolved.board.postQueue = s.board.postQueue :=
  congrArg Calm.postQueue State.resolved_calm

end

/-! ### The whole place map -/

section
variable (s : State)

theorem State.place_mapPlaces (f : Nat → Place → Place) {p : Nat} (hp : p < 169) : (s.mapPlaces f).place p = f p (s.place p) := by
  simp [State.place, State.mapPlaces, Vector.getElem?_mapIdx, hp]

theorem State.place_writeMirrors (first n p : Nat) : (s.writeMirrors first n).place p = s.place p := rfl

@[simp] theorem State.copyMirror_places (old : State) (p : Nat) : (s.copyMirror old p).places = s.places := by simp

@[simp] theorem State.syncMirrors_frame (old : State) :
    (s.syncMirrors old).pending = s.pending ∧ (s.syncMirrors old).wake = s.wake ∧ (s.syncMirrors old).sent = s.sent ∧
    (s.syncMirrors old).mode = s.mode ∧ (s.syncMirrors old).lines = s.lines ∧
    (s.syncMirrors old).board.postQueue = s.board.postQueue ∧ (s.syncMirrors old).board.finishList = s.board.finishList ∧
    (s.syncMirrors old).board.changeCount = s.board.changeCount ∧ (s.syncMirrors old).board.latchMode = s.board.latchMode ∧
    (s.syncMirrors old).board.latchMisuse = s.board.latchMisuse ∧
    (s.syncMirrors old).board.latchRefused = s.board.latchRefused ∧ (s.syncMirrors old).board.enable = s.board.enable ∧
    (s.syncMirrors old).board.clock = s.board.clock ∧ (s.syncMirrors old).board.aisle = s.board.aisle ∧
    (s.syncMirrors old).conditions = s.conditions ∧ (s.syncMirrors old).contexts = s.contexts ∧
    (s.syncMirrors old).places = s.places ∧ (s.syncMirrors old).release = s.release ∧
    (s.syncMirrors old).handover = s.handover ∧ (s.syncMirrors old).lifts = s.lifts ∧ (s.syncMirrors old).chain = s.chain ∧
    (s.syncMirrors old).entry = s.entry ∧ (s.syncMirrors old).store = s.store := by
  unfold State.syncMirrors
  simpa only [Prod.mk.injEq] using foldl_view (fun t : State =>
      (t.pending, t.wake, t.sent, t.mode, t.lines, t.board.postQueue, t.board.finishList, t.board.changeCount, t.board.latchMode,
      t.board.latchMisuse, t.board.latchRefused, t.board.enable, t.board.clock, t.board.aisle, t.conditions, t.contexts,
      t.places, t.release, t.handover, t.lifts, t.chain, t.entry, t.store)) (fun t p => by simp) (List.range 164) s

/-- A block of mirror records holds each record at its own place. -/
theorem State.mirrorBlock_getElem? (first n : Nat) {k i : Nat} (hk : k < n) (hi : i < 8) :
    (s.mirrorBlock first n)[8 * k + i]? = (s.mirrorRecord (first + k))[i]? := by
  have length (m : Nat) : (s.mirrorBlock first m).length = 8 * m := by
    simp [State.mirrorBlock, List.length_flatMap, s.length_mirrorRecord, Nat.mul_comm]
  induction n with
  | zero => exact absurd hk (Nat.not_lt_zero k)
  | succ n ih =>
    have split : s.mirrorBlock first (n + 1) = s.mirrorBlock first n ++ s.mirrorRecord (first + n) := by
      simp [State.mirrorBlock, List.range_succ]
    rw [split]
    by_cases last : k = n
    · subst last
      rw [List.getElem?_append_right (by rw [length]; omega), length, show 8 * k + i - 8 * k = i by omega]
    · rw [List.getElem?_append_left (by rw [length]; omega)]
      exact ih (by omega)

theorem State.length_mirrorBlock (first n : Nat) : (s.mirrorBlock first n).length = 8 * n := by
  simp [State.mirrorBlock, List.length_flatMap, s.length_mirrorRecord, Nat.mul_comm]

/-- Rewritten records show the state (R22). -/
theorem State.writeMirrors_mirrored {first n p : Nat} (low : first ≤ p) (high : p < first + n) (hp : p < 169) :
    (s.writeMirrors first n).Mirrored p := by
  intro i hi
  have length := s.length_mirrorBlock first n
  have record : (s.writeMirrors first n).mirrorRecord p = s.mirrorRecord p := rfl
  have at' : 0x3000 + 8 * p + i = 0x3000 + 8 * first + (8 * (p - first) + i) := by omega
  have entry := s.mirrorBlock_getElem? first n (k := p - first) (i := i) (by omega) hi
  rw [show first + (p - first) = p by omega] at entry
  rw [record, at', List.getD, ← entry,
    show (s.writeMirrors first n).board.mem = Memory.write s.board.mem (0x3000 + 8 * first) (s.mirrorBlock first n) from rfl,
    Memory.read_write_inside _ _ _ (8 * (p - first) + i) (by omega) (at' ▸ home_mirror hp hi)]
  simp [show 8 * (p - first) + i < (s.mirrorBlock first n).length by omega]

theorem State.read_writeMirrors_outside {first n a : Nat} (h : a < 0x3000 + 8 * first ∨ 0x3000 + 8 * (first + n) ≤ a) :
    Memory.read (s.writeMirrors first n).board.mem a = Memory.read s.board.mem a :=
  Memory.read_write_outside _ _ _ _ (by rw [s.length_mirrorBlock]; omega)

end

theorem State.mirrorRecord_congr {s t : State} (places : t.places = s.places) (chain : t.chain = s.chain) (p : Nat) :
    t.mirrorRecord p = s.mirrorRecord p := by
  cases s; cases t
  cases places; cases chain
  rfl

/-- Copying what changed leaves a record that already shows the state (R21). -/
theorem State.Mirrored.copyMirror {s : State} {p : Nat} (h : s.Mirrored p) (old : State) (q : Nat) (hp : p < 169) :
    (s.copyMirror old q).Mirrored p := by
  unfold State.copyMirror
  split
  · by_cases own : q = p
    · subst own; exact s.writeMirror_mirrored hp
    · intro i hi
      rw [s.read_writeMirror_outside (by omega)]
      exact h i hi
  · exact h

/-- Copying a changed record shows the state (R21). -/
theorem State.copyMirror_mirrored {s old : State} {p : Nat} (changed : s.mirrorChanged old p = true) (hp : p < 169) :
    (s.copyMirror old p).Mirrored p := by
  unfold State.copyMirror
  rw [if_pos changed]
  exact s.writeMirror_mirrored hp

theorem State.syncMirrors_mirrored {s old : State} {p : Nat} (hp : p < 164) (changed : s.mirrorChanged old p = true) :
    (s.syncMirrors old).Mirrored p := by
  have folds (l : List Nat) (t : State) (places : t.places = s.places) (chain : t.chain = s.chain)
      (shown : t.Mirrored p ∨ p ∈ l) : (l.foldl (fun t q => t.copyMirror old q) t).Mirrored p := by
    induction l generalizing t with
    | nil => exact shown.resolve_right List.not_mem_nil
    | cons q l ih =>
      refine ih (t.copyMirror old q) (by simpa using places) (by simpa using chain) ?_
      rcases shown with shown | member
      · exact .inl (shown.copyMirror old q (by omega))
      · rcases List.mem_cons.1 member with rfl | later
        · refine .inl (State.copyMirror_mirrored ?_ (by omega))
          have same : t.mirrorChanged old p = s.mirrorChanged old p := by
            simp only [State.mirrorChanged, State.mirrorRecord_congr places chain, State.place_eq_of_places places]
          rw [same, changed]
        · exact .inr later
  exact folds (List.range 164) s rfl rfl (.inr (List.mem_range.2 hp))

/-! ### The work dropped with a profile (R72, R90, R173) -/

section
variable (s : State)

theorem State.dropWork_calm : s.dropWork.calm = s.calm := by
  have plans : ((s.discardPlan .a).discardPlan .b).calm = s.calm := by simp
  exact plans

@[simp] theorem State.dropWork_frame :
    s.dropWork.pending = s.pending ∧ s.dropWork.sent = s.sent ∧ s.dropWork.mode = s.mode ∧ s.dropWork.lines = s.lines ∧
    s.dropWork.board.postQueue = s.board.postQueue ∧ s.dropWork.board.finishList = s.board.finishList ∧
    s.dropWork.board.changeCount = s.board.changeCount ∧ s.dropWork.board.clock = s.board.clock ∧
    s.dropWork.conditions = s.conditions ∧ s.dropWork.contexts = s.contexts ∧ s.dropWork.release = s.release ∧
    s.dropWork.entry = s.entry ∧ s.dropWork.store = s.store ∧ s.dropWork.handover.held = [] ∧
    s.dropWork.handover.grants = Vector.replicate 40 none := by
  simp [State.dropWork]

theorem State.grant_of_replicate {s : State} (h : s.handover.grants = Vector.replicate 40 none) (k : Nat) : s.grant k = none := by
  cases k with
  | zero => rfl
  | succ k =>
    simp only [State.grant, h, Vector.getElem?_replicate]
    split <;> rfl

end

end Sys2Proof.Machine
end

section
/-! PROOF. The profile store reports the end of its operation, and RETIRE is examined (the statements CommitEnds, EraseEnds and
RetireEnds). -/

namespace Sys2Proof.Machine

theorem exec_of_live {s : State} {c : Instr} {f : State → State} (live : Live s) (e : exec c s = s.live f) :
    exec c s = .next (f { s with sent := [] }).resolved := by
  rw [e, State.live, State.event, State.begin_of_reported live.reported, if_neg live.mode]

theorem Live.begin_eq {s : State} (live : Live s) : s.begin = { s with sent := [] } := State.begin_of_reported live.reported

theorem areaOf_record {bs : List Byte} (h : bs.length = 138) : areaOf bs = bs := by
  rw [areaOf, ← h, List.take_left]

theorem State.cond_congr {s t : State} (h : t.conditions = s.conditions) (k : Nat) : t.cond k = s.cond k := by
  simp [State.cond, h]

theorem State.stamp_congr {s t : State} (h : t.board.clock = s.board.clock) : t.stamp = s.stamp := by simp [State.stamp, h]

theorem State.node_congr {s t : State} (h : t.chain.nodes = s.chain.nodes) (k : Nat) : t.node k = s.node k := by
  cases k <;> simp [State.node, h]

/-! ### A profile is adopted or lost (R173, R174) -/

section
variable (s : State)

/-- Every part of the state that adopting a profile leaves. -/
theorem State.adoptProfile_store (record : List Byte) :
    (s.adoptProfile record).store = { s.store with active := some record } := by
  have kept : s.dropWork.store = s.store := by simp
  rw [← kept]; rfl

theorem State.adoptProfile_handover (record : List Byte) :
    (s.adoptProfile record).handover = { held := [], grants := Vector.replicate 40 none } := rfl

theorem State.adoptProfile_lane (record : List Byte) {p : Nat} (hp : p < 160) :
    ((s.adoptProfile record).place p) = { (s.dropWork.place p).emptied with
      fitted := recordFits record p, retired := slotsRetire s.store.judged (recByte record 0x02) p, retiring := false } := by
  have kept : s.dropWork.store = s.store := by simp
  unfold State.adoptProfile
  generalize s.dropWork = t at kept
  have mapped := State.place_mapPlaces (t.setStore { t.store with active := some record })
    (State.committedPlace (t.setStore { t.store with active := some record })) (show p < 169 by omega)
  refine mapped.trans ?_
  rw [State.committedPlace, if_pos (by simpa [isLane] using hp), ← kept]
  rfl

/-- The nodes at the start of the chain (R141). -/
theorem State.node_startChain {k : Nat} (low : 1 ≤ k) (high : k ≤ 40) : s.startChain.node k = s.startNode k (s.node k) := by
  obtain ⟨k, rfl⟩ := Nat.exists_eq_add_of_le' low
  have nodes : s.startChain.chain.nodes = s.chain.nodes.mapIdx (fun k nd => s.startNode (k + 1) nd) := rfl
  simp only [State.node, nodes, Vector.getElem?_mapIdx]
  simp [show k < 40 by omega]

theorem State.adoptProfile_node_state (record : List Byte) {k : Nat} (low : 1 ≤ k) (high : k ≤ 40) :
    ((s.adoptProfile record).node k).state = if k ≤ recByte record 0x02 then .seeking else .off := by
  unfold State.adoptProfile
  rw [State.node_startChain _ low high, State.startNode]
  simp only [apply_ite Node.state]
  rfl

theorem State.loseProfile_store (clears : Bool) : (s.loseProfile clears).store = { s.store with active := none } := by
  simp [State.loseProfile, State.silenceChain, State.losePlaces, State.mapPlaces, State.setStore]

theorem State.loseProfile_handover (clears : Bool) :
    (s.loseProfile clears).handover = { held := [], grants := Vector.replicate 40 none } := by
  simp [State.loseProfile, State.silenceChain, State.losePlaces, State.mapPlaces, State.setStore, State.dropWork]

theorem State.loseProfile_conditions (clears : Bool) : (s.loseProfile clears).conditions = s.conditions := by
  simp [State.loseProfile, State.silenceChain, State.losePlaces, State.mapPlaces, State.setStore]

theorem State.loseProfile_clock (clears : Bool) : (s.loseProfile clears).board.clock = s.board.clock := by
  simp [State.loseProfile, State.silenceChain, State.losePlaces, State.mapPlaces, State.setStore]

theorem State.loseProfile_mode (clears : Bool) : (s.loseProfile clears).mode = s.mode := by
  simp [State.loseProfile, State.silenceChain, State.losePlaces, State.mapPlaces, State.setStore]

theorem State.loseProfile_place (clears : Bool) {p : Nat} (hp : p < 169) :
    (s.loseProfile clears).place p = lostPlace clears p (s.dropWork.place p) := by
  have mapped := State.place_mapPlaces (s.dropWork.setStore { s.dropWork.store with active := none }) (lostPlace clears) hp
  refine Eq.trans (State.place_eq_of_places ?_ p) mapped
  simp [State.loseProfile, State.silenceChain, State.losePlaces]

theorem State.loseProfile_lane (clears : Bool) {p : Nat} (hp : p < 160) :
    ((s.loseProfile clears).place p).entries = [] ∧ ((s.loseProfile clears).place p).fitted = false ∧
      ((s.loseProfile clears).place p).retired = if clears then false else (s.dropWork.place p).retired := by
  rw [State.loseProfile_place s clears (by omega), lostPlace, if_pos (by simpa [isLane] using hp)]
  exact ⟨rfl, rfl, rfl⟩

theorem State.silenceChain_node_state (k : Nat) : (s.silenceChain.node k).state = .off := by
  cases k with
  | zero => rfl
  | succ k =>
    simp only [State.node, State.silenceChain, Vector.getElem?_map]
    cases s.chain.nodes[k]? <;> rfl

theorem State.loseProfile_node_state (clears : Bool) (k : Nat) : ((s.loseProfile clears).node k).state = .off :=
  State.silenceChain_node_state _ k

theorem State.raiseStoreLost_frame (kind : Byte) (card : Nat) :
    (s.raiseStoreLost kind card).places = s.places ∧ (s.raiseStoreLost kind card).handover = s.handover ∧
    (s.raiseStoreLost kind card).store = s.store ∧ (s.raiseStoreLost kind card).chain = s.chain ∧
    (s.raiseStoreLost kind card).board = s.board ∧ (s.raiseStoreLost kind card).mode = s.mode := ⟨rfl, rfl, rfl, rfl, rfl, rfl⟩

/-- The two conditions of a lost profile, one after the other (R173, R174). -/
theorem State.cond_raiseStoreLost (kind : Byte) (card : Nat) : (s.raiseStoreLost kind card).cond srcStore =
    ((s.cond srcStore).raised .storeFault kind (byteOf card) s.stamp).raised .noProfile kind 0x00 s.stamp := by
  unfold State.raiseStoreLost
  rw [State.cond_raise_self _ (by decide), State.cond_raise_self _ (by decide)]
  rfl

end

theorem State.cond_of_lost {s t : State} (conditions : t.conditions = s.conditions) (clock : t.board.clock = s.board.clock)
    (clears : Bool) (kind : Byte) (card : Nat) : ((t.loseProfile clears).raiseStoreLost kind card).cond srcStore =
    ((s.cond srcStore).raised .storeFault kind (byteOf card) s.stamp).raised .noProfile kind 0x00 s.stamp := by
  rw [State.cond_raiseStoreLost, State.cond_congr ((State.loseProfile_conditions _ _).trans conditions),
    State.stamp_congr ((State.loseProfile_clock _ _).trans clock)]

theorem Place.standing_fields {q r : Place} (h : q.standing = r.standing) : q.fitted = r.fitted ∧ q.retired = r.retired ∧
    q.retiring = r.retiring ∧ q.frozen = r.frozen ∧ q.barred = r.barred ∧ q.awaiting = r.awaiting ∧ q.sensed = r.sensed := by
  simpa [Place.standing] using h

/-! ### The end of a COMMIT (R173) -/

theorem exec_commitEnd {s : State} (live : Live s) {o : StoreOp} {copy : List Byte} (op : s.store.op = some o)
    (work : o.work = .commit copy) (completed : Bool) (readBack : List Byte) :
    exec (.commitEnd completed readBack) s = .next (s.begin.commitEnded o copy completed readBack).resolved := by
  rw [exec_of_live live (c := .commitEnd completed readBack) (f := fun t => match t.store.op with
    | none => t
    | some o => match o.work with | .commit copy => t.commitEnded o copy completed readBack | _ => t) rfl, live.begin_eq]
  simp only [op, work]

/-- Settles O33. -/
theorem commitEnds : Obligations.CommitEnds := by
  intro s o copy readBack completed live op work lengthCopy length
  have area := areaOf_record length
  have begun : s.begin.store = s.store ∧ s.begin.conditions = s.conditions ∧ s.begin.board.clock = s.board.clock := by
    rw [live.begin_eq]; exact ⟨rfl, rfl, rfl⟩
  obtain ⟨beginStore, beginConditions, beginClock⟩ := begun
  refine ⟨fun done same => ?good, fun bad => ?lost⟩
  case good =>
    intro u t
    have does : s.begin.commitEnded o copy completed readBack = u.finishCard o.card cardDone .none 0x00 o.examined := by
      rw [State.commitEnded, if_pos (by rw [area, same, done]; simp), area]
      simp only [u, beginStore]
    have store : u.store = { s.store with profile := copy, active := some copy, op := none } := by
      rw [State.adoptProfile_store, ← same, ← beginStore]; rfl
    have lane {p : Nat} (hp : p < 160) := State.adoptProfile_lane (s.begin.endStore readBack s.store.slots) copy hp
    have stands (p : Nat) : (t.place p).standing = (u.place p).standing := by
      rw [State.standing_resolved, State.place_eq_of_places (s := u) (by simp)]
    refine ⟨by rw [exec_commitEnd live op work, does], fun p hp => ?_, State.grant_of_replicate rfl, rfl, ?_, fun p hp => ?_,
      fun k low high => ?_⟩
    · rw [State.entries, lane hp]; rfl
    · rw [State.store_resolved, ← store]; simp
    · obtain ⟨fitted, retired, -, -, -, awaiting, sensed⟩ := Place.standing_fields (stands p)
      rw [lane hp] at fitted awaiting retired sensed
      refine ⟨fitted, awaiting, retired.trans ?_, sensed⟩
      show slotsRetire (s.begin.endStore readBack s.store.slots).store.judged _ p = _
      rw [← beginStore]; rfl
    · rw [State.node_state_resolved, State.node_congr (s := u) (by simp), State.adoptProfile_node_state _ _ low high]
  case lost =>
    intro u t
    have does : s.begin.commitEnded o copy completed readBack = u.finishCard o.card cardFailed .storeFault 0x00 o.examined := by
      rw [State.commitEnded, if_neg (by rcases bad with bad | bad <;> simp [bad, area]), area]
      simp only [u, beginStore]
    obtain ⟨places, handover, store, chain, board, -⟩ :=
      State.raiseStoreLost_frame ((s.begin.endStore readBack s.store.slots).loseProfile false) 0x0A o.card
    have lane {p : Nat} (hp : p < 160) := State.loseProfile_lane (s.begin.endStore readBack s.store.slots) false hp
    have conditions : t.cond srcStore = u.cond srcStore := by
      rw [State.cond_resolved _ (by decide), State.cond_congr (s := u) (by simp)]
    refine ⟨by rw [exec_commitEnd live op work, does], fun p hp => ?_,
      State.grant_of_replicate (by rw [handover, State.loseProfile_handover]), by rw [handover, State.loseProfile_handover], ?_,
      fun p hp => ?_, fun k => ?_, ?_⟩
    · rw [State.entries, State.place_eq_of_places places]; exact (lane hp).1
    · rw [State.store_resolved, show (u.finishCard o.card cardFailed .storeFault 0x00 o.examined).store = u.store by simp, store,
        State.loseProfile_store, ← beginStore]
      rfl
    · refine (Place.standing_fields (State.standing_resolved _ p)).1.trans ?_
      rw [State.place_eq_of_places (s := u) (by simp), State.place_eq_of_places places]
      exact (lane hp).2.1
    · rw [State.node_state_resolved, State.node_congr (s := u) (by simp),
        State.node_congr (s := (s.begin.endStore readBack s.store.slots).loseProfile false) (by rw [chain])]
      exact State.loseProfile_node_state _ _ k
    · exact conditions.trans (State.cond_of_lost (t := s.begin.endStore readBack s.store.slots) beginConditions beginClock _ _ _)

/-! ### The end of an ERASE (R174) -/

theorem exec_eraseEnd {s : State} (live : Live s) {o : StoreOp} (op : s.store.op = some o) (work : o.work = .erase)
    (profile : List Byte) (slots : Vector Slot 32) :
    exec (.eraseEnd profile slots) s = .next (s.begin.eraseEnded o profile slots).resolved := by
  rw [exec_of_live live (c := .eraseEnd profile slots) (f := fun t => match t.store.op with
    | none => t
    | some o => match o.work with | .erase => t.eraseEnded o profile slots | _ => t) rfl, live.begin_eq]
  simp only [op, work]

theorem allErased_iff (slots : Vector Slot 32) : slots.toList.all slotIsErased = true ↔ ∀ x ∈ slots.toList, x = slotErased := by
  simp only [List.all_eq_true, slotIsErased, beq_iff_eq]

/-- The detail of an ERASE that failed: the areas that did not read back erased (R174). -/
theorem eraseDetail_eq {profile : List Byte} (length : profile.length = 138) (slots : Vector Slot 32)
    [Decidable (∀ x ∈ slots.toList, x = slotErased)] : eraseDetail profile slots =
    if profile = erasedRecord then (if ∀ x ∈ slots.toList, x = slotErased then 0x00 else 0x02)
    else if ∀ x ∈ slots.toList, x = slotErased then 0x01 else 0x03 := by
  rw [eraseDetail, areaOf_record length]
  by_cases record : profile = erasedRecord <;> by_cases erased : ∀ x ∈ slots.toList, x = slotErased
  · rw [if_pos record, if_pos erased, (allErased_iff slots).2 erased, record, bne_self_eq_false]; rfl
  · rw [if_pos record, if_neg erased, Bool.eq_false_iff.2 (mt (allErased_iff slots).1 erased), record, bne_self_eq_false]; rfl
  · rw [if_neg record, if_pos erased, (allErased_iff slots).2 erased, bne_iff_ne.2 record]; rfl
  · rw [if_neg record, if_neg erased, Bool.eq_false_iff.2 (mt (allErased_iff slots).1 erased), bne_iff_ne.2 record]; rfl

/-- The mirror record of a lane whose profile is lost shows it, where the lane was fitted or retired (R21, R174). -/
theorem State.losePlaces_mirrored (s : State) {p : Nat} (hp : p < 160)
    (was : (s.place p).fitted = true ∨ (s.place p).retired = true) : (s.losePlaces true).Mirrored p := by
  refine State.syncMirrors_mirrored (by omega) ?_
  have mapped := State.place_mapPlaces s (lostPlace true) (show p < 169 by omega)
  rw [lostPlace, if_pos (by simpa [isLane] using hp)] at mapped
  have differs : ((s.mapPlaces (lostPlace true)).place p).mirrored ≠ (s.place p).mirrored := by
    intro same
    obtain ⟨-, -, -, fitted, retired, -⟩ := Place.fields_of_mirrored same
    rw [mapped] at fitted retired
    rcases was with was | was
    · rw [was] at fitted; cases fitted
    · rw [was] at retired; cases retired
  simp only [State.mirrorChanged, Bool.or_eq_true, bne_iff_ne]
  exact .inl differs

theorem State.loseProfile_mirrored (s : State) {p : Nat} (hp : p < 160)
    (was : (s.place p).fitted = true ∨ (s.place p).retired = true) : (s.loseProfile true).Mirrored p := by
  obtain ⟨fitted, retired, -⟩ := Place.standing_fields (State.standing_of_calm s.dropWork_calm p)
  have own := State.losePlaces_mirrored (s.dropWork.setStore { s.dropWork.store with active := none }) hp (by
    rw [← fitted, ← retired] at was; exact was)
  have lane := (State.loseProfile_lane s true hp).2.1
  unfold State.loseProfile at lane ⊢
  dsimp only at lane ⊢
  generalize (s.dropWork.setStore { s.dropWork.store with active := none }).losePlaces true = t at own lane ⊢
  intro i hi
  have same : t.silenceChain.mirrorRecord p = t.mirrorRecord p := by
    rw [State.mirrorRecord_unfitted _ hp lane, State.mirrorRecord_unfitted t hp lane]
  rw [same]
  exact own i hi

/-- Settles O34. -/
theorem eraseEnds : Obligations.EraseEnds := by
  intro s o profile slots live op work length u clean
  have base : s.begin.store = s.store ∧ s.begin.conditions = s.conditions ∧ s.begin.board.clock = s.board.clock ∧
      s.begin.places = s.places := by
    rw [live.begin_eq]; exact ⟨rfl, rfl, rfl, rfl⟩
  obtain ⟨beginStore, beginConditions, beginClock, beginPlaces⟩ := base
  have detail := eraseDetail_eq length slots
  have exec := exec_eraseEnd live op work profile slots
  have good (ok : clean) : s.begin.eraseEnded o profile slots = u.finishCard o.card cardDone .none 0x00 o.examined := by
    rw [if_pos ok.1, if_pos ok.2] at detail
    rw [State.eraseEnded, if_pos detail, areaOf_record length]
  have bad (no : ¬clean) : s.begin.eraseEnded o profile slots =
      (u.raiseStoreLost 0x0B o.card).finishCard o.card cardFailed .storeFault (eraseDetail profile slots) o.examined := by
    have nonzero : eraseDetail profile slots ≠ 0 := by
      rw [detail]
      by_cases record : profile = erasedRecord
      · rw [if_pos record, if_neg fun erased => no ⟨record, erased⟩]; decide
      · rw [if_neg record]; split <;> decide
    rw [State.eraseEnded, if_neg nonzero, areaOf_record length]
  have ended : ∃ (v : State) (final : Byte) (r : ReasonCode) (d : Byte),
      s.begin.eraseEnded o profile slots = v.finishCard o.card final r d o.examined ∧ v.places = u.places ∧ v.chain = u.chain ∧
      v.store = u.store ∧ (clean → v.conditions = u.conditions) ∧ (¬clean → v = u.raiseStoreLost 0x0B o.card) := by
    by_cases ok : clean
    · exact ⟨u, _, _, _, good ok, rfl, rfl, rfl, fun _ => rfl, fun no => absurd ok no⟩
    · obtain ⟨places, -, store, chain, -⟩ := u.raiseStoreLost_frame 0x0B o.card
      exact ⟨u.raiseStoreLost 0x0B o.card, _, _, _, bad ok, places, chain, store, fun yes => absurd yes ok, fun _ => rfl⟩
  obtain ⟨v, final, r, d, does, places, chain, store, calm, lost⟩ := ended
  have lane {p : Nat} (hp : p < 160) := State.loseProfile_lane (s.begin.endStore profile slots).forgetFailures true hp
  rw [does] at exec
  refine ⟨fun ok => by rw [Leads, exec, ← does, good ok], fun no => ?_, _, exec, ?_, fun p hp was => ?_, fun p hp => ?_,
    fun k => ?_, fun ok => ?_, fun no => ?_⟩
  · rw [Leads, exec, ← does, bad no, detail]
    by_cases record : profile = erasedRecord
    · rw [if_pos record, if_pos record, if_neg fun erased => no ⟨record, erased⟩]
    · rw [if_neg record, if_neg record]
  · rw [State.store_resolved, show (v.finishCard o.card final r d o.examined).store = v.store by simp, store,
      State.loseProfile_store, ← beginStore]
    rfl
  · refine State.loseProfile_mirrored _ hp ?_
    rw [State.place_eq_of_places (s := s) (t := (s.begin.endStore profile slots).forgetFailures) beginPlaces]
    exact was
  · obtain ⟨fitted, retired, -⟩ := Place.standing_fields (State.standing_resolved (v.finishCard o.card final r d o.examined) p)
    have same : (v.finishCard o.card final r d o.examined).place p = u.place p :=
      (State.place_eq_of_places (s := v) (by simp) p).trans (State.place_eq_of_places places p)
    rw [same] at fitted retired
    exact ⟨fitted.trans (lane hp).2.1, retired.trans (lane hp).2.2⟩
  · rw [State.node_state_resolved, State.node_congr (s := v) (by simp), State.node_congr (s := u) (by rw [chain])]
    exact State.loseProfile_node_state _ _ k
  · rw [State.cond_resolved _ (by decide), State.cond_congr (s := v) (by simp), State.cond_congr (calm ok),
      State.cond_congr (State.loseProfile_conditions _ _),
      State.cond_congr (s := s) (t := (s.begin.endStore profile slots).forgetFailures) beginConditions]
  · rw [State.cond_resolved _ (by decide), State.cond_congr (s := v) (by simp), lost no]
    exact State.cond_of_lost (t := (s.begin.endStore profile slots).forgetFailures) beginConditions beginClock _ _ _

/-! ### RETIRE (R16, R20, R175) -/

theorem State.store_finishCard (s : State) (n : Nat) (final : Byte) (r : ReasonCode) (detail : Byte) (examined : Word) :
    (s.finishCard n final r detail examined).store = s.store := by simp

/-- A slot as it is judged: one whose RETIRE failed is spoiled (R175). -/
theorem Store.judged_getElem? (st : Store) (j : Nat) (x : Slot) : st.judged[j]? = some x ↔
    ∃ y f, st.slots[j]? = some y ∧ st.failed[j]? = some f ∧ x = if f then slotSpoiled else y := by
  by_cases h : j < 32
  · simp only [Store.judged, Vector.getElem?_eq_getElem h, Vector.getElem_zipWith, Option.some.injEq]
    constructor
    · rintro rfl; exact ⟨_, _, rfl, rfl, rfl⟩
    · rintro ⟨y, f, rfl, rfl, rfl⟩; rfl
  · simp [Vector.getElem?_eq_none (Nat.not_lt.1 h)]

/-- A slot that RETIRE may program: erased, and no earlier RETIRE of it has failed (R175). -/
def Store.Free (st : Store) (j : Nat) : Prop := st.slots[j]? = some slotErased ∧ st.failed[j]? = some false

theorem Store.free_iff (st : Store) (j : Nat) : st.Free j ↔ ∃ x, st.judged[j]? = some x ∧ slotIsErased x = true := by
  simp only [Store.judged_getElem?, slotIsErased, beq_iff_eq]
  constructor
  · rintro ⟨slot, failed⟩
    exact ⟨slotErased, ⟨slotErased, false, slot, failed, rfl⟩, rfl⟩
  · rintro ⟨_, ⟨y, f, slot, failed, rfl⟩, erased⟩
    cases f with
    | false => exact ⟨by rw [slot]; exact congrArg some erased, failed⟩
    | true => exact absurd (show slotSpoiled = slotErased from erased) (by decide)

theorem State.freeSlot_eq_none (s : State) : s.freeSlot = none ↔ ∀ j, ¬s.store.Free j := by
  simp only [State.freeSlot, List.findIdx?_eq_none_iff, Store.free_iff, not_exists, not_and, Bool.not_eq_true]
  constructor
  · intro h j x slot
    rw [← Vector.getElem?_toList] at slot
    exact h x (List.mem_of_getElem? slot)
  · intro h x member
    obtain ⟨j, slot⟩ := List.getElem?_of_mem member
    rw [Vector.getElem?_toList] at slot
    exact h j x slot

theorem State.freeSlot_eq_some (s : State) (j : Nat) (free : s.store.Free j) (first : ∀ i, i < j → ¬s.store.Free i) :
    s.freeSlot = some j := by
  obtain ⟨x, slot, erased⟩ := (s.store.free_iff j).1 free
  rw [← Vector.getElem?_toList] at slot
  rw [State.freeSlot, List.findIdx?_eq_some_iff_getElem]
  obtain ⟨hj, rfl⟩ := List.getElem?_eq_some_iff.1 slot
  refine ⟨hj, erased, fun i hi => ?_⟩
  intro other
  refine first i hi ((s.store.free_iff i).2 ⟨s.store.judged.toList[i], ?_, other⟩)
  rw [← Vector.getElem?_toList, List.getElem?_eq_getElem]

theorem slotsRetire_judged (st : Store) (levels p : Nat) : slotsRetire st.judged levels p = true ↔
    ∃ (j : Nat) (x : Slot), st.slots[j]? = some x ∧ st.failed[j]? = some false ∧ slotIsValid x = true ∧ x.b0.toNat ≤ levels ∧
      slotLane x = p := by
  simp only [slotsRetire, List.any_eq_true, Bool.and_eq_true, decide_eq_true_iff, beq_iff_eq]
  constructor
  · rintro ⟨x, member, ⟨valid, level⟩, lane⟩
    obtain ⟨j, slot⟩ := List.getElem?_of_mem member
    rw [Vector.getElem?_toList, Store.judged_getElem?] at slot
    obtain ⟨y, f, slot, failed, rfl⟩ := slot
    cases f with
    | false => exact ⟨j, y, slot, failed, valid, level, lane⟩
    | true => exact absurd (show slotIsValid slotSpoiled = true from valid) (by decide)
  · rintro ⟨j, x, slot, failed, valid, level, lane⟩
    refine ⟨x, ?_, ⟨valid, level⟩, lane⟩
    have judged := (st.judged_getElem? j x).2 ⟨x, false, slot, failed, rfl⟩
    rw [← Vector.getElem?_toList] at judged
    exact List.mem_of_getElem? judged

/-- Replacing a place's record writes its mirror record alone (R21). -/
theorem State.read_setPlace_outside (s : State) {p a : Nat} (q : Place) (h : a < 0x3000 + 8 * p ∨ 0x3008 + 8 * p ≤ a) :
    Memory.read (s.setPlace p q).board.mem a = Memory.read s.board.mem a := by
  unfold State.setPlace State.copyMirror
  split
  · exact State.read_writeMirror_outside _ h
  · rfl

theorem State.read_setStatus_outside (s : State) {p a : Nat} (q : Place) (h : a < 0x3000 + 8 * p ∨ 0x3008 + 8 * p ≤ a) :
    Memory.read (s.setStatus p q).board.mem a = Memory.read s.board.mem a := by
  have board : (s.setStatus p q).board = (s.setPlace p q).board := by simp [State.setStatus]
  rw [board]
  exact s.read_setPlace_outside q h

theorem State.place_setStatus_ne (s : State) {p r : Nat} (q : Place) (ne : p ≠ r) : (s.setStatus p q).place r = s.place r := by
  rw [State.setStatus, State.place_tellAll, State.place_setPlace_ne _ _ ne]

theorem State.place_setStatus_self (s : State) {p : Nat} (q : Place) (hp : p < 169) :
    (s.setStatus p q).place p = s.retimed p q := by
  rw [State.setStatus, State.place_tellAll, State.place_setPlace_self _ _ hp]

theorem State.standing_retimed (s : State) (p : Nat) (q : Place) : (s.retimed p q).standing = q.standing := by
  simp [Place.standing]

theorem State.namedPlace_lane {s : State} {n k p : Nat} (h : s.namedPlace n k true = some p) : p < 160 := by
  unfold State.namedPlace at h
  split at h
  · cases h
  · split at h
    · next ok =>
      cases h
      simp [isLane] at ok
      exact ok.1
    · cases h

theorem State.retirable_iff (s : State) (p : Nat) : s.retirable p = true ↔
    (∀ e ∈ s.entries p, e = .foreign) ∧ (s.place p).res = 0 ∧ (s.place p).lock = .none := by
  simp [State.retirable, and_assoc]

theorem exec_retireEnd {s : State} (live : Live s) {o : StoreOp} {p j : Nat} (op : s.store.op = some o)
    (work : o.work = .retire p j) (readBack : Slot) :
    exec (.retireEnd readBack) s = .next (s.begin.retireEnded o p j readBack).resolved := by
  rw [exec_of_live live (c := .retireEnd readBack) (f := fun t => match t.store.op with
    | none => t
    | some o => match o.work with | .retire p j => t.retireEnded o p j readBack | _ => t) rfl, live.begin_eq]
  simp only [op, work]

/-- RETIRE examined (R16, R20, R175). -/
theorem retireExamined (s : State) (n : Nat) (rest : List Nat) (head : Head s kindRetire n rest) :
    let u := s.examining rest
    let named := s.namedPlace n (s.cardSelector n) true
    let ends (final : Byte) (r : ReasonCode) : Prop := ∃ t, exec .retire s = .next t ∧ FinishedAs u t n final r 0 s.stamp
    (named = none → ends cardRefused .badField) ∧
    (∀ p, named = some p →
      let idle := (∀ e ∈ s.entries p, e = .foreign) ∧ (s.place p).res = 0 ∧ (s.place p).lock = .none
      (s.store.op ≠ none → ends cardRefused .storeBusy) ∧
      (s.store.op = none → ¬idle → ends cardRefused .placeBusy) ∧
      (s.store.op = none → idle → (s.place p).retired = true → ends cardDone .none) ∧
      (s.store.op = none → idle → (s.place p).retired = false → (∀ j, ¬s.store.Free j) →
        ends cardRefused .storeFull) ∧
      (∀ j, s.store.op = none → idle → (s.place p).retired = false → s.store.Free j → (∀ i, i < j → ¬s.store.Free i) →
        Leads .retire s ((u.startStore n (.retire p j)).setStatus p { s.place p with retired := true, retiring := true }))) := by
  intro u named ends
  have view : u.namedPlace n (u.cardSelector n) true = named ∧ u.store = s.store ∧ ∀ p, u.place p = s.place p := by
    refine ⟨?_, ?_, fun p => ?_⟩ <;> simp only [u, named, head.examining_eq] <;> rfl
  obtain ⟨names, store, place⟩ := view
  have finishes {final : Byte} {r : ReasonCode} (does : u.examineRetire n = u.finishNow n final r 0) : ends final r :=
    head.finishes (row := fun s => s.isKind kindRetire) (f := fun n t => t.examineRetire n) rfl head.isKind does head.quiet head.stamp
  have retirable (p : Nat) : u.retirable p = s.retirable p := by simp only [State.retirable, State.entries, place]
  have slot : u.freeSlot = s.freeSlot := by simp only [State.freeSlot, store]
  refine ⟨fun none => finishes ?_, fun p names' => ⟨fun busy => finishes ?_, fun op work => finishes ?_, fun op idle retired => finishes ?_,
    fun op idle retired full => finishes ?_, fun j op idle retired free first => ?_⟩⟩
  · simp only [State.examineRetire, names, none]; rfl
  · simp only [State.examineRetire, names, names', store, if_pos (Option.isSome_iff_ne_none.2 busy)]; rfl
  · have no : s.retirable p = false := Bool.eq_false_iff.2 (mt (s.retirable_iff p).1 work)
    simp only [State.examineRetire, names, names', store, op, retirable, no]; rfl
  · simp only [State.examineRetire, names, names', store, op, retirable, (s.retirable_iff p).2 idle, place, retired]; rfl
  · simp only [State.examineRetire, names, names', store, op, retirable, (s.retirable_iff p).2 idle, place, retired, slot,
      s.freeSlot_eq_none.2 full]; rfl
  · refine head.leads (row := fun s => s.isKind kindRetire) (f := fun n t => t.examineRetire n) rfl head.isKind ?_
    change u.examineRetire n = _
    simp only [State.examineRetire, names, names', store, op, retirable, (s.retirable_iff p).2 idle, place, retired, slot,
      s.freeSlot_eq_some j free first]
    rfl

/-- Settles O35: the examination, the slots that retire, and the end. -/
theorem retireEnds : Obligations.RetireEnds := by
  refine ⟨fun s n rest head => ?examined, slotsRetire_judged, fun s o p j readBack live op work hp hj => ?ended⟩
  case examined =>
    intro u named ends
    obtain ⟨none, some⟩ := retireExamined s n rest head
    refine ⟨none, fun p hnamed => ?_⟩
    obtain ⟨busy, placeBusy, done, full, starts⟩ := some p hnamed
    refine ⟨busy, placeBusy, done, full, fun j op idle retired free first => ⟨_, starts j op idle retired free first, ?_⟩⟩
    have lane := State.namedPlace_lane hnamed
    generalize hw : (s.examining rest).startStore n (.retire p j) = w
    have view : w.cardState n = cardTaken ∧
        w.store = { s.store with op := Option.some { work := .retire p j, card := n, examined := s.stamp } } ∧
        (∀ q, w.place q = s.place q) ∧ w.mode = s.mode ∧ w.contexts = s.contexts ∧ w.conditions = s.conditions ∧
        w.board.postQueue = rest ∧ w.board.finishList = s.board.finishList ∧
        ∀ a, a ≠ cardAddr n 0 → Memory.read w.board.mem a = Memory.read s.board.mem a := by
      subst hw
      rw [State.startStore_eq, head.examining_eq]
      exact ⟨State.cardState_setCardState head.slot _ _, rfl, fun _ => rfl, rfl, rfl, rfl, rfl, rfl,
        fun a ne => State.read_setCardState_ne _ n _ ne⟩
    obtain ⟨taken, store, place, mode, contexts, conditions, queue, list, memory⟩ := view
    have slot := head.slot
    refine ⟨?_, by simpa using store, ?_, fun q ne => ?_, by simpa using mode, by simpa using contexts, by simpa using conditions,
      by simpa using queue, by simpa using list, fun a state outside => ?_⟩
    · exact (w.read_setStatus_outside _ (by simp [cardAddr]; omega)).trans taken
    · rw [State.place_setStatus_self _ _ (by omega), State.standing_retimed]
    · rw [State.place_setStatus_ne _ _ (Ne.symm ne), place]
    · rw [w.read_setStatus_outside _ outside, memory a state]
  case ended =>
    intro u
    have store : u.store = { s.store with slots := s.store.slots.setIfInBounds j readBack, op := none } := by
      simp only [u, live.begin_eq]; rfl
    have place (q : Nat) : u.place q = s.place q := by simp only [u, live.begin_eq]; rfl
    have cond : u.cond srcStore = s.cond srcStore := by simp only [u, live.begin_eq]; rfl
    have stamp : u.stamp = s.stamp := by simp only [u, live.begin_eq]; rfl
    have begun : s.begin.endStore s.begin.store.profile (s.begin.store.slots.setIfInBounds j readBack) = u := by
      have same : s.begin.store = s.store := by rw [live.begin_eq]
      simp only [u, same]
    have kept : u.place p = s.place p := place p
    have exec := exec_retireEnd live op work readBack
    by_cases good : slotIsValid readBack = true ∧ slotLane readBack = p
    · have does : s.begin.retireEnded o p j readBack =
          (u.setStatus p { s.place p with retiring := false }).finishCard o.card cardDone .none 0x00 o.examined := by
        rw [State.retireEnded, begun, if_pos (by simpa using good), kept]
      rw [does] at exec
      refine ⟨_, exec, ?_, fun q ne => ?_, fun _ _ => ⟨rfl, ?_, ?_, ?_⟩, fun bad => ?_⟩
      · rw [State.store_resolved, State.store_finishCard]
        simp [store]
      · rw [State.standing_resolved,
          State.place_eq_of_places (s := u.setStatus p { s.place p with retiring := false }) (by simp),
          State.place_setStatus_ne _ _ (Ne.symm ne), place]
      · rw [State.store_resolved, State.store_finishCard]
        simp [store]
      · rw [State.standing_resolved,
          State.place_eq_of_places (s := u.setStatus p { s.place p with retiring := false }) (by simp),
          State.place_setStatus_self _ _ (by omega), State.standing_retimed]
      · rw [State.cond_resolved _ (by decide), State.cond_congr (s := u) (by simp), cond]
      · rcases bad with bad | bad
        · rw [good.1] at bad; cases bad
        · exact absurd good.2 bad
    · generalize hv : (u.markFailed j).setStatus p { s.place p with retired := false, retiring := false } = v
      have does : s.begin.retireEnded o p j readBack =
          (v.raise srcStore .storeFault 0x09 (byteOf o.card)).finishCard o.card cardFailed .storeFault 0x00 o.examined := by
        rw [State.retireEnded, begun, if_neg (by simpa using good), kept, hv]
      rw [does] at exec
      have vstore : v.store = { u.store with failed := u.store.failed.setIfInBounds j true } := by
        subst hv; simp [State.markFailed, State.setStore]
      refine ⟨_, exec, ?_, fun q ne => ?_, fun valid names => absurd ⟨valid, names⟩ good, fun _ => ⟨?_, rfl, ?_, ?_⟩⟩
      · rw [State.store_resolved, State.store_finishCard, State.store_raise, vstore, store]
      · rw [State.standing_resolved, State.place_eq_of_places (s := v) (by simp), ← hv,
          State.place_setStatus_ne _ _ (Ne.symm ne)]
        exact congrArg Place.standing (place q)
      · rw [State.store_resolved, State.store_finishCard, State.store_raise, vstore, store]
      · rw [State.standing_resolved, State.place_eq_of_places (s := v) (by simp), ← hv,
          State.place_setStatus_self _ _ (by omega), State.standing_retimed]
      · have vcond : v.cond srcStore = s.cond srcStore := by
          rw [← cond, ← hv]; exact State.cond_congr (by simp [State.markFailed, State.setStore]) _
        have vstamp : v.stamp = s.stamp := by
          rw [← stamp, ← hv]; exact State.stamp_congr (by simp [State.markFailed, State.setStore])
        rw [State.cond_resolved _ (by decide), State.cond_congr (s := v.raise srcStore .storeFault 0x09 (byteOf o.card)) (by simp),
          State.cond_raise_self _ (by decide), vcond, vstamp]

end Sys2Proof.Machine
end

section
/-! PROOF. What a record of the chain or the handover unit reads after a write, and three short rules: how an open grant is settled
at a resync, and the expiry of the overdue, stall and grant timers (the statements GrantSettlement and TimerReports). -/

namespace Sys2Proof.Machine

/-! ### An event that tells nobody -/

/-- An event that tells no neighbour is its own change alone, where commands are taken and nobody is left waiting. -/
theorem exec_of_quiet {s : State} {c : Instr} {f : State → State} (awake : Awake s) (e : exec c s = s.live f)
    (untold : (f { s with sent := [] }).wake = s.wake) : exec c s = .next (f { s with sent := [] }) := by
  rw [exec_of_awake awake e, State.resolved_quiet (untold.trans awake.quiet)]

/-- A command that does nothing on this state. -/
theorem exec_of_idle {s : State} {c : Instr} {f : State → State} (awake : Awake s) (e : exec c s = s.live f)
    (idle : f { s with sent := [] } = { s with sent := [] }) : exec c s = .next { s with sent := [] } := by
  rw [exec_of_quiet awake e (by rw [idle]), idle]

/-! ### Node, port, grant and condition records -/

section
variable (s : State)

theorem State.node_setNode_self {k : Nat} (low : 1 ≤ k) (high : k ≤ 40) (nd : Node) : (s.setNode k nd).node k = nd := by
  cases k with
  | zero => omega
  | succ k => simp [State.setNode, State.node, (by omega : k < 40)]

theorem State.node_setNode_ne {k j : Nat} (nd : Node) (ne : j ≠ k) : (s.setNode k nd).node j = s.node j := by
  cases k with
  | zero => rfl
  | succ k => cases j with
    | zero => rfl
    | succ j =>
      have other : k ≠ j := by omega
      simp only [State.setNode, State.node, Vector.getElem?_setIfInBounds_ne other]

theorem State.node_updateNode_self {k : Nat} (low : 1 ≤ k) (high : k ≤ 40) (f : Node → Node) :
    (s.updateNode k f).node k = f (s.node k) := s.node_setNode_self low high _

theorem State.node_updateNode_ne {k j : Nat} (f : Node → Node) (ne : j ≠ k) : (s.updateNode k f).node j = s.node j :=
  s.node_setNode_ne _ ne

theorem State.level_of_node {k : Nat} (h : s.node k ≠ {}) : 1 ≤ k ∧ k ≤ 40 := by
  cases k with
  | zero => exact absurd rfl h
  | succ k =>
    refine ⟨by omega, ?_⟩
    by_contra high
    have none : s.chain.nodes[k]? = none := Vector.getElem?_eq_none (by omega)
    exact h (by simp only [State.node, none, Option.getD_none])

theorem State.level_of_state {k : Nat} (h : (s.node k).state ≠ .off) : 1 ≤ k ∧ k ≤ 40 :=
  s.level_of_node fun e => h (by rw [e])

theorem State.state_of_alive {k : Nat} (h : s.alive k = true) : (s.node k).state = .alive := by
  simpa [State.alive] using h

theorem State.level_of_alive {k : Nat} (h : s.alive k = true) : 1 ≤ k ∧ k ≤ 40 :=
  s.level_of_state fun e => by rw [State.alive, e] at h; cases h

/-- A level without a record has the record of an OFF node, which no update changes. -/
theorem State.updateNode_of_out {k : Nat} (out : ¬(1 ≤ k ∧ k ≤ 40)) (f : Node → Node) : s.updateNode k f = s := by
  cases k with
  | zero => rfl
  | succ k => simp [State.updateNode, State.setNode, Vector.setIfInBounds_eq_of_size_le, (by omega : 40 ≤ k)]

@[simp] theorem State.node_updatePort (p : Port) (f : ChainPort → ChainPort) (k : Nat) :
    (s.updatePort p f).node k = s.node k := State.node_congr (by cases p <;> rfl) k

@[simp] theorem State.node_setPort (p : Port) (r : ChainPort) (k : Nat) : (s.setPort p r).node k = s.node k :=
  State.node_congr (by cases p <;> rfl) k

@[simp] theorem State.chainPort_updateNode (k : Nat) (f : Node → Node) (p : Port) :
    (s.updateNode k f).chainPort p = s.chainPort p := by
  cases k <;> cases p <;> rfl

@[simp] theorem State.chainPort_setNode (k : Nat) (nd : Node) (p : Port) : (s.setNode k nd).chainPort p = s.chainPort p := by
  cases k <;> cases p <;> rfl

theorem State.chainPort_updatePort_ne {p q : Port} (f : ChainPort → ChainPort) (ne : q ≠ p) :
    (s.updatePort p f).chainPort q = s.chainPort q := by
  cases p <;> cases q <;> first | rfl | exact absurd rfl ne

theorem State.grant_setGrant_self {k : Nat} (low : 1 ≤ k) (high : k ≤ 40) (g : Option Grant) : (s.setGrant k g).grant k = g := by
  cases k with
  | zero => omega
  | succ k => simp [State.setGrant, State.grant, (by omega : k < 40)]

theorem State.grant_setGrant_ne {k j : Nat} (g : Option Grant) (ne : j ≠ k) : (s.setGrant k g).grant j = s.grant j := by
  cases k with
  | zero => rfl
  | succ k => cases j with
    | zero => rfl
    | succ j =>
      have other : k ≠ j := by omega
      simp only [State.setGrant, State.grant, Vector.getElem?_setIfInBounds_ne other]

theorem State.grant_congr {t : State} (h : t.handover.grants = s.handover.grants) (k : Nat) : t.grant k = s.grant k := by
  cases k <;> simp [State.grant, h]

theorem State.level_of_grant {k : Nat} {g : Grant} (h : s.grant k = some g) : 1 ≤ k ∧ k ≤ 40 := by
  cases k with
  | zero => cases h
  | succ k =>
    refine ⟨by omega, ?_⟩
    by_contra high
    have none : s.handover.grants[k]? = none := Vector.getElem?_eq_none (by omega)
    simp [State.grant, none] at h

theorem State.cond_raise_ne {src k : Nat} (ne : src ≠ k) (c : Cond) (d1 d2 : Byte) :
    (s.raise src c d1 d2).cond k = s.cond k := s.cond_setCond_ne _ _ _ ne

theorem State.chainPort_congr {t : State} (bottom : t.chain.bottom = s.chain.bottom) (top : t.chain.top = s.chain.top) (p : Port) :
    t.chainPort p = s.chainPort p := by
  cases p <;> assumption

theorem State.ctx_congr {t : State} (h : t.contexts = s.contexts) (n : Nat) : t.ctx n = s.ctx n := by simp [State.ctx, h]

end

/-! ### The table of R152 -/

/-- Settles O43, row by row of the table. -/
theorem grantSettlement : Obligations.GrantSettlement := by
  intro g recorded count held last
  refine ⟨fun kind => ?drop, fun kind => ?take⟩
  case drop =>
    simp only [settlement, kind]
    refine ⟨?_, ?_, ?_, ?_, ?_, ?_⟩
    · rintro rfl; simp
    · rintro rfl; simp
    · rintro rfl; simp
    · rintro rfl same; simp [same]
    · rintro rfl other; simp +contextual [other]
    · intro none
      cases last <;> grind
  case take =>
    simp only [settlement, kind]
    refine ⟨?_, ?_, ?_, ?_, ?_, ?_⟩
    · rintro rfl; simp
    · rintro rfl; simp
    · rintro rfl; simp
    · rintro rfl; simp +contextual
    · rintro rfl; grind
    · intro none
      cases last <;> grind

/-! ### Timers that report (R67, R70, R86) -/

section
variable {s : State} (awake : Awake s)
include awake

theorem exec_overdueTimerExpiry {x : Side} {e : Entry} (releasing : s.release.merge = .releasing x e (some 0)) :
    exec .overdueTimerExpiry s = .next ((({ s with sent := [] } : State).setRelease { s.release with merge := .releasing x e none }).raise
      srcMerge .overdue (sideCode x) (entryByte e)) := by
  have does : State.overdue { s with sent := [] } = ((({ s with sent := [] } : State).setRelease
      { s.release with merge := .releasing x e none }).raise srcMerge .overdue (sideCode x) (entryByte e)) := by
    simp only [State.overdue, releasing]
  rw [exec_of_quiet (f := State.overdue) awake rfl (by rw [does]; rfl), does]

theorem exec_stallTimerExpiry (due : s.release.stall = some 0) :
    exec .stallTimerExpiry s = .next ((({ s with sent := [] } : State).setRelease
      { s.release with stall := none, stallReported := true }).raise srcRelease .stall s.whereabouts.1 s.whereabouts.2) := by
  have does : State.stallExpires { s with sent := [] } = ((({ s with sent := [] } : State).setRelease
      { s.release with stall := none, stallReported := true }).raise srcRelease .stall s.whereabouts.1 s.whereabouts.2) := by
    simp only [State.stallExpires, due, if_true]; rfl
  rw [exec_of_quiet (f := State.stallExpires) awake rfl (by rw [does]; rfl), does]

theorem exec_grantTimerExpiry {k : Nat} {g : Grant} (open' : s.grant k = some g) (due : g.timer = some 0) :
    exec (.grantTimerExpiry k) s = .next ((({ s with sent := [] } : State).setGrant k (some { g with timer := none })).raise
      (srcLevel k) .grantOverdue (byteOf (g.lane k)) (grantByte g.kind)) := by
  have here : ({ s with sent := [] } : State).grant k = some g := open'
  have does : State.grantOverdue { s with sent := [] } k = ((({ s with sent := [] } : State).setGrant k
      (some { g with timer := none })).raise (srcLevel k) .grantOverdue (byteOf (g.lane k)) (grantByte g.kind)) := by
    simp only [State.grantOverdue, here, due, if_true]
  rw [exec_of_quiet (f := fun t => t.grantOverdue k) awake rfl (by rw [does]; simp), does]

end

theorem State.whereabouts_held {s : State} {m : Nat} {c : Context} (held : s.findOpen (fun c => c.holds s.release.n) = some m)
    (hc : s.ctx m = some c) : s.whereabouts = (whereaboutsByte c.phase, byteOf m) := by
  simp only [State.whereabouts, held, hc]; rfl

theorem State.whereabouts_nowhere {s : State} (none : s.findOpen (fun c => c.holds s.release.n) = none)
    (unvoided : s.release.n ∉ s.release.voids) : s.whereabouts = (0x00, 0xFF) := by
  simp only [State.whereabouts, none, if_neg unvoided]

/-- Settles O60: each timer that has run out stops and raises its condition, and nothing else changes. -/
theorem timerReports : Obligations.TimerReports := by
  intro s awake
  refine ⟨fun x e releasing => ?overdue, fun due => ?stall, fun k g low high open' due => ?grant⟩
  case overdue =>
    refine ⟨_, exec_overdueTimerExpiry awake releasing, rfl, ?_, rfl⟩
    rw [State.cond_raise_self _ (by decide)]
    cases x <;> cases e <;> rfl
  case stall =>
    refine ⟨_, exec_stallTimerExpiry awake due, rfl, fun m c held hc => ?_, fun none unvoided => ?_, rfl⟩
    · rw [State.cond_raise_self _ (by decide), State.whereabouts_held held hc]; rfl
    · rw [State.cond_raise_self _ (by decide), State.whereabouts_nowhere none unvoided]; rfl
  case grant =>
    refine ⟨_, exec_grantTimerExpiry awake open' due, ?_, fun j ne => ?_, by simp, ?_, ?_⟩
    · exact State.grant_setGrant_self _ low high _
    · exact State.grant_setGrant_ne _ _ ne
    · rw [State.cond_raise_self _ (by unfold srcLevel; omega), State.cond_congr (s := s) (by simp),
        State.stamp_congr (s := s) (by simp)]
      simp only [Grant.lane]
      cases g.kind <;> rfl
    · obtain ⟨k, rfl⟩ := Nat.exists_eq_succ_of_ne_zero (by omega : k ≠ 0)
      rfl

end Sys2Proof.Machine
end

section
/-! PROOF. The answers to a poll (R143, R145): which state a report, a NOTHING, an OVERFLOW or a RESTARTED is taken in, and what a
node's becoming ALIVE leaves (the statements ReportsTaken and PollAnswers). -/

namespace Sys2Proof.Machine

/-- A command whose row is `f` leads to `f` of the state in which events begin, where commands are taken. -/
theorem exec_leads {s : State} {c : Instr} {f : State → State} (mode : s.mode ≠ .init) (e : exec c s = s.live f) :
    Leads c s (f s.begin) := by
  rw [Leads, e, State.live, State.event, if_neg (by simpa using mode)]

section
variable (s : State)

@[simp] theorem State.node_begin (k : Nat) : s.begin.node k = s.node k := State.node_congr (by simp) k
@[simp] theorem State.alive_begin (k : Nat) : s.begin.alive k = s.alive k := by simp [State.alive]
@[simp] theorem State.grant_begin (k : Nat) : s.begin.grant k = s.grant k := State.grant_congr _ (by simp) k
@[simp] theorem State.ctx_begin (n : Nat) : s.begin.ctx n = s.ctx n := State.ctx_congr _ (by simp) n
@[simp] theorem State.place_begin (p : Nat) : s.begin.place p = s.place p := State.place_eq_of_places (by simp) p
@[simp] theorem State.lift_begin (x : Side) : s.begin.lift x = s.lift x := State.lift_congr (by simp) x
@[simp] theorem State.stamp_begin : s.begin.stamp = s.stamp := State.stamp_congr (by simp)
@[simp] theorem State.chainPort_begin (p : Port) : s.begin.chainPort p = s.chainPort p :=
  State.chainPort_congr _ (by simp) (by simp) p

theorem State.polls_begin {p : Port} {k : Nat} : s.begin.polls p k ↔ s.polls p k := by simp [State.polls]

theorem State.cond_begin (reported : s.store.noProfileDue = false) (src : Nat) : s.begin.cond src = s.cond src := by
  rw [State.begin_of_reported reported]; rfl

/-! ### An exchange is answered (R143) -/

theorem State.node_answered_self (p : Port) (k : Nat) (next : VisitNext) :
    (s.answered p k next).node k = { s.node k with unanswered := 0 } := by
  by_cases inside : 1 ≤ k ∧ k ≤ 40
  · rw [State.answered, State.node_updateNode_self _ inside.1 inside.2, State.node_updatePort]
  · have blank : s.node k = {} := by
      by_contra record
      exact inside (s.level_of_node record)
    rw [State.answered, State.updateNode_of_out _ inside, State.node_updatePort, blank]

theorem State.node_answered_ne (p : Port) {k j : Nat} (next : VisitNext) (ne : j ≠ k) :
    (s.answered p k next).node j = s.node j := by
  rw [State.answered, State.node_updateNode_ne _ _ ne, State.node_updatePort]

@[simp] theorem State.chainPort_answered (p : Port) (k : Nat) (next : VisitNext) :
    (s.answered p k next).chainPort p = { s.chainPort p with exchange := none, next := next } := by
  simp [State.answered]

/-- An answered exchange changes the chain alone. -/
theorem State.answered_rest (p : Port) (k : Nat) (next : VisitNext) : { s.answered p k next with chain := s.chain } = s := by
  cases p <;> cases k <;> rfl

/-! ### A poll answer (R145) -/

theorem State.pollAnswer_unpolled {p : Port} {level : Byte} (no : ¬s.polls p level.toNat) (take : State → Nat → State) :
    s.pollAnswer p level take = s := by
  unfold State.pollAnswer
  split
  · rename_i k left polled
    rw [if_neg fun e => no ⟨left, by rw [polled, e]⟩]
  · rfl

theorem State.pollAnswer_alive {p : Port} {level : Byte} (polled : s.polls p level.toNat) (alive : s.alive level.toNat = true)
    (take : State → Nat → State) :
    s.pollAnswer p level take = take (s.answered p level.toNat .advance) level.toNat := by
  obtain ⟨left, e⟩ := polled
  simp only [State.pollAnswer, e, if_true, s.state_of_alive alive]

theorem State.pollAnswer_seeking {p : Port} {level : Byte} (polled : s.polls p level.toNat)
    (seeking : (s.node level.toNat).state = .seeking) (take : State → Nat → State) :
    s.pollAnswer p level take = (s.answered p level.toNat .advance).firstAnswer level.toNat := by
  obtain ⟨left, e⟩ := polled
  simp only [State.pollAnswer, e, if_true, seeking]

theorem State.pollAnswer_absent {p : Port} {level : Byte} (polled : s.polls p level.toNat)
    (unalive : (s.node level.toNat).state ≠ .alive) (unseeking : (s.node level.toNat).state ≠ .seeking)
    (take : State → Nat → State) : s.pollAnswer p level take = s.answered p level.toNat .advance := by
  obtain ⟨left, e⟩ := polled
  simp only [State.pollAnswer, e, if_true]

theorem State.numberedReport_inOrder {k : Nat} {number : BitVec 4}
    (order : (s.node k).expected = none ∨ (s.node k).expected = some number) (hand : State → State) :
    s.numberedReport k number hand = hand (s.updateNode k (fun nd => { nd with expected := some (number + 1) })) := by
  rcases order with e | e <;> simp only [State.numberedReport, e, if_true]

theorem State.numberedReport_gap {k : Nat} {number x : BitVec 4} (expected : (s.node k).expected = some x) (ne : x ≠ number)
    (hand : State → State) : s.numberedReport k number hand =
      ((hand (s.updateNode k (fun nd => { nd with expected := some (number + 1) }))).raise (srcLevel k) .reportGap (x.setWidth 8)
        (number.setWidth 8)).queueResync k := by
  simp only [State.numberedReport, expected, if_neg ne]

/-! ### A node becomes or ceases to be ALIVE (R7, R11, R21, R89) -/

/-- The lanes of a level after its node's state has changed since `old`. -/
def State.syncLanes (s old : State) (level : Nat) : State :=
  (levelLanes level).foldl (fun v p => (v.syncLane old p).tellAll (toldStatus p ++ toldStop p)) s

theorem State.changeNode_eq (k : Nat) (f : Node → Node) : s.changeNode k f =
    if s.alive k = (s.updateNode k f).alive k then s.updateNode k f
    else if (s.updateNode k f).alive k then (s.updateNode k f).syncLanes s k
    else ((s.updateNode k f).syncLanes s k).dropHeld k := rfl

@[simp] theorem State.syncLanes_frame (old : State) (level : Nat) :
    (s.syncLanes old level).pending = s.pending ∧ (s.syncLanes old level).sent = s.sent ∧
    (s.syncLanes old level).mode = s.mode ∧ (s.syncLanes old level).lines = s.lines ∧
    (s.syncLanes old level).board.postQueue = s.board.postQueue ∧ (s.syncLanes old level).board.finishList = s.board.finishList ∧
    (s.syncLanes old level).board.clock = s.board.clock ∧
    (s.syncLanes old level).conditions = s.conditions ∧ (s.syncLanes old level).contexts = s.contexts ∧
    (s.syncLanes old level).release = s.release ∧ (s.syncLanes old level).handover = s.handover ∧
    (s.syncLanes old level).lifts = s.lifts ∧ (s.syncLanes old level).chain = s.chain ∧
    (s.syncLanes old level).entry = s.entry ∧ (s.syncLanes old level).store = s.store := by
  unfold State.syncLanes
  simpa only [Prod.mk.injEq] using foldl_view (fun t : State =>
      (t.pending, t.sent, t.mode, t.lines, t.board.postQueue, t.board.finishList, t.board.clock, t.conditions, t.contexts,
      t.release, t.handover, t.lifts, t.chain, t.entry, t.store)) (fun t p => by simp) (levelLanes level) s

/-- A place record without its mismatch timer, the one part that follows a node's state (R11). -/
def Place.untimed (q : Place) : Place := { q with mismatch := none }

@[simp] theorem State.untimed_retimed (p : Nat) (q : Place) : (s.retimed p q).untimed = q.untimed := by
  unfold State.retimed
  split <;> rfl

theorem State.place_syncLane (old : State) (p r : Nat) :
    (s.syncLane old p).place r = if p = r ∧ r < 169 then s.retimed p (s.place p) else s.place r := by
  have same : (s.syncLane old p).places = s.places.setIfInBounds p (s.retimed p (s.place p)) := by simp [State.syncLane]
  by_cases own : p = r
  · subst own
    by_cases hp : p < 169
    · simp [State.place, same, hp]
    · simp [State.place, same, hp, Vector.setIfInBounds_eq_of_size_le (Nat.le_of_not_lt hp)]
  · simp only [State.place, same, Vector.getElem?_setIfInBounds_ne own, own, false_and, if_false]

theorem State.untimed_syncLanes (old : State) (level r : Nat) :
    ((s.syncLanes old level).place r).untimed = (s.place r).untimed := by
  unfold State.syncLanes
  refine foldl_view (fun t : State => (t.place r).untimed) (fun t p => ?_) (levelLanes level) s
  rw [State.place_tellAll, State.place_syncLane]
  split
  · next own => rw [State.untimed_retimed, own.1]
  · rfl

/-- The parts of the state that a change of a node's state leaves. -/
@[simp] theorem State.changeNode_frame (k : Nat) (f : Node → Node) :
    (s.changeNode k f).pending = s.pending ∧ (s.changeNode k f).sent = s.sent ∧ (s.changeNode k f).mode = s.mode ∧
    (s.changeNode k f).lines = s.lines ∧ (s.changeNode k f).board.postQueue = s.board.postQueue ∧
    (s.changeNode k f).board.finishList = s.board.finishList ∧ (s.changeNode k f).board.clock = s.board.clock ∧
    (s.changeNode k f).conditions = s.conditions ∧ (s.changeNode k f).release = s.release ∧
    (s.changeNode k f).handover.grants = s.handover.grants ∧ (s.changeNode k f).lifts = s.lifts ∧
    (s.changeNode k f).chain.nodes = (s.updateNode k f).chain.nodes ∧ (s.changeNode k f).chain.bottom = s.chain.bottom ∧
    (s.changeNode k f).chain.top = s.chain.top ∧ (s.changeNode k f).entry = s.entry ∧ (s.changeNode k f).store = s.store := by
  have ports : (s.updateNode k f).chain.bottom = s.chain.bottom ∧ (s.updateNode k f).chain.top = s.chain.top := by
    cases k <;> exact ⟨rfl, rfl⟩
  rw [State.changeNode_eq]
  split
  · simp [ports]
  · split <;> simp [ports]

theorem State.node_changeNode_self {k : Nat} (low : 1 ≤ k) (high : k ≤ 40) (f : Node → Node) :
    (s.changeNode k f).node k = f (s.node k) := by
  rw [State.node_congr (s := s.updateNode k f) (by simp), s.node_updateNode_self low high]

theorem State.node_changeNode_ne {k j : Nat} (f : Node → Node) (ne : j ≠ k) : (s.changeNode k f).node j = s.node j := by
  rw [State.node_congr (s := s.updateNode k f) (by simp), s.node_updateNode_ne f ne]

@[simp] theorem State.chainPort_changeNode (k : Nat) (f : Node → Node) (p : Port) :
    (s.changeNode k f).chainPort p = s.chainPort p := State.chainPort_congr _ (by simp) (by simp) p

theorem State.untimed_changeNode (k : Nat) (f : Node → Node) (r : Nat) :
    ((s.changeNode k f).place r).untimed = (s.place r).untimed := by
  have kept : ((s.updateNode k f).place r) = s.place r := State.place_eq_of_places (by simp) r
  rw [State.changeNode_eq]
  split
  · rw [kept]
  · split
    · rw [State.untimed_syncLanes, kept]
    · rw [State.place_eq_of_places (s := (s.updateNode k f).syncLanes s k) (by simp), State.untimed_syncLanes, kept]

/-- Where the node is ALIVE afterwards, or was not before, no held ask is removed (R89). -/
theorem State.changeNode_asks {k : Nat} {f : Node → Node} (h : (f (s.node k)).state = .alive ∨ s.alive k = false) :
    (s.changeNode k f).handover = s.handover ∧ (s.changeNode k f).contexts = s.contexts := by
  rw [State.changeNode_eq]
  split
  · simp
  · next changed =>
    have inside : 1 ≤ k ∧ k ≤ 40 := by
      by_contra out
      exact changed (by rw [s.updateNode_of_out out])
    have alive : (s.updateNode k f).alive k = true := by
      rcases h with alive | dead
      · rw [State.alive, s.node_updateNode_self inside.1 inside.2, alive]; rfl
      · rw [dead] at changed
        exact Bool.eq_true_of_not_eq_false (Ne.symm changed)
    rw [if_pos alive]
    simp

/-! ### RESYNC-ASK is queued (R145) -/

/-- The queue with RESYNC-ASK in it. -/
def resyncQueued (q : List ChainCmd) : List ChainCmd := if ChainCmd.resyncAsk ∈ q then q else q ++ [.resyncAsk]

theorem State.node_queueNode_self {k : Nat} (served : (s.node k).state = .alive ∨ (s.node k).state = .seeking) (c : ChainCmd) :
    (s.queueNode k c).node k = { s.node k with queue := (s.node k).queue ++ [c] } := by
  have inside := s.level_of_state (k := k) (by rcases served with e | e <;> simp [e])
  rw [State.queueNode, if_pos served, s.node_updateNode_self inside.1 inside.2]

theorem State.node_queueNode_ne {k j : Nat} (c : ChainCmd) (ne : j ≠ k) : (s.queueNode k c).node j = s.node j := by
  unfold State.queueNode
  split
  · exact s.node_updateNode_ne _ ne
  · rfl

theorem State.node_queueResync_self {k : Nat} (served : (s.node k).state = .alive ∨ (s.node k).state = .seeking) :
    (s.queueResync k).node k = { s.node k with queue := resyncQueued (s.node k).queue } := by
  unfold State.queueResync resyncQueued
  split
  · rfl
  · exact s.node_queueNode_self served _

theorem State.node_queueResync_ne {k j : Nat} (ne : j ≠ k) : (s.queueResync k).node j = s.node j := by
  unfold State.queueResync
  split
  · rfl
  · exact s.node_queueNode_ne _ ne

@[simp] theorem State.chainPort_queueResync (k : Nat) (p : Port) : (s.queueResync k).chainPort p = s.chainPort p :=
  State.chainPort_congr _ (by simp) (by simp) p

/-! ### A SEEKING node's first answer (R150) -/

theorem State.node_firstAnswer_self {k : Nat} (seeking : (s.node k).state = .seeking) :
    (s.firstAnswer k).node k = { s.node k with state := .alive, queue := resyncQueued (s.node k).queue } := by
  have inside := s.level_of_state (k := k) (by simp [seeking])
  have changed := s.node_changeNode_self inside.1 inside.2 (fun nd => { nd with state := .alive })
  rw [State.firstAnswer, State.node_queueResync_self _ (.inl (by rw [changed])), changed]

theorem State.node_firstAnswer_ne {k j : Nat} (ne : j ≠ k) : (s.firstAnswer k).node j = s.node j := by
  rw [State.firstAnswer, State.node_queueResync_ne _ ne, State.node_changeNode_ne _ _ ne]

@[simp] theorem State.firstAnswer_frame (k : Nat) :
    (s.firstAnswer k).conditions = s.conditions ∧ (s.firstAnswer k).contexts = s.contexts ∧
    (s.firstAnswer k).handover = s.handover ∧ (s.firstAnswer k).lifts = s.lifts := by
  by_cases inside : 1 ≤ k ∧ k ≤ 40
  · have asks := s.changeNode_asks (k := k) (f := fun nd => { nd with state := .alive }) (.inl rfl)
    simp [State.firstAnswer, asks]
  · have asks := s.changeNode_asks (k := k) (f := fun nd => { nd with state := .alive }) (.inl rfl)
    simp [State.firstAnswer, asks]

@[simp] theorem State.chainPort_firstAnswer (k : Nat) (p : Port) : (s.firstAnswer k).chainPort p = s.chainPort p := by
  simp [State.firstAnswer]

theorem State.untimed_firstAnswer (k r : Nat) : ((s.firstAnswer k).place r).untimed = (s.place r).untimed := by
  have kept (t : State) : (t.queueResync k).place r = t.place r := State.place_eq_of_places (by simp) r
  rw [State.firstAnswer, kept, State.untimed_changeNode]

end

/-! ### The state after the neighbours have acted (R7) -/

theorem State.chainPort_resolved (s : State) (p : Port) : s.resolved.chainPort p = s.chainPort p := by
  cases p
  · exact congrArg Calm.bottom State.resolved_calm
  · exact congrArg Calm.top State.resolved_calm

theorem State.node_unanswered_resolved (s : State) (k : Nat) : (s.resolved.node k).unanswered = (s.node k).unanswered := by
  have same := congrArg Node.unanswered (s.node_resolved k)
  exact same

/-! ### ReportsTaken -/

/-- The row of every numbered report. -/
theorem exec_report {c : Instr} {p : Port} {level : Byte} {number : BitVec 4} (h : reportOf c = some (p, level, number)) (s : State) :
    exec c s = s.live (fun t => t.report p level number (fun u k => u.handReport k c)) := by
  cases c with
  | dropAsk | dropDone | dropAbort | takeAsk | takeDone | takeAbort | laneCount => cases h; rfl
  | _ => cases h

/-- A report that no poll of its level awaits is discarded. -/
theorem exec_of_unpolled {s : State} {c : Instr} {p : Port} {level : Byte} {take : State → Nat → State} (awake : Awake s)
    (row : exec c s = s.live (fun t => t.pollAnswer p level take)) (no : ¬s.polls p level.toNat) :
    exec c s = .next { s with sent := [] } :=
  exec_of_idle awake row (State.pollAnswer_unpolled { s with sent := [] } no take)

/-- A poll answer from a node out of reach ends the exchange and nothing else. -/
theorem exec_of_absent {s : State} {c : Instr} {p : Port} {level : Byte} {take : State → Nat → State} (awake : Awake s)
    (row : exec c s = s.live (fun t => t.pollAnswer p level take)) (polled : s.polls p level.toNat)
    (unalive : (s.node level.toNat).state ≠ .alive) (unseeking : (s.node level.toNat).state ≠ .seeking) :
    ∃ t, exec c s = .next t ∧ t.node level.toNat = { s.node level.toNat with unanswered := 0 } ∧
      (∀ j, j ≠ level.toNat → t.node j = s.node j) ∧
      t.chainPort p = { s.chainPort p with exchange := none, next := .advance } ∧
      { t with chain := s.chain, sent := s.sent } = s := by
  let u : State := { s with sent := [] }
  have does : u.pollAnswer p level take = u.answered p level.toNat .advance :=
    u.pollAnswer_absent polled unalive unseeking take
  refine ⟨u.answered p level.toNat .advance, ?_, u.node_answered_self p _ _, fun j ne => u.node_answered_ne p _ ne,
    u.chainPort_answered p _ _, ?_⟩
  · rw [exec_of_quiet (f := fun t => t.pollAnswer p level take) awake row (by rw [does]; simp [u]), does]
  · have rest := u.answered_rest p level.toNat .advance
    exact congrArg (fun t : State => { t with sent := s.sent }) rest

/-- A poll answer from a SEEKING node makes it ALIVE and brings nothing else (R150). -/
theorem leads_of_seeking {s : State} {c : Instr} {p : Port} {level : Byte} {take : State → Nat → State} (mode : s.mode ≠ .init)
    (row : exec c s = s.live (fun t => t.pollAnswer p level take)) (polled : s.polls p level.toNat)
    (seeking : (s.node level.toNat).state = .seeking) :
    Leads c s ((s.begin.answered p level.toNat .advance).firstAnswer level.toNat) := by
  have does := s.begin.pollAnswer_seeking (s.polls_begin.2 polled) (by simpa using seeking) take
  exact does ▸ exec_leads mode row

/-- A poll answer from an ALIVE node is taken. -/
theorem leads_of_alive {s : State} {c : Instr} {p : Port} {level : Byte} {take : State → Nat → State} (mode : s.mode ≠ .init)
    (row : exec c s = s.live (fun t => t.pollAnswer p level take)) (polled : s.polls p level.toNat)
    (alive : s.alive level.toNat = true) :
    Leads c s (take (s.begin.answered p level.toNat .advance) level.toNat) := by
  have does := s.begin.pollAnswer_alive (s.polls_begin.2 polled) (by simpa using alive) take
  exact does ▸ exec_leads mode row

/-- Settles O36: the report's row, in order, with a gap, and from a node that is SEEKING or out of reach. -/
theorem reportsTaken : Obligations.ReportsTaken := by
  intro c p level number s report
  have row := exec_report report s
  refine ⟨fun order => ?inOrder, fun x mode polled alive expected ne => ?gap, fun mode polled seeking => ?seeking,
    fun awake polled unalive unseeking => exec_of_absent awake row polled unalive unseeking,
    fun awake no => exec_of_unpolled awake row no⟩
  case inOrder =>
    have taken := leads_of_alive order.mode row order.poll order.alive
    rwa [State.numberedReport_inOrder _ (by rw [State.node_answered_self, State.node_begin]; exact order.number)] at taken
  case gap =>
    have taken := leads_of_alive mode row polled alive
    rwa [State.numberedReport_gap _ (by rw [State.node_answered_self, State.node_begin]; exact expected) ne] at taken
  case seeking =>
    have taken := leads_of_seeking mode row polled seeking
    have was : ((s.begin.answered p level.toNat .advance).node level.toNat).state = .seeking := by
      rw [State.node_answered_self, State.node_begin]; exact seeking
    refine ⟨taken, _, taken, ?_, ?_, ?_⟩
    · rw [State.node_state_resolved, State.node_firstAnswer_self _ was]
    · rw [State.node_unanswered_resolved, State.node_firstAnswer_self _ was, State.node_answered_self]
    · rw [State.chainPort_resolved, State.chainPort_firstAnswer, State.chainPort_answered]

/-! ### The four lanes of a level -/

/-- An operation on each of several records, one record at a time: what it does at a record it does to that record alone, in a
state that agrees with the first one in all the operation reads. -/
theorem foldl_each {α β : Type} {f : State → Nat → State} (read : State → Nat → α) (view : State → β)
    (keeps : ∀ t p, view (f t p) = view t) (other : ∀ t p q, q ≠ p → read (f t p) q = read t q) {l : List Nat} (nodup : l.Nodup)
    (s : State) : (∀ q, q ∉ l → read (l.foldl f s) q = read s q) ∧
    ∀ q ∈ l, ∃ w, read w q = read s q ∧ view w = view s ∧ read (l.foldl f s) q = read (f w q) q := by
  induction l generalizing s with
  | nil => simp
  | cons p l ih =>
    obtain ⟨fresh, nodup⟩ := List.nodup_cons.1 nodup
    obtain ⟨outside, inside⟩ := ih nodup (f s p)
    refine ⟨fun q away => ?_, fun q member => ?_⟩
    · simp only [List.mem_cons, not_or] at away
      rw [List.foldl_cons, outside q away.2, other s p q away.1]
    · rcases List.mem_cons.1 member with rfl | later
      · exact ⟨s, rfl, rfl, outside q fresh⟩
      · obtain ⟨w, same, view', does⟩ := inside q later
        exact ⟨w, same.trans (other s p q fun e => fresh (e ▸ later)), view'.trans (keeps s p), does⟩

theorem lane_numbers (k : Nat) : outLane k .a = (k - 1) * 4 ∧ inLaneOf k .a = (k - 1) * 4 + 1 ∧
    outLane k .b = (k - 1) * 4 + 2 ∧ inLaneOf k .b = (k - 1) * 4 + 3 := ⟨rfl, rfl, rfl, rfl⟩

theorem levelLanes_eq (k : Nat) : levelLanes k = [(k - 1) * 4, (k - 1) * 4 + 1, (k - 1) * 4 + 2, (k - 1) * 4 + 3] := rfl

theorem levelLanes_nodup (k : Nat) : (levelLanes k).Nodup := by
  simp only [levelLanes_eq, List.nodup_cons, List.mem_cons, List.not_mem_nil, List.nodup_nil, or_false, not_false_eq_true, and_true]
  omega

theorem levelLanes_spec {k q : Nat} (low : 1 ≤ k) (high : k ≤ 40) (h : q ∈ levelLanes k) : q < 160 ∧ laneLevel q = k := by
  simp only [levelLanes_eq, List.mem_cons, List.not_mem_nil, or_false] at h
  simp only [laneLevel]
  omega

/-- The count of each lane of a report (R10). -/
theorem laneCountOf_of_pair {k q : Nat} {n : Byte} (high : k ≤ 40) (counts : LaneCounts)
    (h : (q, n) ∈ [(outLane k .a, counts.outA), (inLaneOf k .a, counts.inA), (outLane k .b, counts.outB),
      (inLaneOf k .b, counts.inB)]) : laneCountOf q counts = min 2 n.toNat ∧ q ∈ levelLanes k := by
  obtain ⟨outA, inA, outB, inB⟩ := lane_numbers k
  simp only [outA, inA, outB, inB, List.mem_cons, List.not_mem_nil, or_false, Prod.mk.injEq] at h
  have two : capacity q = 2 := if_pos (by omega)
  rcases h with ⟨place, rfl⟩ | ⟨place, rfl⟩ | ⟨place, rfl⟩ | ⟨place, rfl⟩
  · exact ⟨by simp only [laneCountOf, two, (by omega : q % 4 = 0)], by simp [levelLanes_eq, place]⟩
  · exact ⟨by simp only [laneCountOf, two, (by omega : q % 4 = 1)], by simp [levelLanes_eq, place]⟩
  · exact ⟨by simp only [laneCountOf, two, (by omega : q % 4 = 2)], by simp [levelLanes_eq, place]⟩
  · exact ⟨by simp only [laneCountOf, two, (by omega : q % 4 = 3)], by simp [levelLanes_eq, place]⟩

/-! ### A lane count is sensed (R10, R11) -/

/-- One step of a LANE-COUNT report. -/
def State.senseLane (s : State) (p count : Nat) : State :=
  if (s.place p).fitted && !(s.place p).awaiting then s.setPlace p { s.place p with sensed := some count } else s

theorem State.laneCounts_eq (s : State) (k : Nat) (counts : LaneCounts) :
    s.laneCounts k counts = (levelLanes k).foldl (fun t p => t.senseLane p (laneCountOf p counts)) s := rfl

@[simp] theorem State.senseLane_frame (s : State) (p count : Nat) :
    (s.senseLane p count).wake = s.wake ∧ (s.senseLane p count).store = s.store ∧ (s.senseLane p count).chain = s.chain ∧
    (s.senseLane p count).conditions = s.conditions ∧ (s.senseLane p count).contexts = s.contexts ∧
    (s.senseLane p count).lifts = s.lifts := by
  unfold State.senseLane
  split <;> simp

theorem State.laneCounts_frame (s : State) (k : Nat) (counts : LaneCounts) :
    (s.laneCounts k counts).wake = s.wake ∧ (s.laneCounts k counts).conditions = s.conditions ∧
    (s.laneCounts k counts).contexts = s.contexts ∧ (s.laneCounts k counts).lifts = s.lifts := by
  rw [State.laneCounts_eq]
  simpa only [Prod.mk.injEq] using foldl_view (fun t : State => (t.wake, t.conditions, t.contexts, t.lifts))
    (fun t p => by simp) (levelLanes k) s

theorem State.retimed_congr {s t : State} (store : t.store = s.store) (nodes : t.chain.nodes = s.chain.nodes) (p : Nat) (q : Place) :
    t.retimed p q = s.retimed p q := by
  simp only [State.retimed, State.mismatchEligible, State.hasProfile, State.alive, State.node_congr nodes, State.senseGrace,
    State.profileByte, store]
  rfl

/-- What a LANE-COUNT report does to each place. -/
theorem State.place_laneCounts (s : State) {k : Nat} (low : 1 ≤ k) (high : k ≤ 40) (counts : LaneCounts) :
    (∀ q, q ∉ levelLanes k → (s.laneCounts k counts).place q = s.place q) ∧
    ∀ q ∈ levelLanes k, (s.laneCounts k counts).place q =
      if (s.place q).fitted && !(s.place q).awaiting then s.retimed q { s.place q with sensed := some (laneCountOf q counts) }
      else s.place q := by
  have lanes := foldl_each (read := State.place) (f := fun t p => t.senseLane p (laneCountOf p counts))
    (fun t : State => (t.store, t.chain.nodes)) (fun t p => by simp) (fun t p q ne => by
      unfold State.senseLane
      split
      · exact t.place_setPlace_ne _ (Ne.symm ne)
      · rfl) (levelLanes_nodup k) s
  refine ⟨lanes.1, fun q lane => ?_⟩
  obtain ⟨w, same, view, does⟩ := lanes.2 q lane
  obtain ⟨store, nodes⟩ := Prod.mk.inj view
  have small := (levelLanes_spec low high lane).1
  rw [State.laneCounts_eq, does, State.senseLane, same]
  split
  · rw [State.place_setPlace_self _ _ (by omega), State.retimed_congr store nodes]
  · exact same

/-- The mismatch timer of a lane whose node is ALIVE (R11). -/
theorem State.retimed_lane {s : State} {q : Nat} {z : Place} {count : Nat} (lane : q < 160) (alive : s.alive (laneLevel q) = true)
    (fitted : z.fitted = true) (sensed : z.sensed = some count) :
    s.retimed q z = { z with
      mismatch := if s.hasProfile = true ∧ z.frozen = none ∧ z.lock = .none ∧ count ≠ z.entries.length then
          some (z.mismatch.getD (100 * s.senseGrace))
        else none } := by
  have eligible : s.mismatchEligible q z = true ↔
      s.hasProfile = true ∧ z.frozen = none ∧ z.lock = .none ∧ count ≠ z.entries.length := by
    simp [State.mismatchEligible, isLane, lane, alive, fitted, sensed, and_assoc]
  simp only [State.retimed, eligible]
  split
  · cases z.mismatch <;> rfl
  · rfl

/-! ### PollAnswers -/

/-- The row of a poll answer that is no report. -/
theorem exec_pollAnswer {c : Instr} {p : Port} {level : Byte} (h : c = .nothing p level ∨ c = .overflow p level ∨ c = .restarted p level)
    (s : State) : ∃ take, exec c s = s.live (fun t => t.pollAnswer p level take) := by
  rcases h with rfl | rfl | rfl <;> exact ⟨_, rfl⟩

/-- A LANE-COUNT report, taken in its order. -/
theorem exec_laneCount {s : State} {p : Port} {level : Byte} {number : BitVec 4} {counts : LaneCounts}
    (order : InOrder s p level number) (quiet : s.wake = []) :
    exec (.laneCount p level number counts) s = .next ((s.handed p level.toNat number).laneCounts level.toNat counts) := by
  have leads := (reportsTaken (.laneCount p level number counts) p level number s rfl).1 order
  have frame := (s.handed p level.toNat number).laneCounts_frame level.toNat counts
  have untold : (s.handed p level.toNat number).wake = [] := by simp [State.handed, quiet]
  exact leads.trans (congrArg Host.Outcome.next (State.resolved_quiet (frame.1.trans untold)))

/-- Settles O41: what an answer to a poll brings by the state of its node, and the sensed counts of a LANE-COUNT report. -/
theorem pollAnswers : Obligations.PollAnswers := by
  refine ⟨fun s p level c awake answer => ?first, fun s p level mode polled alive => ?second⟩
  case first =>
    obtain ⟨take, row⟩ := exec_pollAnswer answer s
    refine ⟨exec_of_unpolled awake row, fun polled seeking => ?_, exec_of_absent awake row⟩
    have was : ((s.begin.answered p level.toNat .advance).node level.toNat).state = .seeking := by
      rw [State.node_answered_self, State.node_begin]; exact seeking
    refine ⟨_, leads_of_seeking awake.mode row polled seeking, ?_, ?_, fun j ne => ?_, ?_⟩
    · simp [State.begin_of_reported awake.reported]
    · rw [State.node_firstAnswer_self _ was, State.node_answered_self, State.node_begin]; rfl
    · rw [State.node_firstAnswer_ne _ ne, State.node_answered_ne _ _ _ ne, State.node_begin]
    · rw [State.chainPort_firstAnswer, State.chainPort_answered, State.chainPort_begin]
  case second =>
    intro k v
    have node : v.node k = { s.node k with unanswered := 0 } := by
      simp only [v, State.node_answered_self, State.node_begin]
    have state : (s.node k).state = .alive := s.state_of_alive alive
    obtain ⟨low, high⟩ := s.level_of_alive alive
    refine ⟨by simp [v], by rw [node], by rw [node]; exact state, leads_of_alive (take := fun u _ => u) mode rfl polled alive,
      leads_of_alive (take := fun u k => (u.raise (srcLevel k) .overflow 0x00 0x00).queueResync k) mode rfl polled alive,
      leads_of_alive (take := fun u k => u.queueResync k) mode rfl polled alive, ?_, fun number counts order quiet => ?_⟩
    · rw [State.node_queueResync_self _ (.inl (by rw [node]; exact state)), node]; rfl
    · refine ⟨_, exec_laneCount order quiet, ?_⟩
      let u := s.handed p k number
      have handed : (s.handed p k number).places = s.places := by simp [State.handed]
      have was (q : Nat) : (s.handed p k number).place q = s.place q := State.place_eq_of_places handed q
      have live : (s.handed p k number).alive k = true := by
        rw [State.alive, State.handed, State.node_updateNode_self _ low high]
        simp only [v, k] at node
        rw [node]; exact alive
      obtain ⟨outside, inside⟩ := (s.handed p k number).place_laneCounts low high counts
      obtain ⟨-, conditions, contexts, lifts⟩ := (s.handed p k number).laneCounts_frame k counts
      generalize ht : (s.handed p k number).laneCounts k counts = t at *
      have reported := s.begin_of_reported order.reported
      have store : u.store = s.store := by simp [u, State.handed, reported]
      refine ⟨fun q n pair => ?_, fun q outA inA outB inB => ?_, fun q => ?_, ?_, ?_, ?_⟩
      · obtain ⟨count, lane⟩ := laneCountOf_of_pair high counts pair
        obtain ⟨small, level'⟩ := levelLanes_spec low high lane
        have now := inside q lane
        rw [was, count] at now
        intro z takes differs
        refine ⟨fun refuses => ?_, fun taken => ?_⟩
        · rw [now, if_neg (by simpa [takes] using refuses)]
        · have timed := State.retimed_lane (s := s.handed p k number) (z := { s.place q with sensed := some (min 2 n.toNat) }) small
            (by rw [level']; exact live) taken.1 rfl
          rw [if_pos (by simpa [takes] using taken), timed, State.hasProfile, State.senseGrace, State.profileByte, store] at now
          have yes (differ : differs) : (t.place q).mismatch = some (z.mismatch.getD (100 * s.senseGrace)) := by
            rw [now]; exact if_pos differ
          have no (same : ¬differs) : (t.place q).mismatch = none := by
            rw [now]; exact if_neg same
          exact ⟨by rw [now], by rw [now], fun differ none => by rw [yes differ, none]; rfl,
            fun r differ some => by rw [yes differ, some]; rfl, no⟩
      · have away : q ∉ levelLanes k := by simp [levelLanes, outA, inA, outB, inB]
        rw [outside q away, was]
      · simp only [State.entries]
        by_cases lane : q ∈ levelLanes k
        · rw [inside q lane, was]
          split <;> simp
        · rw [outside q lane, was]
          exact ⟨rfl, rfl, rfl⟩
      · rw [conditions]; simp [u, State.handed, reported]
      · rw [contexts]; simp [u, State.handed]
      · rw [lifts]; simp [u, State.handed]

end Sys2Proof.Machine
end

section
/-! PROOF. The assignment of the nodes is recomputed (R148), and an ACK is taken (R143, R146, R150; the statement AckTaken). -/

namespace Sys2Proof.Machine

/-! ### The port of a level (R139, R148) -/

theorem mem_allLevels (k : Nat) : k ∈ allLevels ↔ 1 ≤ k ∧ k ≤ 40 := by
  simp only [allLevels, List.mem_map, List.mem_range]
  exact ⟨by rintro ⟨i, small, rfl⟩; omega, fun ⟨low, high⟩ => ⟨k - 1, by omega, by omega⟩⟩

theorem allLevels_pairwise : allLevels.Pairwise (· < ·) :=
  List.pairwise_map.2 (List.pairwise_lt_range.imp (by omega))

section
variable (s : State)

theorem State.reachable_iff (k : Nat) (p : Port) : s.reachable k p = true ↔ s.clearWay k p := by
  have inside {i : Nat} (dead : (s.node i).state = .dead) : 1 ≤ i ∧ i ≤ 40 := s.level_of_state (by simp [dead])
  cases p with
  | bottom =>
    simp only [State.reachable, State.clearWay, List.all_eq_true, mem_allLevels, Bool.or_eq_true, decide_eq_true_eq, bne_iff_ne, ne_eq]
    exact ⟨fun h i low less dead => (h i (inside dead)).elim (by omega) (fun ok => ok dead),
      fun h i range => (Nat.lt_or_ge i k).symm.imp id (fun less => h i range.1 less)⟩
  | top =>
    simp only [State.reachable, State.clearWay, List.all_eq_true, mem_allLevels, Bool.or_eq_true, decide_eq_true_eq, bne_iff_ne, ne_eq]
    exact ⟨fun h i more high dead => (h i (inside dead)).elim (by omega) (fun ok => ok dead),
      fun h i range => (Nat.lt_or_ge k i).symm.imp id (fun more => h i more range.2)⟩

theorem State.assigns_iff (k : Nat) (r : Option Port) : s.Assigns k r ↔ r = s.assigned k := by
  simp only [State.Assigns, State.assigned, ← s.reachable_iff]
  split
  · simp_all
  · split <;> simp_all

theorem State.assigned_congr {t : State} (split' : t.split = s.split)
    (dead : ∀ k, (t.node k).state = .dead ↔ (s.node k).state = .dead) (k : Nat) : t.assigned k = s.assigned k := by
  have way (j : Nat) (p : Port) : t.reachable j p = s.reachable j p := by
    rw [Bool.eq_iff_iff, State.reachable_iff, State.reachable_iff]
    cases p <;> simp only [State.clearWay, ne_eq, dead]
  simp only [State.assigned, State.profileSide, split', way]
  rfl

/-- The record of a node that R148 assigns the port `r`. -/
def Node.reassigned (nd : Node) (r : Option Port) : Node :=
  match nd.state, r with
  | .off, _ => nd
  | .dead, _ => nd
  | .cut, none => nd
  | .cut, some q => { nd with state := .seeking, port := some q, queue := [.face q], sends := 0 }
  | _, none => { nd with state := .cut, port := none, queue := [], sends := 0, expected := none }
  | _, some q => if nd.port = some q then nd else { nd with port := some q, queue := nd.movedQueue q, sends := 0 }

theorem Node.reassigned_dead (nd : Node) (r : Option Port) : (nd.reassigned r).state = .dead ↔ nd.state = .dead := by
  unfold Node.reassigned
  (repeat' split) <;> simp_all

/-- A reassignment changes the one node's record, or nothing. -/
theorem State.reassign_eq (k : Nat) : s.reassign k = s ∧ (s.node k).reassigned (s.assigned k) = s.node k ∨
    ∃ f, s.reassign k = s.changeNode k f ∧ f (s.node k) = (s.node k).reassigned (s.assigned k) := by
  unfold State.reassign Node.reassigned
  dsimp only
  cases state : (s.node k).state <;> cases s.assigned k <;> dsimp only
  case seeking.some q | alive.some q =>
    by_cases same : (s.node k).port = some q
    · exact .inl ⟨if_pos same, if_pos same⟩
    · exact .inr ⟨_, if_neg same, by rw [if_neg same, state]⟩
  case seeking.none | alive.none | cut.some => exact .inr ⟨_, rfl, rfl⟩
  all_goals exact .inl ⟨rfl, rfl⟩

theorem State.node_reassign_self {k : Nat} (low : 1 ≤ k) (high : k ≤ 40) :
    (s.reassign k).node k = (s.node k).reassigned (s.assigned k) := by
  rcases s.reassign_eq k with ⟨stays, same⟩ | ⟨f, changes, becomes⟩
  · rw [stays, same]
  · rw [changes, s.node_changeNode_self low high, becomes]

theorem State.node_reassign_ne {k j : Nat} (ne : j ≠ k) : (s.reassign k).node j = s.node j := by
  rcases s.reassign_eq k with ⟨stays, -⟩ | ⟨f, changes, -⟩
  · rw [stays]
  · rw [changes, s.node_changeNode_ne _ ne]

@[simp] theorem State.reassign_frame (k : Nat) :
    (s.reassign k).conditions = s.conditions ∧ (s.reassign k).board.clock = s.board.clock ∧ (s.reassign k).store = s.store ∧
    (s.reassign k).chain.bottom = s.chain.bottom ∧ (s.reassign k).chain.top = s.chain.top ∧ (s.reassign k).mode = s.mode ∧
    (s.reassign k).handover.grants = s.handover.grants := by
  rcases s.reassign_eq k with ⟨stays, -⟩ | ⟨f, changes, -⟩
  · simp [stays]
  · simp [changes]

theorem State.assigned_reassign (k : Nat) : (s.reassign k).assigned = s.assigned := by
  funext j
  refine s.assigned_congr (by simp [State.split, State.profileByte]) (fun i => ?_) j
  by_cases own : i = k
  · subst own
    by_cases inside : 1 ≤ i ∧ i ≤ 40
    · rw [s.node_reassign_self inside.1 inside.2, Node.reassigned_dead]
    · have blank (t : State) : t.node i = {} := by
        by_contra record
        exact inside (t.level_of_node record)
      rw [blank, blank]
  · rw [s.node_reassign_ne own]

@[simp] theorem State.recompute_frame :
    s.recompute.conditions = s.conditions ∧ s.recompute.board.clock = s.board.clock ∧ s.recompute.store = s.store ∧
    s.recompute.chain.bottom = s.chain.bottom ∧ s.recompute.chain.top = s.chain.top ∧ s.recompute.mode = s.mode ∧
    s.recompute.handover.grants = s.handover.grants := by
  unfold State.recompute
  simpa only [Prod.mk.injEq] using foldl_view (fun t : State =>
    (t.conditions, t.board.clock, t.store, t.chain.bottom, t.chain.top, t.mode, t.handover.grants))
    (fun t k => by simp) allLevels s

theorem State.assigned_recompute : s.recompute.assigned = s.assigned :=
  foldl_view State.assigned (fun t k => t.assigned_reassign k) allLevels s

theorem State.node_recompute {k : Nat} (low : 1 ≤ k) (high : k ≤ 40) :
    s.recompute.node k = (s.node k).reassigned (s.assigned k) := by
  obtain ⟨w, same, view, does⟩ := (foldl_each (read := State.node) State.assigned (fun t k => t.assigned_reassign k)
    (fun t k j ne => t.node_reassign_ne ne) (allLevels_pairwise.imp Nat.ne_of_lt) s).2 k ((mem_allLevels k).2 ⟨low, high⟩)
  rw [State.recompute, does, w.node_reassign_self low high, same, view]

/-- The recomputation of the assignment, as R148 states it. -/
theorem State.reassigned_recompute : Reassigned s s.recompute := by
  intro k r low high assigns
  rw [State.assigns_iff, State.assigned_recompute] at assigns
  rw [s.node_recompute low high, ← assigns]
  clear assigns
  refine ⟨?_, ?_, ?_, ?_, ?_, ?_⟩
  · rintro (off | dead) <;> simp [Node.reassigned, *]
  · rintro q served rfl port
    cases state : (s.node k).state <;> simp_all [Node.served, Node.reassigned]
  · rintro q served rfl moved
    have queue : (s.node k).movedQueue q = .face q ::
        if (s.node k).sends = 0 then (s.node k).queue
        else (s.node k).queue.tail ++ (if ChainCmd.resyncAsk ∈ (s.node k).queue.tail then [] else [.resyncAsk]) := by
      unfold Node.movedQueue
      split <;> rfl
    rw [← queue]
    cases state : (s.node k).state <;> simp_all [Node.served, Node.reassigned]
  · rintro q cut rfl
    simp [Node.reassigned, cut]
  · rintro served rfl
    cases state : (s.node k).state <;> simp_all [Node.served, Node.reassigned]
  · rintro cut rfl
    simp [Node.reassigned, cut]

end

/-! ### A command is answered (R146) -/

/-- The record of a node whose command numbered `number` has been answered. -/
def Node.acked (nd : Node) (number : BitVec 4) : Node :=
  if nd.sends ≠ 0 ∧ nd.frame = number then { nd with queue := nd.queue.tail, sends := 0, unanswered := 0 }
  else { nd with unanswered := 0 }

theorem Node.acked_state (nd : Node) (number : BitVec 4) : (nd.acked number).state = nd.state := by
  unfold Node.acked
  split <;> rfl

/-- The state in which a command's answer is handed over. -/
def State.commandAnswered (s : State) (p : Port) (k : Nat) (number : BitVec 4) : State :=
  (s.answered p k .poll).updateNode k (fun nd =>
    if nd.sends ≠ 0 ∧ nd.frame = number then { nd with queue := nd.queue.tail, sends := 0 } else nd)

section
variable (s : State) (p : Port) (number : BitVec 4)

theorem State.commandAnswer_eq (k : Nat) (take : State → State) : s.commandAnswer p k number take =
    match (s.node k).state with
    | .seeking => (s.commandAnswered p k number).firstAnswer k
    | .alive => take (s.commandAnswered p k number)
    | _ => s.commandAnswered p k number := by
  unfold State.commandAnswer
  cases (s.node k).state <;> rfl

theorem State.node_commandAnswered_self (k : Nat) : (s.commandAnswered p k number).node k = (s.node k).acked number := by
  unfold State.commandAnswered Node.acked
  by_cases inside : 1 ≤ k ∧ k ≤ 40
  · rw [State.node_updateNode_self _ inside.1 inside.2, State.node_answered_self]
  · have blank : s.node k = {} := by
      by_contra record
      exact inside (s.level_of_node record)
    rw [State.updateNode_of_out _ inside, State.node_answered_self, blank]
    simp

theorem State.node_commandAnswered_ne {k j : Nat} (ne : j ≠ k) : (s.commandAnswered p k number).node j = s.node j := by
  rw [State.commandAnswered, State.node_updateNode_ne _ _ ne, State.node_answered_ne _ _ _ ne]

@[simp] theorem State.chainPort_commandAnswered (k : Nat) :
    (s.commandAnswered p k number).chainPort p = { s.chainPort p with exchange := none, next := .poll } := by
  simp [State.commandAnswered]

/-- An answered command changes the chain alone. -/
theorem State.commandAnswered_rest (k : Nat) : { s.commandAnswered p k number with chain := s.chain } = s := by
  cases p <;> cases k <;> rfl

@[simp] theorem State.commandAnswered_frame (k : Nat) :
    (s.commandAnswered p k number).wake = s.wake ∧ (s.commandAnswered p k number).contexts = s.contexts ∧
    (s.commandAnswered p k number).handover = s.handover ∧ (s.commandAnswered p k number).lifts = s.lifts ∧
    (s.commandAnswered p k number).places = s.places ∧ (s.commandAnswered p k number).conditions = s.conditions ∧
    (s.commandAnswered p k number).release = s.release ∧ (s.commandAnswered p k number).board = s.board ∧
    (s.commandAnswered p k number).store = s.store := by
  simp [State.commandAnswered]

end

section
variable {s : State} {p : Port} {k : Nat} {number : BitVec 4} {c : Instr} {f : State → State} {take : State → State}

/-- A command's answer from a SEEKING node makes it ALIVE and brings nothing else (R150). -/
theorem leads_of_seeking_command (awake : Awake s) (row : exec c s = s.live f)
    (answers : ∀ t : State, t.chain = s.chain → f t = t.commandAnswer p k number take) (seeking : (s.node k).state = .seeking) :
    ∃ v, Leads c s v ∧
      v.node k = { (s.node k).acked number with state := .alive, queue := resyncQueued ((s.node k).acked number).queue } ∧
      (∀ j, j ≠ k → v.node j = s.node j) ∧ v.chainPort p = { s.chainPort p with exchange := none, next := .poll } ∧
      v.handover = s.handover ∧ v.contexts = s.contexts ∧ v.lifts = s.lifts ∧
      ∀ q, (v.place q).untimed = (s.place q).untimed := by
  have does : f s.begin = (s.begin.commandAnswered p k number).firstAnswer k := by
    rw [answers _ (by simp), State.commandAnswer_eq, State.node_begin, seeking]
  have node : (s.begin.commandAnswered p k number).node k = (s.node k).acked number := by
    rw [State.node_commandAnswered_self, State.node_begin]
  have was : ((s.begin.commandAnswered p k number).node k).state = .seeking := by rw [node, Node.acked_state, seeking]
  refine ⟨_, does ▸ exec_leads awake.mode row, ?_, fun j ne => ?_, ?_, by simp, by simp, by simp, fun q => ?_⟩
  · rw [State.node_firstAnswer_self _ was, node]
  · rw [State.node_firstAnswer_ne _ ne, State.node_commandAnswered_ne _ _ _ ne, State.node_begin]
  · rw [State.chainPort_firstAnswer, State.chainPort_commandAnswered, State.chainPort_begin]
  · rw [State.untimed_firstAnswer, State.place_eq_of_places (s := s) (by simp)]

/-- A command's answer that is not handed over ends the exchange and nothing else. -/
theorem exec_of_absent_command (awake : Awake s) (row : exec c s = s.live f)
    (does : f { s with sent := [] } = ({ s with sent := [] } : State).commandAnswered p k number) :
    ∃ t, exec c s = .next t ∧ t.node k = (s.node k).acked number ∧ (∀ j, j ≠ k → t.node j = s.node j) ∧
      t.chainPort p = { s.chainPort p with exchange := none, next := .poll } ∧
      { t with chain := s.chain, sent := s.sent } = s := by
  let u : State := { s with sent := [] }
  refine ⟨u.commandAnswered p k number, ?_, u.node_commandAnswered_self p number k,
    fun j ne => u.node_commandAnswered_ne p number ne, u.chainPort_commandAnswered p number k, ?_⟩
  · rw [exec_of_quiet (f := f) awake row (by rw [does]; simp), does]
  · exact congrArg (fun t : State => { t with sent := s.sent }) (u.commandAnswered_rest p number k)

end

/-! ### A HELLO is answered (R149, R150) -/

/-- The state in which the answer to a HELLO is taken. -/
def State.helloAnswered (s : State) (p : Port) (k : Nat) : State :=
  (s.updatePort p (fun r => { r with exchange := none })).updateNode k (fun nd => { nd with unanswered := 0 })

section
variable (s : State) (p : Port) (k : Nat)

theorem State.node_helloAnswered_self : (s.helloAnswered p k).node k = { s.node k with unanswered := 0 } := by
  unfold State.helloAnswered
  by_cases inside : 1 ≤ k ∧ k ≤ 40
  · rw [State.node_updateNode_self _ inside.1 inside.2, State.node_updatePort]
  · have blank : s.node k = {} := by
      by_contra record
      exact inside (s.level_of_node record)
    rw [State.updateNode_of_out _ inside, State.node_updatePort, blank]

theorem State.node_helloAnswered_ne {j : Nat} (ne : j ≠ k) : (s.helloAnswered p k).node j = s.node j := by
  rw [State.helloAnswered, State.node_updateNode_ne _ _ ne, State.node_updatePort]

@[simp] theorem State.chainPort_helloAnswered :
    (s.helloAnswered p k).chainPort p = { s.chainPort p with exchange := none } := by
  simp [State.helloAnswered]

theorem State.helloAnswered_rest : { s.helloAnswered p k with chain := s.chain } = s := by
  cases p <;> cases k <;> rfl

end

/-! ### AckTaken -/

theorem State.ackAt_command {s : State} {p : Port} {level : Byte} {number : BitVec 4} {k left : Nat} {c : ChainCmd}
    (sent : (s.chainPort p).exchange = some ⟨k, .command c number, left⟩) (here : level.toNat = k) (other : c ≠ .resyncAsk) :
    s.ackAt p level number = s.commandAnswer p k number (fun t => t) := by
  simp only [State.ackAt, sent, here, true_and, ne_eq, other, not_false_eq_true, if_true]

theorem State.ackAt_hello {s : State} {p : Port} {level : Byte} {number : BitVec 4} {k left : Nat}
    (sent : (s.chainPort p).exchange = some ⟨k, .hello, left⟩) (here : level.toNat = k) (zero : number = 0) :
    s.ackAt p level number = match (s.node k).state with
      | .dead => (s.helloAnswered p k).revive k p
      | .cut => (s.helloAnswered p k).revive k p
      | .seeking => (s.helloAnswered p k).firstAnswer k
      | _ => s.helloAnswered p k := by
  simp only [State.ackAt, sent, here, zero, and_self, if_true]
  cases (s.node k).state <;> rfl

/-- An ACK that answers nothing in progress is discarded (R143). -/
theorem State.ackAt_other {s : State} {p : Port} {level : Byte} {number : BitVec 4} {k left : Nat}
    (h : (s.chainPort p).exchange = none ∨ (s.chainPort p).exchange = some ⟨k, .poll, left⟩ ∨
      ((s.chainPort p).exchange = some ⟨k, .hello, left⟩ ∧ (level.toNat ≠ k ∨ number ≠ 0)) ∨
      (∃ c n, (s.chainPort p).exchange = some ⟨k, .command c n, left⟩ ∧
        (level.toNat ≠ k ∨ n ≠ number ∨ c = .resyncAsk))) : s.ackAt p level number = s := by
  rcases h with none | poll | ⟨hello, other⟩ | ⟨c, n, command, other⟩
  · simp only [State.ackAt, none]
  · simp only [State.ackAt, poll]
  · have no : ¬(level.toNat = k ∧ number = 0) := by tauto
    simp only [State.ackAt, hello, if_neg no]
  · have no : ¬(level.toNat = k ∧ n = number ∧ c ≠ .resyncAsk) := by tauto
    simp only [State.ackAt, command, if_neg no]

/-- Settles O44, by the exchange in progress and the state of its node. -/
theorem ackTaken : Obligations.AckTaken := by
  intro s p level number k left awake resync
  have row : exec (.ack p level number) s = s.live (fun t => t.ackAt p level number) := rfl
  let u : State := { s with sent := [] }
  have begun : s.begin = u := s.begin_of_reported awake.reported
  refine ⟨fun c sent here other => ?command, fun sent here zero => ?hello, fun other => ?other⟩
  case command =>
    intro popped
    have answers (t : State) (same : t.chain = s.chain) :
        t.ackAt p level number = t.commandAnswer p k number (fun v => v) := by
      have port : t.chainPort p = s.chainPort p := State.chainPort_congr s (by rw [same]) (by rw [same]) p
      exact State.ackAt_command (by rw [port]; exact sent) here other
    refine ⟨fun unseeking => ?_, fun seeking => ?_⟩
    · have does : u.ackAt p level number = u.commandAnswered p k number := by
        rw [answers u rfl, State.commandAnswer_eq]
        cases state : (u.node k).state <;> first | rfl | exact absurd state unseeking
      obtain ⟨t, runs, node, others, port, rest⟩ := exec_of_absent_command awake row does
      exact ⟨t, runs, node, others, by rw [port], by rw [port], rest⟩
    · obtain ⟨v, leads, node, others, port, held, contexts, lifts, -⟩ := leads_of_seeking_command awake row answers seeking
      exact ⟨v, leads, node, others, by rw [port], by rw [port], contexts, held, lifts⟩
  case hello =>
    have does := State.ackAt_hello (s := u) sent here zero
    refine ⟨fun lost => ?_, fun seeking => ?_, fun stands => ?_⟩
    · have inside := s.level_of_state (k := k) (by rcases lost with e | e <;> simp [e])
      have revives : u.ackAt p level number = (u.helloAnswered p k).revive k p := by
        rw [does]
        rcases lost with e | e <;> simp only [show (u.node k).state = _ from e]
      refine ⟨(u.helloAnswered p k).changeNode k
        (fun nd => { nd with state := .alive, port := some p, unanswered := 0, sends := 0 }), ?_, fun j ne => ?_, ?_,
        State.reassigned_recompute _, ?_⟩
      · rw [State.node_changeNode_self _ inside.1 inside.2, State.node_helloAnswered_self]; rfl
      · rw [State.node_changeNode_ne _ _ ne, State.node_helloAnswered_ne _ _ _ ne]; rfl
      · rw [State.chainPort_changeNode, State.chainPort_helloAnswered]
      · have leads := exec_leads awake.mode row
        rwa [begun, revives] at leads
    · have first : u.ackAt p level number = (u.helloAnswered p k).firstAnswer k := by
        rw [does]
        simp only [show (u.node k).state = _ from seeking]
      have was : ((u.helloAnswered p k).node k).state = .seeking := by
        rw [State.node_helloAnswered_self]; exact seeking
      have leads := exec_leads awake.mode row
      rw [begun, first] at leads
      refine ⟨_, leads, ?_, fun j ne => ?_, ?_⟩
      · rw [State.node_firstAnswer_self _ was, State.node_helloAnswered_self]; rfl
      · rw [State.node_firstAnswer_ne _ ne, State.node_helloAnswered_ne _ _ _ ne]; rfl
      · rw [State.chainPort_firstAnswer, State.chainPort_helloAnswered]
    · have ends : u.ackAt p level number = u.helloAnswered p k := by
        rw [does]
        rcases stands with e | e <;> simp only [show (u.node k).state = _ from e]
      refine ⟨u.helloAnswered p k, ?_, u.node_helloAnswered_self p k, fun j ne => u.node_helloAnswered_ne p k ne, ?_, ?_⟩
      · rw [exec_of_quiet (f := fun t => t.ackAt p level number) awake row (by rw [ends]; simp [State.helloAnswered, u]), ends]
      · rw [State.chainPort_helloAnswered]
      · exact congrArg (fun t : State => { t with sent := s.sent }) (u.helloAnswered_rest p k)
  case other => exact exec_of_idle awake row (State.ackAt_other (s := u) other)

end Sys2Proof.Machine
end

section
/-! PROOF. Frames received on a serial link (R154), and what an exchange without an answer, a discarded frame and a relayed one
bring (R143, R147, R154; the statement ExchangeFailures). -/

namespace Sys2Proof.Machine

/-! ### Received bytes -/

theorem frameDiscarded_iff (bs : List Byte) : frameDiscarded bs = true ↔ BadFrame bs := by
  simp only [frameDiscarded, BadFrame, frameCheck, frameLength, Bool.or_eq_true, decide_eq_true_eq, bne_iff_ne, ne_eq, or_assoc]
  exact or_congr decide_eq_true_iff Iff.rfl

theorem receivedFrame_bad {bs : List Byte} (bad : BadFrame bs) : receivedFrame bs = none :=
  if_pos ((frameDiscarded_iff bs).2 bad)

theorem receivedFrame_good {bs : List Byte} (good : ¬BadFrame bs) : receivedFrame bs = some
    { address := bs.getD 0 0x00, kind := bs.getD 1 0x00, number := (bs.getD 2 0x00).setWidth 4,
      payload := (bs.drop 4).take (frameLength bs) } :=
  if_neg (mt (frameDiscarded_iff bs).1 good)

theorem linkCommand_bad {p : Port} {bs : List Byte} (bad : BadFrame bs) : linkCommand (.chain p) bs = .checkError p := by
  simp only [linkCommand, chainCommand, receivedFrame_bad bad]

theorem linkCommand_relayed {p : Port} {bs : List Byte} (good : ¬BadFrame bs) (address : bs.getD 0 0x00 ≠ 0x00) :
    linkCommand (.chain p) bs = .relayedFrame p := by
  simp only [linkCommand, chainCommand, receivedFrame_good good, if_neg address]

/-- A frame that a node addresses to the HC40 spells the command its kind and payload name. -/
theorem linkCommand_node {p : Port} {kind : Byte} {number : BitVec 4} {payload : List Byte} {i : Instr} (short : payload.length ≤ 32)
    (spells : nodeCommand p ⟨0x00, kind, number, payload⟩ = some i) :
    linkCommand (.chain p) (frameBytes ⟨.chain p, 0x00, kind, number, payload⟩) = i := by
  rw [linkCommand_chain_frameBytes p _ short rfl, spells, Option.getD_some]

theorem sideOf_sideCode (x : Side) : sideOf (sideCode x) = some x := by cases x <;> rfl

theorem numberOf_setWidth (n : BitVec 4) : numberOf (n.setWidth 8) = some n := by
  have small : (n.setWidth 8).toNat < 16 := by simp [BitVec.toNat_setWidth]; omega
  rw [numberOf, if_pos small, BitVec.setWidth_setWidth_of_le _ (by decide), BitVec.setWidth_eq]

/-- The last dialogue event of a RESYNC-REPORT, from its code and side bytes (R151). -/
theorem lastEventOf_spells (x : Side) (t : Word) :
    lastEventOf 0x00 0x00 t = some .none ∧ lastEventOf 0x26 0x00 t = some (.dropAsk t) ∧
    lastEventOf 0x05 (sideCode x) t = some (.dropGrant x t) ∧ lastEventOf 0x27 (sideCode x) t = some (.dropDone x t) ∧
    lastEventOf 0x28 (sideCode x) t = some (.dropAbort x t) ∧ lastEventOf 0x29 (sideCode x) t = some (.takeAsk x) ∧
    lastEventOf 0x07 (sideCode x) t = some (.takeGrant x) ∧ lastEventOf 0x2A (sideCode x) t = some (.takeDone x) ∧
    lastEventOf 0x2B (sideCode x) t = some (.takeAbort x) := by
  cases x <;> exact ⟨rfl, rfl, rfl, rfl, rfl, rfl, rfl, rfl, rfl⟩

theorem nodeCommand_resyncReport (p : Port) (l : Byte) (n next : BitVec 4) (c : LaneCounts) (held t : Word) {code side : Byte}
    {e : LastEvent} (last : lastEventOf code side t = some e) :
    nodeCommand p ⟨0x00, 0x24, n, l :: (next.setWidth 8 :: [c.outA, c.inA, c.outB, c.inB] ++ bytes32 held ++ [code, side] ++ bytes32 t)⟩ =
      some (.resyncReport p l n next c held e) := by
  have word' (w : Word) : word (w.extractLsb' 0 8) (w.extractLsb' 8 8) (w.extractLsb' 16 8) (w.extractLsb' 24 8) = w := word_bytes w
  simp [nodeCommand, bytes32, word', numberOf_setWidth, last]

/-- A kind whose payload is a side and a tote ID. -/
theorem nodeCommand_handover (p : Port) (l : Byte) (n : BitVec 4) (x : Side) (t : Word) :
    nodeCommand p ⟨0x00, 0x27, n, l :: sideCode x :: bytes32 t⟩ = some (.dropDone p l n x t) ∧
    nodeCommand p ⟨0x00, 0x28, n, l :: sideCode x :: bytes32 t⟩ = some (.dropAbort p l n x t) ∧
    nodeCommand p ⟨0x00, 0x2A, n, l :: sideCode x :: bytes32 t⟩ = some (.takeDone p l n x t) := by
  have word' : word (t.extractLsb' 0 8) (t.extractLsb' 8 8) (t.extractLsb' 16 8) (t.extractLsb' 24 8) = t := word_bytes t
  simp [nodeCommand, bytes32, word', sideOf_sideCode]

/-! ### A discarded frame (R154) -/

section
variable (s : State) (p : Port)

theorem State.checkErrorAt_counts (few : (s.chainPort p).checkErrors < 255) :
    s.checkErrorAt p = if checkErrorReported ((s.chainPort p).checkErrors + 1) then
      (s.updatePort p (fun r => { r with checkErrors := (s.chainPort p).checkErrors + 1 })).raise (srcPort p) .checkErrors
        (byteOf ((s.chainPort p).checkErrors + 1)) 0x00
      else s.updatePort p (fun r => { r with checkErrors := (s.chainPort p).checkErrors + 1 }) := by
  simp only [State.checkErrorAt, few, if_true]

/-! ### An exchange without an answer (R143) -/

/-- The state after an exchange has ended without an answer: its count, and what the port does next (R142, R143). -/
def State.uncounted (k : Nat) (what : Sending) : State :=
  (s.updatePort p (fun r => { r with exchange := none, next := afterUnanswered what })).updateNode k
    (fun nd => { nd with unanswered := min 3 (nd.unanswered + 1) })

variable {k : Nat} (low : 1 ≤ k) (high : k ≤ 40) (what : Sending)

include low high in
theorem State.node_uncounted_self : (s.uncounted p k what).node k =
    { s.node k with unanswered := min 3 ((s.node k).unanswered + 1) } := by
  rw [State.uncounted, State.node_updateNode_self _ low high, State.node_updatePort]

theorem State.node_uncounted_ne {j : Nat} (ne : j ≠ k) : (s.uncounted p k what).node j = s.node j := by
  rw [State.uncounted, State.node_updateNode_ne _ _ ne, State.node_updatePort]

@[simp] theorem State.chainPort_uncounted :
    (s.uncounted p k what).chainPort p = { s.chainPort p with exchange := none, next := afterUnanswered what } := by
  simp [State.uncounted]

theorem State.uncounted_rest : { s.uncounted p k what with chain := s.chain } = s := by
  cases p <;> cases k <;> rfl

@[simp] theorem State.uncounted_frame :
    (s.uncounted p k what).wake = s.wake ∧ (s.uncounted p k what).conditions = s.conditions ∧
    (s.uncounted p k what).handover = s.handover ∧ (s.uncounted p k what).board = s.board ∧
    (s.uncounted p k what).store = s.store := by
  simp [State.uncounted]

theorem State.unansweredAt_hello (sent : (s.chainPort p).exchange = some ⟨k, .hello, 0⟩) :
    s.unansweredAt p = s.updatePort p (fun r => { r with exchange := none }) := by
  simp only [State.unansweredAt, sent]

include low high in
theorem State.unansweredAt_eq {what : Sending} (sent : (s.chainPort p).exchange = some ⟨k, what, 0⟩) (other : what ≠ .hello) :
    s.unansweredAt p = if min 3 ((s.node k).unanswered + 1) = 3 ∧ (s.node k).served = true then (s.uncounted p k what).nodeDies k
      else s.uncounted p k what := by
  have node := s.node_uncounted_self p low high what
  have served : ((s.uncounted p k what).node k).served = (s.node k).served := by rw [node]; rfl
  have count : ((s.uncounted p k what).node k).unanswered = min 3 ((s.node k).unanswered + 1) := by rw [node]
  rw [← served, ← count]
  cases what with
  | hello => exact absurd rfl other
  | poll => simp only [State.unansweredAt, sent]; rfl
  | command c n => simp only [State.unansweredAt, sent]; rfl

theorem State.unansweredAt_running (running : ∀ k what, (s.chainPort p).exchange ≠ some ⟨k, what, 0⟩) : s.unansweredAt p = s := by
  unfold State.unansweredAt
  split
  · next sent => exact absurd sent (running _ _)
  · next sent => exact absurd sent (running _ _)
  · rfl

end

/-! ### A node becomes DEAD (R147, R148) -/

section
variable (s : State)

theorem State.mem_cutLevels (j : Nat) : j ∈ s.cutLevels ↔ (s.node j).state = .cut := by
  simp only [State.cutLevels, List.mem_filter, mem_allLevels, beq_iff_eq]
  exact ⟨fun h => h.2, fun cut => ⟨s.level_of_state (by simp [cut]), cut⟩⟩

theorem head?_of_lowest {l : List Nat} (sorted : l.Pairwise (· < ·)) {lo : Nat} (member : lo ∈ l) (lowest : ∀ j ∈ l, lo ≤ j) :
    l.head? = some lo := by
  cases l with
  | nil => cases member
  | cons a l =>
    rcases List.mem_cons.1 member with rfl | later
    · rfl
    · have := (List.pairwise_cons.1 sorted).1 lo later
      have := lowest a (by simp)
      omega

theorem getLast?_of_highest {l : List Nat} (sorted : l.Pairwise (· < ·)) {hi : Nat} (member : hi ∈ l) (highest : ∀ j ∈ l, j ≤ hi) :
    l.getLast? = some hi := by
  induction l with
  | nil => cases member
  | cons a l ih =>
    obtain ⟨first, sorted⟩ := List.pairwise_cons.1 sorted
    cases l with
    | nil => rcases List.mem_singleton.1 member with rfl; rfl
    | cons b l =>
      have less := first b (by simp)
      have bound := highest b (by simp)
      have later : hi ∈ b :: l := (List.mem_cons.1 member).resolve_left (by omega)
      rw [List.getLast?_cons_cons]
      exact ih sorted later fun j hj => highest j (List.mem_cons_of_mem a hj)

theorem State.recomputeAfterDeath_uncut (p : Port) (none : ∀ j, (s.recompute.node j).state = .cut → (s.node j).state = .cut) :
    s.recomputeAfterDeath p = s.recompute := by
  have unchanged : ¬s.recompute.cutLevels.any (fun k => !(s.cutLevels).contains k) = true := by
    simpa [List.any_eq_true, State.mem_cutLevels] using none
  simp only [State.recomputeAfterDeath, unchanged, if_false]
  rfl

theorem State.recomputeAfterDeath_cut (p : Port) {lo hi : Nat}
    (new : ∃ j, (s.recompute.node j).state = .cut ∧ ¬(s.node j).state = .cut) (cutLo : (s.recompute.node lo).state = .cut)
    (cutHi : (s.recompute.node hi).state = .cut) (range : ∀ j, (s.recompute.node j).state = .cut → lo ≤ j ∧ j ≤ hi) :
    s.recomputeAfterDeath p = s.recompute.raise (srcPort p) .nodeCut (byteOf lo) (byteOf hi) := by
  have sorted : s.recompute.cutLevels.Pairwise (· < ·) := allLevels_pairwise.filter _
  have first := head?_of_lowest sorted ((State.mem_cutLevels _ _).2 cutLo) fun j hj => (range j ((State.mem_cutLevels _ _).1 hj)).1
  have last := getLast?_of_highest sorted ((State.mem_cutLevels _ _).2 cutHi) fun j hj => (range j ((State.mem_cutLevels _ _).1 hj)).2
  have some : (s.recompute.cutLevels.any (fun k => !(s.cutLevels).contains k)) = true := by
    simpa [List.any_eq_true, State.mem_cutLevels] using new
  simp only [State.recomputeAfterDeath, some, if_true, first, last, Option.getD_some]

/-- The state in which the assignment is recomputed after a node's death. -/
def State.died (k : Nat) (q : Port) : State :=
  (s.raise (srcPort q) .nodeDead (byteOf k) 0x00).changeNode k
    (fun nd => { nd with state := .dead, port := none, queue := [], sends := 0, expected := none })

theorem State.nodeDies_eq {k : Nat} {q : Port} (port : (s.node k).port = some q) :
    s.nodeDies k = (s.died k q).recomputeAfterDeath q := by
  simp only [State.nodeDies, port, Option.getD_some]; rfl

/-- No held ask of a level is left when its node has ceased to be ALIVE (R89). -/
theorem State.held_changeNode {k : Nat} {f : Node → Node} (was : s.alive k = true) (gone : (f (s.node k)).state ≠ .alive) :
    ∀ h ∈ (s.changeNode k f).handover.held, h.level ≠ k := by
  obtain ⟨low, high⟩ := s.level_of_alive was
  have dead : (s.updateNode k f).alive k = false := by
    rw [State.alive, s.node_updateNode_self low high]
    simpa using gone
  rw [State.changeNode_eq, was, dead, if_neg (by simp), if_neg (by simp)]
  intro h member own
  have held (t : State) : (t.dropHeld k).handover.held = t.handover.held.filter (fun h => h.level != k) := by
    unfold State.dropHeld
    exact foldl_view (fun t : State => t.handover.held) (fun t h => by cases h <;> simp) _ _
  rw [held] at member
  have kept := (List.mem_filter.1 member).2
  simp [own] at kept

end

/-! ### ExchangeFailures -/

section
variable {s : State} {p : Port} (awake : Awake s)
include awake

theorem exec_unanswered_hello {k : Nat} (sent : (s.chainPort p).exchange = some ⟨k, .hello, 0⟩) :
    ∃ t, exec (.exchangeUnanswered p) s = .next t ∧ t.chainPort p = { s.chainPort p with exchange := none } ∧
      t.chain.nodes = s.chain.nodes ∧ { t with chain := s.chain, sent := s.sent } = s := by
  let u : State := { s with sent := [] }
  have does : u.unansweredAt p = u.updatePort p (fun r => { r with exchange := none }) := u.unansweredAt_hello p sent
  refine ⟨_, (exec_of_quiet (f := fun t => t.unansweredAt p) awake rfl (by rw [does]; simp [u])).trans
    (congrArg Host.Outcome.next does), ?_, ?_, ?_⟩
  · rw [State.chainPort_updatePort_self]; rfl
  · cases p <;> rfl
  · cases p <;> rfl

theorem exec_unanswered_counted {k : Nat} {what : Sending} (sent : (s.chainPort p).exchange = some ⟨k, what, 0⟩)
    (other : what ≠ .hello) (low : 1 ≤ k) (high : k ≤ 40) (spared : (s.node k).unanswered < 2 ∨ (s.node k).served = false) :
    ∃ t, exec (.exchangeUnanswered p) s = .next t ∧
      t.node k = { s.node k with unanswered := min 3 ((s.node k).unanswered + 1) } ∧
      (∀ j, j ≠ k → t.node j = s.node j) ∧
      t.chainPort p = { s.chainPort p with exchange := none, next := afterUnanswered what } ∧
      { t with chain := s.chain, sent := s.sent } = s := by
  let u : State := { s with sent := [] }
  have lives : ¬(min 3 ((s.node k).unanswered + 1) = 3 ∧ (s.node k).served = true) := by
    rintro ⟨third, served⟩
    rcases spared with few | unserved
    · omega
    · rw [unserved] at served; cases served
  have does : u.unansweredAt p = u.uncounted p k what := (u.unansweredAt_eq p low high sent other).trans (if_neg lives)
  refine ⟨_, (exec_of_quiet (f := fun t => t.unansweredAt p) awake rfl (by rw [does]; simp [u])).trans
    (congrArg Host.Outcome.next does), u.node_uncounted_self p low high what, fun j ne => u.node_uncounted_ne p what ne,
    u.chainPort_uncounted p what, ?_⟩
  exact congrArg (fun t : State => { t with sent := s.sent }) (u.uncounted_rest p what)

/-- The third exchange without an answer (R147). -/
theorem leads_unanswered_dead {k : Nat} {what : Sending} {q : Port} (sent : (s.chainPort p).exchange = some ⟨k, what, 0⟩)
    (other : what ≠ .hello) (third : 2 ≤ (s.node k).unanswered) (served : (s.node k).served = true)
    (port : (s.node k).port = some q) :
    ∃ v : State, v.node k = { s.node k with
          state := .dead, port := none, queue := [], sends := 0, expected := none, unanswered := 3 } ∧
        (∀ j, j ≠ k → v.node j = s.node j) ∧ (v.chainPort p).exchange = none ∧
        v.cond (srcPort q) = (s.cond (srcPort q)).raised .nodeDead (byteOf k) 0x00 s.stamp ∧
        (∀ src, src ≠ srcPort q → v.cond src = s.cond src) ∧ v.handover.grants = s.handover.grants ∧
        (s.alive k = true → ∀ h ∈ v.handover.held, h.level ≠ k) ∧ Leads (.exchangeUnanswered p) s (v.recomputeAfterDeath q) := by
  let u : State := { s with sent := [] }
  have inside : 1 ≤ k ∧ k ≤ 40 := s.level_of_state fun off => by simp [Node.served, off] at served
  have count : min 3 ((s.node k).unanswered + 1) = 3 := by omega
  have does : u.unansweredAt p = (u.uncounted p k what).nodeDies k :=
    (u.unansweredAt_eq p inside.1 inside.2 sent other).trans (if_pos ⟨count, served⟩)
  generalize hw : u.uncounted p k what = w at does
  have node : w.node k = { s.node k with unanswered := min 3 ((s.node k).unanswered + 1) } :=
    hw ▸ u.node_uncounted_self p inside.1 inside.2 what
  have conds : w.conditions = s.conditions := by subst hw; simp [u]
  have stamp : w.stamp = s.stamp := State.stamp_congr (by subst hw; simp [u])
  have small : srcPort q < 48 := by cases q <;> decide
  have raised (src : Nat) : (w.died k q).cond src = (w.raise (srcPort q) .nodeDead (byteOf k) 0x00).cond src :=
    State.cond_congr (by simp [State.died]) src
  have same : (w.raise (srcPort q) .nodeDead (byteOf k) 0x00).node k = w.node k := State.node_congr (by simp) k
  have dies : w.nodeDies k = (w.died k q).recomputeAfterDeath q := w.nodeDies_eq (by rw [node]; exact port)
  refine ⟨w.died k q, ?_, fun j ne => ?_, ?_, ?_, fun src ne => ?_, ?_, fun alive => ?_, ?_⟩
  · rw [State.died, State.node_changeNode_self _ inside.1 inside.2, same, node, count]
  · rw [State.died, State.node_changeNode_ne _ _ ne, State.node_congr (s := w) (by simp), ← hw]
    exact u.node_uncounted_ne p what ne
  · rw [State.died, State.chainPort_changeNode, State.chainPort_congr w (by simp) (by simp), ← hw, State.chainPort_uncounted]
  · rw [raised, State.cond_raise_self _ small, State.cond_congr conds, stamp]
  · rw [raised, State.cond_raise_ne _ (Ne.symm ne), State.cond_congr conds]
  · subst hw; simp [State.died, u]
  · refine State.held_changeNode _ ?_ (by simp)
    rw [State.alive, same, node]
    exact alive
  · have leads := exec_leads (c := .exchangeUnanswered p) (f := fun t => t.unansweredAt p) awake.mode rfl
    rwa [s.begin_of_reported awake.reported, does, dies] at leads

theorem exec_checkError_few (few : (s.chainPort p).checkErrors < 255) :
    ∃ t, exec (.checkError p) s = .next t ∧
      t.chainPort p = { s.chainPort p with checkErrors := (s.chainPort p).checkErrors + 1 } ∧
      (let n := (s.chainPort p).checkErrors + 1
       t.cond (srcPort p) = if n = 1 ∨ n % 16 = 0 ∨ n = 255 then
         (s.cond (srcPort p)).raised .checkErrors (byteOf n) 0x00 s.stamp else s.cond (srcPort p)) ∧
      { t with chain := s.chain, conditions := s.conditions, sent := s.sent } = s := by
  let u : State := { s with sent := [] }
  let n := (s.chainPort p).checkErrors + 1
  let w := u.updatePort p (fun r => { r with checkErrors := n })
  have does : u.checkErrorAt p = if checkErrorReported n then w.raise (srcPort p) .checkErrors (byteOf n) 0x00 else w :=
    u.checkErrorAt_counts p few
  have reported : checkErrorReported n = true ↔ n = 1 ∨ n % 16 = 0 ∨ n = 255 := by simp [checkErrorReported, or_assoc]
  have port : w.chainPort p = { s.chainPort p with checkErrors := n } := State.chainPort_updatePort_self _ _ _
  have conds : w.conditions = s.conditions := by simp [w, u]
  have stamp : w.stamp = s.stamp := State.stamp_congr (by simp [w, u])
  have wake : w.wake = s.wake := by simp [w, u]
  have rest : { w with chain := s.chain, conditions := s.conditions, sent := s.sent } = s := by
    cases p <;> rfl
  have runs : exec (.checkError p) s = .next (u.checkErrorAt p) :=
    exec_of_quiet (f := fun t => t.checkErrorAt p) awake rfl (by rw [does]; split <;> exact wake)
  rw [does] at runs
  generalize w = w at *
  by_cases report : checkErrorReported n = true
  · rw [if_pos report] at runs
    refine ⟨_, runs, (State.chainPort_congr w rfl rfl p).trans port, ?_, rest⟩
    dsimp only
    rw [if_pos (reported.1 report), State.cond_raise_self _ (by cases p <;> decide), State.cond_congr conds, stamp]
  · rw [if_neg report] at runs
    refine ⟨_, runs, port, ?_, rest⟩
    dsimp only
    rw [if_neg (mt reported.2 report), State.cond_congr conds]

end

/-- Settles O46: what an exchange that ends without an answer brings by what it sent and by its node's count, what a discarded
or a relayed frame brings, and the commands that a node's frames spell. -/
theorem exchangeFailures : Obligations.ExchangeFailures := by
  refine ⟨fun s p awake => ?fails, fun s p bs => ⟨rfl, linkCommand_bad, linkCommand_relayed⟩, fun p l n next x t held c => ?spells⟩
  case fails =>
    refine ⟨fun running => ?_, fun k sent => exec_unanswered_hello awake sent, fun k what sent other low high spared => ?_,
      fun k what q sent other third served port => ?_, fun few => exec_checkError_few awake few, fun many => ?_, ?_⟩
    · exact exec_of_idle (f := fun t => t.unansweredAt p) awake rfl (State.unansweredAt_running { s with sent := [] } p running)
    · obtain ⟨t, runs, node, others, port, rest⟩ := exec_unanswered_counted awake sent other low high spared
      exact ⟨t, runs, node, others, by rw [port]; cases what <;> rfl, rest⟩
    · obtain ⟨v, node, others, exchange, raised, conds, grants, asks, leads⟩ :=
        leads_unanswered_dead awake sent other third served port
      refine ⟨v, node, others, exchange, raised, conds, grants, asks, v.reassigned_recompute, fun none => ?_,
        fun lo hi new cutLo cutHi range => ?_⟩
      · rwa [v.recomputeAfterDeath_uncut q none] at leads
      · rwa [v.recomputeAfterDeath_cut q new cutLo cutHi range] at leads
    · refine exec_of_idle (f := fun t => t.checkErrorAt p) awake rfl ?_
      exact if_neg (Nat.not_lt.2 many)
    · exact exec_of_idle (f := fun t => t) awake rfl rfl
  case spells =>
    intro spells counts last
    have side := sideOf_sideCode x
    have tote : word (t.extractLsb' 0 8) (t.extractLsb' 8 8) (t.extractLsb' 16 8) (t.extractLsb' 24 8) = t := word_bytes t
    obtain ⟨dropDone, dropAbort, takeDone⟩ := nodeCommand_handover p l n x t
    obtain ⟨none, dropAsk, dropGrant, doneLast, abortLast, takeAsk, takeGrant, takeDoneLast, takeAbort⟩ := lastEventOf_spells x t
    have report (code sideByte : Byte) (e : LastEvent) (h : lastEventOf code sideByte t = some e) : last code sideByte e :=
      linkCommand_node (by simp [counts, bytes32]) (nodeCommand_resyncReport p l n next c held t h)
    refine ⟨linkCommand_node (by simp) rfl, linkCommand_node (by simp) rfl, linkCommand_node (by simp) rfl,
      linkCommand_node (by simp) rfl, linkCommand_node (by simp [counts]) rfl, linkCommand_node (by simp [bytes32]) ?_,
      linkCommand_node (by simp [bytes32]) dropDone, linkCommand_node (by simp [bytes32]) dropAbort,
      linkCommand_node (by simp) ?_, linkCommand_node (by simp [bytes32]) takeDone, linkCommand_node (by simp) ?_,
      report _ _ _ none, report _ _ _ dropAsk, report _ _ _ dropGrant, report _ _ _ doneLast, report _ _ _ abortLast,
      report _ _ _ takeAsk, report _ _ _ takeGrant, report _ _ _ takeDoneLast, report _ _ _ takeAbort⟩
    · simp [nodeCommand, bytes32, tote]
    · simp [nodeCommand, side]
    · simp [nodeCommand, side]

end Sys2Proof.Machine
end

section
/-! PROOF. A port's next exchange: its visits (R142) and its probes (R149; the statement VisitAndHello). -/

namespace Sys2Proof.Machine

/-! ### An exchange starts -/

section
variable (s : State) (p : Port)

theorem State.chainPort_startExchange (k : Nat) (what : Sending) :
    (s.startExchange p k what).chainPort p = { s.chainPort p with exchange := some ⟨k, what, 2⟩ } := by
  cases p <;> rfl

theorem State.node_startExchange (k : Nat) (what : Sending) (j : Nat) : (s.startExchange p k what).node j = s.node j :=
  State.node_congr (by cases p <;> rfl) j

@[simp] theorem State.setPort_setPort (r r' : ChainPort) : (s.setPort p r).setPort p r' = s.setPort p r' := by
  cases p <;> rfl

theorem State.setPort_chainPort : s.setPort p (s.chainPort p) = s := by cases p <;> rfl

theorem State.sendCommand_of_queue {k : Nat} {c : ChainCmd} {cs : List ChainCmd} (queue : (s.node k).queue = c :: cs) :
    s.sendCommand p k = (s.setNode k { s.node k with
        frame := if (s.node k).sends = 0 then (s.node k).frame + 1 else (s.node k).frame, sends := (s.node k).sends + 1 }).startExchange
      p k (.command c (if (s.node k).sends = 0 then (s.node k).frame + 1 else (s.node k).frame)) := by
  simp only [State.sendCommand, queue]

/-! ### The next visit (R142) -/

theorem nextVisit_isSome {served : List Nat} (some : served ≠ []) (k : Nat) : ∃ l, nextVisit served k = .some l := by
  unfold nextVisit
  split
  · exact ⟨_, rfl⟩
  · cases served with
    | nil => exact absurd rfl some
    | cons l ls => exact ⟨l, rfl⟩

theorem State.advanceVisit_some {k : Nat} (next : nextVisit (s.served p) (s.chainPort p).level = some k) :
    s.advanceVisit p = if (s.node k).queue = [] then
        (s.setPort p { s.chainPort p with level := k, next := .advance }).startExchange p k .poll
      else (s.setPort p { s.chainPort p with level := k, next := .advance }).sendCommand p k := by
  have node : (s.setPort p { s.chainPort p with level := k, next := .advance }).node k = s.node k := by simp
  simp only [State.advanceVisit, next, State.updatePort, node, List.isEmpty_iff]

theorem State.advanceVisit_none (none : s.served p = []) : s.advanceVisit p = s := by
  simp only [State.advanceVisit, none, nextVisit, List.find?_nil, List.head?_nil]

theorem State.served_setPort (r : ChainPort) : (s.setPort p r).served p = s.served p := by
  simp [State.served]

/-- The visit of the next level does not depend on what the port was to do at the level it leaves. -/
theorem State.advanceVisit_setPort (some : s.served p ≠ []) (next : VisitNext) :
    (s.setPort p { s.chainPort p with next := next }).advanceVisit p = s.advanceVisit p := by
  obtain ⟨k, visits⟩ := nextVisit_isSome some (s.chainPort p).level
  rw [s.advanceVisit_some p visits, State.advanceVisit_some (k := k) _ p (by
    rw [State.served_setPort, State.chainPort_setPort_self]; exact visits)]
  simp only [State.chainPort_setPort_self, State.setPort_setPort, State.node_setPort]

theorem State.visitPort_busy (busy : (s.chainPort p).exchange ≠ none ∨ (s.chainPort p).probes ≠ []) : s.visitPort p = s := by
  refine if_pos ?_
  rcases busy with running | probing
  · simp [Option.isSome_iff_ne_none.2 running]
  · simp [probing]

variable (free : (s.chainPort p).exchange = none) (unprobed : (s.chainPort p).probes = [])

include free unprobed

theorem State.visitPort_free : s.visitPort p = match (s.chainPort p).next with
    | .resend =>
      if (s.chainPort p).level ∈ s.served p ∧ (s.node (s.chainPort p).level).sends ≠ 0 then s.sendCommand p (s.chainPort p).level
      else s.advanceVisit p
    | .poll =>
      if (s.chainPort p).level ∈ s.served p ∧
          ((s.node (s.chainPort p).level).state = .alive ∨ (s.node (s.chainPort p).level).queue = []) then
        (s.updatePort p (fun r => { r with next := .advance })).startExchange p (s.chainPort p).level .poll
      else s.advanceVisit p
    | .advance => s.advanceVisit p := by
  simp only [State.visitPort, free, unprobed, Option.isSome_none, List.isEmpty_nil, Bool.not_true, Bool.or_self, Bool.false_eq_true,
    if_false] <;> rfl

theorem State.visitPort_advance (next : (s.chainPort p).next = .advance) : s.visitPort p = s.advanceVisit p := by
  rw [s.visitPort_free p free unprobed, next]

theorem State.visitPort_gone {here : Nat} (level : (s.chainPort p).level = here)
    (gone : ((s.chainPort p).next = .resend ∧ (here ∉ s.served p ∨ (s.node here).sends = 0)) ∨
      ((s.chainPort p).next = .poll ∧ (here ∉ s.served p ∨ ((s.node here).state ≠ .alive ∧ (s.node here).queue ≠ [])))) :
    s.visitPort p = s.advanceVisit p := by
  rw [s.visitPort_free p free unprobed, level]
  rcases gone with ⟨next, off⟩ | ⟨next, off⟩
  · rw [next]; exact if_neg (by tauto)
  · rw [next]; exact if_neg (by tauto)

end

/-! ### The levels to be probed (R149) -/

theorem State.mem_lostLevels (s : State) (k : Nat) :
    k ∈ s.lostLevels ↔ 1 ≤ k ∧ k ≤ 40 ∧ ((s.node k).state = .dead ∨ (s.node k).state = .cut) := by
  simp [State.lostLevels, mem_allLevels, and_assoc]

section
variable (s : State) (p : Port)

theorem State.lostLevels_setPort (r : ChainPort) : (s.setPort p r).lostLevels = s.lostLevels := by
  simp [State.lostLevels]

/-- The round of probes that is under way once a round that is due has begun. -/
def State.probing (s : State) (p : Port) : ChainPort :=
  if (s.chainPort p).probeTimer = some 0 then { s.chainPort p with probes := s.lostLevels, probeTimer := some probeInterval }
  else s.chainPort p

theorem State.helloPort_eq : s.helloPort p =
    if (s.chainPort p).exchange.isSome then s.setPort p (s.probing p)
    else match (s.probing p).probes.dropWhile (fun k => !s.lostLevels.contains k) with
      | [] => s.setPort p { s.probing p with probes := [] }
      | k :: ks => (s.setPort p { s.probing p with probes := ks }).startExchange p k .hello := by
  have begun : (if (s.chainPort p).probeTimer = some 0 then
      s.updatePort p (fun r => { r with probes := s.lostLevels, probeTimer := some probeInterval }) else s) =
      s.setPort p (s.probing p) := by
    unfold State.probing
    split
    · rfl
    · exact (s.setPort_chainPort p).symm
  have exchange : (s.probing p).exchange = (s.chainPort p).exchange := by
    unfold State.probing
    split <;> rfl
  simp only [State.helloPort, begun, State.chainPort_setPort_self, exchange, State.lostLevels_setPort]
  simp only [State.updatePort, State.chainPort_setPort_self, State.setPort_setPort, exchange] <;> rfl

@[simp] theorem State.wake_helloPort : (s.helloPort p).wake = s.wake := by
  rw [State.helloPort_eq]
  (repeat' split) <;> simp [State.startExchange]

end

/-- The first level of a round that is still lost (R149). -/
theorem dropWhile_found {lost gone ks : List Nat} {k : Nat} (passed : ∀ j ∈ gone, j ∉ lost) (found : k ∈ lost) :
    (gone ++ k :: ks).dropWhile (fun j => !lost.contains j) = k :: ks := by
  rw [List.dropWhile_append_of_pos (by simpa using passed), List.dropWhile_cons_of_neg (by simpa using found)]

theorem dropWhile_none {lost probes : List Nat} (passed : ∀ j ∈ probes, j ∉ lost) :
    probes.dropWhile (fun j => !lost.contains j) = [] := by
  simpa [List.dropWhile_eq_nil_iff] using passed

/-! ### VisitAndHello -/

section
variable {s : State} {p : Port} (awake : Awake s)
include awake

theorem exec_visit : exec (.visit p) s = .next (({ s with sent := [] } : State).visitPort p) :=
  exec_of_quiet (f := fun t => t.visitPort p) awake rfl (by simp)

theorem exec_hello : exec (.hello p) s = .next (({ s with sent := [] } : State).helloPort p) :=
  exec_of_quiet (f := fun t => t.helloPort p) awake rfl (by simp)

omit awake in
/-- An exchange that starts sends its frame and changes the port's record alone. -/
theorem startExchange_sent (r : ChainPort) (k : Nat) (what : Sending) :
    let t := (({ s with sent := [] } : State).setPort p r).startExchange p k what
    t.sent = [exchangeFrame p k what] ∧ t.chainPort p = { r with exchange := some ⟨k, what, 2⟩ } ∧
      t.chain.nodes = s.chain.nodes ∧ { t with chain := s.chain, sent := s.sent } = s := by
  cases p <;> exact ⟨rfl, rfl, rfl, rfl⟩

omit awake in
/-- A command that is sent changes the port's record and the node's count of sends and number (R142, R146). -/
theorem sendCommand_sent (r : ChainPort) {k : Nat} {c : ChainCmd} {cs : List ChainCmd} (queue : (s.node k).queue = c :: cs) :
    let n := if (s.node k).sends = 0 then (s.node k).frame + 1 else (s.node k).frame
    let t := (({ s with sent := [] } : State).setPort p r).sendCommand p k
    t.sent = [exchangeFrame p k (.command c n)] ∧ t.chainPort p = { r with exchange := some ⟨k, .command c n, 2⟩ } ∧
      (1 ≤ k → k ≤ 40 → t.node k = { s.node k with frame := n, sends := (s.node k).sends + 1 }) ∧
      (∀ j, j ≠ k → t.node j = s.node j) ∧ { t with chain := s.chain, sent := s.sent } = s := by
  intro n t
  let u : State := ({ s with sent := [] } : State).setPort p r
  have node (j : Nat) : u.node j = s.node j := State.node_setPort { s with sent := [] } p r j
  have does : t = (u.setNode k { s.node k with frame := n, sends := (s.node k).sends + 1 }).startExchange p k (.command c n) := by
    have sends := u.sendCommand_of_queue p (k := k) (by rw [node]; exact queue)
    rw [node] at sends
    exact sends
  refine ⟨?_, ?_, fun low high => ?_, fun j ne => ?_, ?_⟩
  · rw [does]; cases p <;> cases k <;> rfl
  · rw [does, State.chainPort_startExchange, State.chainPort_setNode]
    simp only [u, State.chainPort_setPort_self]
  · rw [does, State.node_startExchange, State.node_setNode_self _ low high]
  · rw [does, State.node_startExchange, State.node_setNode_ne _ _ ne, node]
  · rw [does]; cases p <;> cases k <;> rfl

end

section
variable {s : State} {p : Port}

/-- A port that is free visits the next level (R142). -/
theorem exec_visit_next (awake : Awake s) (free : (s.chainPort p).exchange = none) (unprobed : (s.chainPort p).probes = [])
    (advance : (s.chainPort p).next = .advance) {k : Nat} (next : nextVisit (s.served p) (s.chainPort p).level = some k) :
    ((s.node k).queue = [] → ∃ t, exec (.visit p) s = .next t ∧ t.sent = [⟨.chain p, byteOf k, 0x01, 0, []⟩] ∧
        t.chainPort p = { s.chainPort p with level := k, exchange := some ⟨k, .poll, 2⟩ } ∧
        { t with chain := s.chain, sent := s.sent } = s ∧ t.chain.nodes = s.chain.nodes) ∧
      (∀ c cs, (s.node k).queue = c :: cs → (s.node k).sends = 0 → 1 ≤ k → k ≤ 40 → ∃ t, exec (.visit p) s = .next t ∧
        t.sent = [exchangeFrame p k (.command c ((s.node k).frame + 1))] ∧
        t.chainPort p = { s.chainPort p with
          level := k, exchange := some ⟨k, .command c ((s.node k).frame + 1), 2⟩ } ∧
        t.node k = { s.node k with frame := (s.node k).frame + 1, sends := 1 } ∧
        { t with chain := s.chain, sent := s.sent } = s) := by
  let u : State := { s with sent := [] }
  have visits : u.visitPort p = u.advanceVisit p := u.visitPort_advance p free unprobed advance
  have does := visits.trans (u.advanceVisit_some p next)
  have same : ({ s.chainPort p with level := k, next := .advance } : ChainPort) = { s.chainPort p with level := k } := by
    rw [← advance]
  refine ⟨fun empty => ?_, fun c cs queue unsent low high => ?_⟩
  · obtain ⟨sent, port, nodes, rest⟩ :=
      startExchange_sent (s := s) (p := p) { s.chainPort p with level := k, next := .advance } k .poll
    refine ⟨_, (exec_visit awake).trans (congrArg Host.Outcome.next (does.trans (if_pos empty))), sent, port.trans ?_, rest, nodes⟩
    exact congrArg (fun r : ChainPort => { r with exchange := some ⟨k, .poll, 2⟩ }) same
  · obtain ⟨sent, port, node, -, rest⟩ :=
      sendCommand_sent (p := p) { s.chainPort p with level := k, next := .advance } queue
    have busy : ¬(u.node k).queue = [] := by rw [show (u.node k).queue = _ from queue]; simp
    rw [if_pos unsent] at sent port
    refine ⟨_, (exec_visit awake).trans (congrArg Host.Outcome.next (does.trans (if_neg busy))), sent, port.trans ?_, ?_, rest⟩
    · exact congrArg (fun r : ChainPort => { r with exchange := some ⟨k, .command c ((s.node k).frame + 1), 2⟩ }) same
    · refine (node low high).trans ?_
      rw [if_pos unsent, unsent]

theorem State.probing_due (due : (s.chainPort p).probeTimer = some 0) :
    s.probing p = { s.chainPort p with probes := s.lostLevels, probeTimer := some 1000 } := if_pos due

theorem State.probing_undue (undue : (s.chainPort p).probeTimer ≠ some 0) : s.probing p = s.chainPort p := if_neg undue

/-- A HELLO row during an exchange begins the round that is due and sends nothing (R149). -/
theorem exec_hello_busy (awake : Awake s) {e : Exchange} (running : (s.chainPort p).exchange = some e) :
    exec (.hello p) s = .next (({ s with sent := [] } : State).setPort p (s.probing p)) := by
  let u : State := { s with sent := [] }
  have does : u.helloPort p = u.setPort p (u.probing p) :=
    (u.helloPort_eq p).trans (if_pos (Option.isSome_iff_exists.2 ⟨e, running⟩))
  exact (exec_hello awake).trans (congrArg Host.Outcome.next does)

/-- The first level of the round that is still lost is probed (R149). -/
theorem exec_hello_found (awake : Awake s) (free : (s.chainPort p).exchange = none) {gone ks : List Nat} {k : Nat}
    (round : (s.probing p).probes = gone ++ k :: ks) (passed : ∀ j ∈ gone, j ∉ s.lostLevels) (found : k ∈ s.lostLevels) :
    ∃ t, exec (.hello p) s = .next t ∧ t.sent = [⟨.chain p, byteOf k, 0x02, 0, []⟩] ∧
      t.chainPort p = { s.probing p with probes := ks, exchange := some ⟨k, .hello, 2⟩ } ∧
      t.chain.nodes = s.chain.nodes ∧ { t with chain := s.chain, sent := s.sent } = s := by
  let u : State := { s with sent := [] }
  have idle : ¬(u.chainPort p).exchange.isSome = true := by rw [show (u.chainPort p).exchange = none from free]; simp
  have rest : (u.probing p).probes.dropWhile (fun k => !u.lostLevels.contains k) = k :: ks := by
    rw [show (u.probing p).probes = gone ++ k :: ks from round]
    exact dropWhile_found passed found
  have does := (u.helloPort_eq p).trans (if_neg idle)
  rw [rest] at does
  obtain ⟨sent, port, nodes, rest⟩ := startExchange_sent (s := s) (p := p) { s.probing p with probes := ks } k .hello
  exact ⟨_, (exec_hello awake).trans (congrArg Host.Outcome.next does), sent, port, nodes, rest⟩

/-- A round of which no level is lost any more is over (R149). -/
theorem exec_hello_none (awake : Awake s) (free : (s.chainPort p).exchange = none)
    (passed : ∀ j ∈ (s.probing p).probes, j ∉ s.lostLevels) :
    exec (.hello p) s = .next (({ s with sent := [] } : State).setPort p { s.probing p with probes := [] }) := by
  let u : State := { s with sent := [] }
  have idle : ¬(u.chainPort p).exchange.isSome = true := by rw [show (u.chainPort p).exchange = none from free]; simp
  have rest : (u.probing p).probes.dropWhile (fun k => !u.lostLevels.contains k) = [] := dropWhile_none passed
  have does := (u.helloPort_eq p).trans (if_neg idle)
  rw [rest] at does
  exact (exec_hello awake).trans (congrArg Host.Outcome.next does)

/-- The exchange of a visit that stays at the level visited last (R142). -/
theorem exec_visit_stays (awake : Awake s) (free : (s.chainPort p).exchange = none) (unprobed : (s.chainPort p).probes = [])
    {here : Nat} (level : (s.chainPort p).level = here) (member : here ∈ s.served p) :
    (∀ c cs, (s.chainPort p).next = .resend → (s.node here).sends ≠ 0 → (s.node here).queue = c :: cs →
      ∃ t, exec (.visit p) s = .next t ∧
        t.sent = [exchangeFrame p here (.command c (s.node here).frame)] ∧
        t.node here = { s.node here with sends := (s.node here).sends + 1 } ∧ (∀ j, j ≠ here → t.node j = s.node j) ∧
        t.chainPort p = { s.chainPort p with exchange := some ⟨here, .command c (s.node here).frame, 2⟩ } ∧
        { t with chain := s.chain, sent := s.sent } = s) ∧
    ((s.chainPort p).next = .poll → (s.node here).state = .alive ∨ (s.node here).queue = [] →
      ∃ t, exec (.visit p) s = .next t ∧ t.sent = [⟨.chain p, byteOf here, 0x01, 0, []⟩] ∧
        t.chainPort p = { s.chainPort p with next := .advance, exchange := some ⟨here, .poll, 2⟩ } ∧
        { t with chain := s.chain, sent := s.sent } = s ∧ t.chain.nodes = s.chain.nodes) := by
  let u : State := { s with sent := [] }
  have visits := u.visitPort_free p free unprobed
  rw [show (u.chainPort p).level = here from level] at visits
  obtain ⟨inside, -⟩ := List.mem_filter.1 member
  obtain ⟨low, high⟩ := (mem_allLevels here).1 inside
  refine ⟨fun c cs resend sends queue => ?_, fun poll ready => ?_⟩
  · rw [show (u.chainPort p).next = .resend from resend] at visits
    have does : u.visitPort p = (u.setPort p (s.chainPort p)).sendCommand p here := by
      rw [show u.setPort p (s.chainPort p) = u from u.setPort_chainPort p]
      exact visits.trans (if_pos ⟨member, sends⟩)
    obtain ⟨sent, port, node, others, rest⟩ := sendCommand_sent (p := p) (s.chainPort p) queue
    rw [if_neg sends] at sent port
    refine ⟨_, (exec_visit awake).trans (congrArg Host.Outcome.next does), sent, (node low high).trans ?_, others, port, rest⟩
    rw [if_neg sends]
  · rw [show (u.chainPort p).next = .poll from poll] at visits
    obtain ⟨sent, port, nodes, rest⟩ := startExchange_sent (s := s) (p := p) { s.chainPort p with next := .advance } here .poll
    exact ⟨_, (exec_visit awake).trans (congrArg Host.Outcome.next (visits.trans (if_pos ⟨member, ready⟩))), sent, port, rest, nodes⟩

/-- Where the level visited last offers nothing more, the port goes on as it would from a finished visit. -/
theorem exec_visit_goesOn (awake : Awake s) (free : (s.chainPort p).exchange = none) (unprobed : (s.chainPort p).probes = [])
    {here : Nat} (level : (s.chainPort p).level = here)
    (gone : ((s.chainPort p).next = .resend ∧ (here ∉ s.served p ∨ (s.node here).sends = 0)) ∨
      ((s.chainPort p).next = .poll ∧ (here ∉ s.served p ∨ ((s.node here).state ≠ .alive ∧ (s.node here).queue ≠ []))))
    (some : s.served p ≠ []) :
    exec (.visit p) s = exec (.visit p) (s.setPort p { s.chainPort p with next := .advance }) := by
  let u : State := { s with sent := [] }
  let v := s.setPort p { s.chainPort p with next := .advance }
  have awake' : Awake v := ⟨by simpa [v] using awake.mode, by simpa [v] using awake.quiet, by simpa [v] using awake.reported⟩
  let w := u.setPort p { u.chainPort p with next := .advance }
  have port : w.chainPort p = { u.chainPort p with next := .advance } := State.chainPort_setPort_self _ _ _
  have same : ({ v with sent := [] } : State) = w := by cases p <;> rfl
  have advances : w.visitPort p = w.advanceVisit p :=
    w.visitPort_advance p (by rw [port]; exact free) (by rw [port]; exact unprobed) (by rw [port])
  rw [exec_visit awake, exec_visit awake', same, u.visitPort_gone p free unprobed level gone, advances,
    u.advanceVisit_setPort p some]

end

/-- Settles O45, by the port's record: an exchange in progress, a round of probes, and what is to be done at the level visited
last. -/
theorem visitAndHello : Obligations.VisitAndHello := by
  refine ⟨fun s p e awake running => ⟨?_, ?_⟩, State.mem_lostLevels, fun s => allLevels_pairwise.filter _, fun s p awake free => ?free⟩
  · have busy : ({ s with sent := [] } : State).visitPort p = { s with sent := [] } :=
      State.visitPort_busy { s with sent := [] } p (.inl fun none => nomatch running.symm.trans none)
    rw [exec_visit awake, busy]
  · rw [exec_hello_busy awake running]
    split
    · next due => rw [State.probing_due due]
    · next undue => rw [State.probing_undue undue]; exact congrArg Host.Outcome.next (State.setPort_chainPort { s with sent := [] } p)
  case free =>
    let u : State := { s with sent := [] }
    refine ⟨fun k unprobed advance next => exec_visit_next awake free unprobed advance next, fun k ks due lost => ?due, ?level,
      fun probing => ?probing, fun gone k ks undue probes passed found => ?found, fun undue passed => ?none⟩
    case due =>
      have round := exec_hello_found awake free (gone := []) (k := k) (ks := ks) (by rw [State.probing_due due]; exact lost)
        (by simp) (by simp [lost])
      rwa [State.probing_due due] at round
    case probing =>
      have busy : u.visitPort p = u := u.visitPort_busy p (.inr probing)
      rw [exec_visit awake, busy]
    case found =>
      have round := exec_hello_found awake free (by rw [State.probing_undue undue]; exact probes) passed found
      rwa [State.probing_undue undue] at round
    case none =>
      have round := exec_hello_none awake free (by rw [State.probing_undue undue]; exact passed)
      rwa [State.probing_undue undue] at round
    case level =>
      intro r here nd goesOn unprobed
      refine ⟨fun c cs resend member => (exec_visit_stays awake free unprobed rfl member).1 c cs resend,
        fun resend gone some => exec_visit_goesOn awake free unprobed rfl (.inl ⟨resend, gone⟩) some,
        fun poll member => (exec_visit_stays awake free unprobed rfl member).2 poll,
        fun poll gone some => exec_visit_goesOn awake free unprobed rfl (.inr ⟨poll, gone⟩) some, fun unserved => ?_⟩
      have visits := u.visitPort_free p free unprobed
      have stays : u.visitPort p = u := by
        rw [visits, show u.served p = [] from unserved, u.advanceVisit_none p unserved]
        cases (u.chainPort p).next <;> simp
      rw [exec_visit awake, stays]

end Sys2Proof.Machine
end

section
/-! PROOF. The side choice for a drop (R75–R77), the test of a take (R81) and the walk of the held asks (R85; the statement
DropSideChoice). -/

namespace Sys2Proof.Machine

/-! ### The side choice as a table -/

/-- The side choice from what it asks of each side: whether the lane can ever take a tote, whether the side passes now, and whether side
B's zone holds fewer entries than side A's. -/
def chooseSide (p : Pref) (canA canB passA passB less : Bool) : DropChoice :=
  match candidates p (fun x => match x with | .a => canA | .b => canB) with
  | [] => .closed
  | cs =>
    match cs.filter (fun x => match x.1 with | .a => passA | .b => passB) with
    | [] => .hold
    | [x] => .grant x.1 x.2
    | _ => if less then .grant .b false else .grant .a false

section
variable (s : State) (c : Context) (k : Nat)

theorem State.dropChoice_eq : s.dropChoice c k = chooseSide c.pref (s.canEverAdmit (outLane k .a)) (s.canEverAdmit (outLane k .b))
    (s.passesNow c k .a) (s.passesNow c k .b) (decide (s.zoneCount .b < s.zoneCount .a)) := by
  have can : (fun x : Side => s.canEverAdmit (outLane k x)) =
      (fun x => match x with | .a => s.canEverAdmit (outLane k .a) | .b => s.canEverAdmit (outLane k .b)) := by
    funext x; cases x <;> rfl
  have pass : (fun x : Side × Bool => s.passesNow c k x.1) =
      (fun x => match x.1 with | .a => s.passesNow c k .a | .b => s.passesNow c k .b) := by
    funext x; rcases x with ⟨x, b⟩; cases x <;> rfl
  simp only [State.dropChoice, chooseSide, can, pass, decide_eq_true_eq] <;> rfl

end

/-- Side `x` is a candidate (R75): its lane can ever take a tote, and it is preferred or stands in for the preferred side. -/
def isCandidate (p : Pref) (canA canB : Bool) : Side → Bool
  | .a => canA && (p == .any || p == .a || (p == .b && !canB))
  | .b => canB && (p == .any || p == .b || (p == .a && !canA))

theorem chooseSide_closed (p : Pref) (canA canB passA passB less : Bool) :
    chooseSide p canA canB passA passB less = .closed ↔ canA = false ∧ canB = false := by
  cases p <;> revert canA canB passA passB less <;> decide

theorem chooseSide_hold (p : Pref) (canA canB passA passB less : Bool) :
    chooseSide p canA canB passA passB less = .hold ↔ (canA = true ∨ canB = true) ∧
      (isCandidate p canA canB .a = true → passA = false) ∧ (isCandidate p canA canB .b = true → passB = false) := by
  cases p <;> revert canA canB passA passB less <;> decide

section
variable {p : Pref} {canA canB passA passB less sub : Bool}

theorem chooseSide_grant_a (granted : chooseSide p canA canB passA passB less = .grant .a sub) :
    canA = true ∧ isCandidate p canA canB .a = true ∧ passA = true := by
  cases p <;> revert canA canB passA passB less sub <;> decide

theorem chooseSide_grant_b (granted : chooseSide p canA canB passA passB less = .grant .b sub) :
    canB = true ∧ isCandidate p canA canB .b = true ∧ passB = true := by
  cases p <;> revert canA canB passA passB less sub <;> decide

/-- A side is substituted where the other one is preferred, and only where that can never take a tote. -/
theorem chooseSide_substitutes_a (granted : chooseSide p canA canB passA passB less = .grant .a sub) :
    (sub = true ↔ p = .b) ∧ (p = .b → canB = false) := by
  cases p <;> revert canA canB passA passB less sub <;> decide

theorem chooseSide_substitutes_b (granted : chooseSide p canA canB passA passB less = .grant .b sub) :
    (sub = true ↔ p = .a) ∧ (p = .a → canA = false) := by
  cases p <;> revert canA canB passA passB less sub <;> decide

/-- Where both sides qualify, the zone counts decide (R77). -/
theorem chooseSide_any (x : Side) : chooseSide .any true true true true less = .grant x sub → (x = .b ↔ less = true) := by
  cases x <;> revert less sub <;> decide

end

/-! ### The tests of a drop and of a take -/

section
variable (s : State)

theorem State.bindable_iff (x : Side) (q : Half) : s.bindable x q = true ↔ s.distance q < s.window ∧
    ∀ m d l, (s.release.bound.get x).getLast? = some m → s.ctx m = some d → d.seq = some l → s.distance l < s.distance q := by
  simp only [State.bindable, Bool.and_eq_true, decide_eq_true_eq]
  refine and_congr_right fun _ => ?_
  cases last : (s.release.bound.get x).getLast? with
  | none => simp
  | some m => cases hd : s.ctx m with
    | none =>
      refine ⟨fun _ m' d l same hd' => ?_, fun _ => by simp [hd]⟩
      cases same
      rw [hd] at hd'; cases hd'
    | some d =>
      refine ⟨fun less m' d' l same hd' hl => ?_, fun less => ?_⟩
      · cases same
        cases hd.symm.trans hd'
        simpa [hd, hl] using less
      · cases hl : d.seq with
        | none => simp [hd, hl]
        | some l => simpa [hd, hl] using less m d l rfl hd hl

theorem State.passesNow_iff (c : Context) (k : Nat) (x : Side) : s.passesNow c k x = true ↔
    s.mode = .run ∧ s.grant k = none ∧ s.admitsArrivals (outLane k x) = true ∧
      s.hasRoom (outLane k x) = true ∧ (s.place (outLane k x)).lock = .none ∧
      (∀ q, c.liveSeq = some q → s.distance q < s.window ∧
        ∀ m d l, (s.release.bound.get x).getLast? = some m → s.ctx m = some d → d.seq = some l →
          s.distance l < s.distance q) := by
  simp only [State.passesNow, State.laneTakesDrop, Bool.and_eq_true, beq_iff_eq, Option.isNone_iff_eq_none]
  cases live : c.liveSeq with
  | none => simp only [reduceCtorEq, false_implies, implies_true, and_true]; tauto
  | some q =>
    simp only [State.bindable_iff, Option.some.injEq, forall_eq']
    tauto

theorem State.takePasses_iff (k : Nat) (x : Side) : s.takePasses k x = true ↔
    s.mode = .run ∧ s.grant k = none ∧ s.admitsDepartures (inLaneOf k x) = true ∧
      (s.place (inLaneOf k x)).lock = .none ∧ s.entries (inLaneOf k x) ≠ [] := by
  simp [State.takePasses, and_assoc]

/-! ### The walk (R85) -/

theorem State.tryHeld_drop {n : Nat} {c : Context} (hc : s.ctx n = some c) (k : Nat) (tote : Word) :
    s.tryHeld (.drop k n tote) = match s.dropChoice c k with
      | .closed => some (s.closeDrop n k)
      | .grant x sub => some (s.grantDrop n c k x sub)
      | .hold => none := by
  cases choice : s.dropChoice c k <;> simp only [State.tryHeld, hc, choice]

theorem State.tryHeld_take {k : Nat} {x : Side} {e : Entry} (passes : s.takePasses k x = true)
    (head : s.head (inLaneOf k x) = some e) : s.tryHeld (.take k x) = some (s.grantTake k x e) := by
  simp only [State.tryHeld, passes, head]

theorem State.tryHeld_take_none {k : Nat} {x : Side} (fails : s.takePasses k x = false) : s.tryHeld (.take k x) = none := by
  simp only [State.tryHeld, fails]

theorem walkOver_skip (before rest : List HeldAsk) (still : ∀ a ∈ before, s.tryHeld a = none) :
    State.walkOver (before ++ rest) s = State.walkOver rest s := by
  induction before with
  | nil => rfl
  | cons a before ih =>
    simp only [List.cons_append, State.walkOver, still a (by simp)]
    exact ih fun b hb => still b (List.mem_cons_of_mem a hb)

theorem walkOver_acts (h : HeldAsk) (after : List HeldAsk) {t : State} (tried : s.tryHeld h = some t) :
    State.walkOver (h :: after) s = ((State.walkOver after t).1, true) := by
  simp only [State.walkOver, tried]

theorem walkOver_mark (l : List HeldAsk) : (State.walkOver l s).2 = false ↔ ∀ h ∈ l, s.tryHeld h = none := by
  induction l with
  | nil => simp [State.walkOver]
  | cons h l ih =>
    cases tried : s.tryHeld h with
    | none => simp only [State.walkOver, tried, ih, List.forall_mem_cons, true_and]
    | some t => simp [State.walkOver, tried]

theorem State.walk_of_run (run : s.mode = .run) : s.walk =
    if (State.walkOver s.handover.held s).2 = true then some (State.walkOver s.handover.held s).1 else none := by
  simp only [State.walk, run, if_true]
  generalize State.walkOver s.handover.held s = r
  rcases r with ⟨t, _ | _⟩ <;> rfl

theorem State.held_finishOrder (n : Nat) (final : Byte) (r : ReasonCode) (detail : Byte) :
    (s.finishOrder n final r detail).handover.held = s.handover.held.filter (fun h => !h.ofCard n) := by
  unfold State.finishOrder
  dsimp only
  split <;> simp

theorem State.held_tryHeld {h : HeldAsk} {t : State} (tried : s.tryHeld h = some t) :
    t.handover.held.Sublist s.handover.held := by
  unfold State.tryHeld at tried
  cases h with
  | drop k n tote =>
    cases hc : s.ctx n with
    | none => simp [hc] at tried
    | some c =>
      cases choice : s.dropChoice c k with
      | closed =>
        simp only [hc, choice, Option.some.injEq] at tried
        subst tried
        simp only [State.closeDrop, State.queueNode_frame, State.held_finishOrder]
        exact List.filter_sublist
      | hold => simp [hc, choice] at tried
      | grant x sub =>
        simp only [hc, choice, Option.some.injEq] at tried
        subst tried
        simp only [State.grantDrop, State.queueNode_frame]
        refine List.filter_sublist.trans ?_
        rw [State.held_setGrant]
        split <;> simp
  | take k x =>
    dsimp only at tried
    split at tried
    · cases tried
      simp only [State.grantTake, State.queueNode_frame, State.held_dropHeld]
      refine List.filter_sublist.trans ?_
      rw [State.held_setGrant]
      split <;> simp
    · cases tried

theorem held_walkOver (l : List HeldAsk) : (State.walkOver l s).1.handover.held.Sublist s.handover.held := by
  induction l generalizing s with
  | nil => exact List.Sublist.refl _
  | cons h l ih =>
    cases tried : s.tryHeld h with
    | none => simp only [State.walkOver, tried]; exact ih s
    | some t =>
      simp only [State.walkOver, tried]
      exact (ih t).trans (s.held_tryHeld tried)

end

/-! ### DropSideChoice -/

/-- Settles O38: the side choice is a table over what it asks of the sides; a held ask is tried by it or by the test of a take; and
the walk tries the asks from the oldest. -/
theorem dropSideChoice : Obligations.DropSideChoice := by
  refine ⟨fun s c k => ?choice, fun s k => ⟨fun n c tote hc => ?tried, fun x => s.takePasses_iff k x,
    fun x e passes head => s.tryHeld_take passes head, fun x fails => s.tryHeld_take_none fails⟩, fun s => ?walk⟩
  case choice =>
    intro can candidate
    have candidates (x : Side) : candidate x ↔
        isCandidate c.pref (s.canEverAdmit (outLane k .a)) (s.canEverAdmit (outLane k .b)) x = true := by
      simp only [candidate, can]
      cases x <;> simp [isCandidate] <;> tauto
    refine ⟨fun x => s.passesNow_iff c k x, ?_, ?_, fun x sub granted => ?_⟩
    · rw [State.dropChoice_eq, chooseSide_closed]
      simp [can]
    · rw [State.dropChoice_eq, chooseSide_hold]
      simp only [candidates]
      exact and_congr_right fun _ => ⟨fun ⟨a, b⟩ x => by cases x <;> assumption, fun both => ⟨both .a, both .b⟩⟩
    · rw [State.dropChoice_eq] at granted
      rw [candidates]
      have zones (any : c.pref = .any) (canA : can .a) (canB : can .b) (passA : s.passesNow c k .a = true)
          (passB : s.passesNow c k .b = true) : x = .b ↔ s.zoneCount .b < s.zoneCount .a := by
        simp only [can] at canA canB
        rw [any, canA, canB, passA, passB] at granted
        simpa using chooseSide_any x granted
      cases x with
      | a =>
        obtain ⟨ever, stands, passes⟩ := chooseSide_grant_a granted
        obtain ⟨substituted, other⟩ := chooseSide_substitutes_a granted
        exact ⟨ever, stands, passes, by simp [substituted], by simp, fun prefers _ => by simp [can, other prefers], zones⟩
      | b =>
        obtain ⟨ever, stands, passes⟩ := chooseSide_grant_b granted
        obtain ⟨substituted, other⟩ := chooseSide_substitutes_b granted
        exact ⟨ever, stands, passes, by simp [substituted], fun prefers _ => by simp [can, other prefers], by simp, zones⟩
  case tried => exact (s.tryHeld_drop hc k tote).trans (by cases s.dropChoice c k <;> rfl)
  case walk =>
    refine ⟨fun still => if_neg still, fun run => ?_, fun before h after t run split still tried => ?_, fun h hs => ?_,
      fun t walked => ?_⟩
    · rw [s.walk_of_run run, ← walkOver_mark]
      cases (State.walkOver s.handover.held s).2 <;> simp
    · rw [s.walk_of_run run, split, walkOver_skip s before _ still, walkOver_acts s h after tried]
      rfl
    · rfl
    · have run : s.mode = .run := by
        by_contra still
        rw [State.walk, if_neg still] at walked
        cases walked
      rw [s.walk_of_run run] at walked
      split at walked
      · cases walked
        exact held_walkOver s _
      · cases walked

end Sys2Proof.Machine
end

section
/-! PROOF. The place map's records after a change of one place, and a drop: its ask and its end (R74–R80; the statements
DropAskTaken and DropEnds). -/

namespace Sys2Proof.Machine

/-! ### The changed place (R2–R9) -/

section
variable (s : State) {p : Nat} (hp : p < 169)

@[simp] theorem State.place_queueNode (k : Nat) (c : ChainCmd) (r : Nat) : (s.queueNode k c).place r = s.place r :=
  State.place_eq_of_places (by simp) r

@[simp] theorem State.place_setGrant (k : Nat) (g : Option Grant) (r : Nat) : (s.setGrant k g).place r = s.place r :=
  State.place_eq_of_places (by simp) r

include hp

theorem State.place_arriveReserved_self (e : Entry) : (s.arriveReserved p e).place p =
    s.retimed p { s.place p with entries := s.entries p ++ [e], res := (s.place p).res - 1 } := by
  rw [State.arriveReserved, State.place_afterReservation, State.place_tellAll, s.place_setPlace_self _ hp]

theorem State.place_reserve_self : (s.reserve p).place p = s.retimed p { s.place p with res := (s.place p).res + 1 } :=
  s.place_setPlace_self _ hp

theorem State.place_lockLane_self (l : Lock) : (s.lockLane p l).place p = s.retimed p { s.place p with lock := l } :=
  s.place_setPlace_self _ hp

theorem State.place_unlockLane_self : (s.unlockLane p).place p = s.retimed p { s.place p with lock := .none } := by
  rw [State.unlockLane, State.place_tellAll, s.place_setPlace_self _ hp]

theorem State.place_depart_self : (s.depart p).place p = s.retimed p { s.place p with entries := (s.entries p).tail } := by
  have same : (s.depart p).place p = (s.setPlace p { s.place p with entries := (s.entries p).tail }).place p := by
    refine State.place_eq_of_places ?_ p
    unfold State.depart
    dsimp only
    split <;> simp
  rw [same, s.place_setPlace_self _ hp]

omit hp

variable {r : Nat} (ne : p ≠ r)
include ne

theorem State.place_arriveReserved_ne (e : Entry) : (s.arriveReserved p e).place r = s.place r := by
  rw [State.arriveReserved, State.place_afterReservation, State.place_tellAll, s.place_setPlace_ne _ ne]

theorem State.place_reserve_ne : (s.reserve p).place r = s.place r := s.place_setPlace_ne _ ne

theorem State.place_lockLane_ne (l : Lock) : (s.lockLane p l).place r = s.place r := s.place_setPlace_ne _ ne

theorem State.place_unlockLane_ne : (s.unlockLane p).place r = s.place r := by
  rw [State.unlockLane, State.place_tellAll, s.place_setPlace_ne _ ne]

theorem State.place_depart_ne : (s.depart p).place r = s.place r := by
  have same : (s.depart p).place r = (s.setPlace p { s.place p with entries := (s.entries p).tail }).place r := by
    refine State.place_eq_of_places ?_ r
    unfold State.depart
    dsimp only
    split <;> simp
  rw [same, s.place_setPlace_ne _ ne]

end

/-! ### The state in which a report is handed over (R143, R145) -/

theorem outLane_lt {k : Nat} (high : k ≤ 40) (x : Side) : outLane k x < 160 := by
  cases x <;> simp only [outLane, laneOf] <;> simp <;> omega

theorem inLaneOf_lt {k : Nat} (high : k ≤ 40) (x : Side) : inLaneOf k x < 160 := by
  cases x <;> simp only [inLaneOf, laneOf] <;> simp <;> omega

/-- A report taken in its order: all but the chain stands as it was, and the level's node is ALIVE. -/
structure Handed (s v : State) (k : Nat) : Prop where
  low : 1 ≤ k
  high : k ≤ 40
  alive : v.alive k = true
  mode : v.mode = s.mode
  board : v.board = s.board
  conditions : v.conditions = s.conditions
  contexts : v.contexts = s.contexts
  places : v.places = s.places
  release : v.release = s.release
  handover : v.handover = s.handover
  lifts : v.lifts = s.lifts
  store : v.store = s.store

theorem InOrder.handed {s : State} {p : Port} {level : Byte} {number : BitVec 4} (order : InOrder s p level number) :
    Handed s (s.handed p level.toNat number) level.toNat := by
  obtain ⟨low, high⟩ := s.level_of_alive order.alive
  have begun := s.begin_of_reported order.reported
  have node : (s.handed p level.toNat number).node level.toNat =
      { s.node level.toNat with unanswered := 0, expected := some (number + 1) } := by
    rw [State.handed, State.node_updateNode_self _ low high, State.node_answered_self, State.node_begin]
  refine ⟨low, high, ?_, ?_, ?_, ?_, ?_, ?_, ?_, ?_, ?_, ?_⟩
  · rw [State.alive, node]; exact order.alive
  all_goals simp [State.handed, begun]

section
variable {s v : State} {k : Nat} (h : Handed s v k)
include h

theorem Handed.place (q : Nat) : v.place q = s.place q := State.place_eq_of_places h.places q
theorem Handed.entries (q : Nat) : v.entries q = s.entries q := congrArg Place.entries (h.place q)
theorem Handed.ctx (n : Nat) : v.ctx n = s.ctx n := State.ctx_congr _ h.contexts n
theorem Handed.grant (j : Nat) : v.grant j = s.grant j := State.grant_congr _ (by rw [h.handover]) j
theorem Handed.cond (j : Nat) : v.cond j = s.cond j := State.cond_congr h.conditions j
theorem Handed.stamp : v.stamp = s.stamp := State.stamp_congr (by rw [h.board])
theorem Handed.grantLimit : v.grantLimit = s.grantLimit := by simp only [State.grantLimit, State.profileByte, h.store]

/-- Removing the level's held ask touches the held asks and the held card's phase alone (R84). -/
theorem Handed.dropHeld : Handed { s with handover := (v.dropHeld k).handover, contexts := (v.dropHeld k).contexts } (v.dropHeld k) k := by
  refine ⟨h.low, h.high, ?_, ?_, ?_, ?_, rfl, ?_, ?_, rfl, ?_, ?_⟩
  · rw [State.alive, State.node_congr (s := v) (by simp)]; exact h.alive
  · simp [h.mode]
  · simp [h.board]
  · simp [h.conditions]
  · simp [h.places]
  · simp [h.release]
  · simp [h.lifts]
  · simp [h.store]

theorem Handed.served : (v.node k).state = .alive ∨ (v.node k).state = .seeking := .inl (v.state_of_alive h.alive)

end

/-! ### A drop is asked for (R74–R78) -/

section
variable (s : State) {n : Nat} {c : Context} {k : Nat}

/-- The end of an order that fails because neither lane of its level can ever take a tote (R75). -/
theorem State.closeDrop_spec (hc : s.ctx n = some c) (served : (s.node k).state = .alive ∨ (s.node k).state = .seeking) :
    ((s.closeDrop n k).node k).queue = (s.node k).queue ++ [.dropRefuse .levelClosed] ∧ (s.closeDrop n k).ctx n = none ∧
      (s.closeDrop n k).cardState n = cardFailed ∧ (s.closeDrop n k).cardByte n 32 = 0x0B ∧
      (s.closeDrop n k).cardByte n 33 = byteOf k := by
  have slot := s.ctx_lt n c hc
  obtain ⟨-, -, gone, outcome, -⟩ := Machine.finishOrder s n c cardFailed .levelClosed (byteOf k) true slot hc
  have node : (s.finishOrder n cardFailed .levelClosed (byteOf k)).node k = s.node k := State.node_congr (by simp) k
  have board : (s.closeDrop n k).board = (s.finishOrder n cardFailed .levelClosed (byteOf k)).board := by simp [State.closeDrop]
  refine ⟨?_, ?_, ?_, ?_, ?_⟩
  · rw [State.closeDrop, State.node_queueNode_self _ (by rw [node]; exact served), node]
  · exact (State.ctx_congr _ (by simp [State.closeDrop]) n).trans gone
  · simp only [State.cardState, State.cardByte, board]; exact outcome.state
  · simp only [State.cardByte, board]; exact outcome.reason
  · simp only [State.cardByte, board]; exact outcome.detail

variable (x : Side) (sub : Bool)

/-- A drop that is granted, operation by operation (R78). -/
theorem State.grantDrop_spec (low : 1 ≤ k) (high : k ≤ 40) (hn : n < 128)
    (served : (s.node k).state = .alive ∨ (s.node k).state = .seeking) :
    let u := s.grantDrop n c k x sub
    (u.node k).queue = (s.node k).queue ++ [.dropGrant x c.tote] ∧
      u.ctx n = some { c with phase := .granted, side := some x, sideChanged := sub, bound := s.stamp } ∧
      (u.place (outLane k x)).lock = .shuttle ∧ (u.place (outLane k x)).res = (s.place (outLane k x)).res + 1 ∧
      u.entries (outLane k x) = s.entries (outLane k x) ∧
      u.grant k = some { kind := .drop, side := x, entry := .card n, tote := c.tote, timer := some (1000 * s.grantLimit) } ∧
      u.release.bound.get x = (if c.liveSeq = none then s.release.bound.get x else s.release.bound.get x ++ [n]) := by
  intro u
  have hp : outLane k x < 169 := by have := outLane_lt high x; omega
  have places : u.places = ((s.reserve (outLane k x)).lockLane (outLane k x) .shuttle).places := by
    simp only [u, State.grantDrop]
    split <;> simp
  have place : u.place (outLane k x) = ((s.reserve (outLane k x)).lockLane (outLane k x) .shuttle).place (outLane k x) :=
    State.place_eq_of_places places _
  rw [State.place_lockLane_self _ hp, State.place_reserve_self _ hp] at place
  have contexts : u.contexts = (s.setContext n
      (some { c with phase := .granted, side := some x, sideChanged := sub, bound := s.stamp })).contexts := by
    simp only [u, State.grantDrop, State.queueNode_frame]
    split <;> simp [State.setContext]
  have release : u.release.bound = if c.liveSeq = none then s.release.bound
      else s.release.bound.set x (s.release.bound.get x ++ [n]) := by
    simp only [u, State.grantDrop, State.queueNode_frame, Option.isSome_iff_ne_none]
    split <;> simp_all
  have grants : u.handover.grants = (s.setGrant k (some
      { kind := .drop, side := x, entry := .card n, tote := c.tote, timer := some (1000 * s.grantLimit) })).handover.grants := by
    obtain ⟨j, rfl⟩ := Nat.exists_eq_succ_of_ne_zero (by omega : k ≠ 0)
    simp only [u, State.grantDrop, State.queueNode_frame]
    split <;> simp [State.setGrant, State.setHeld, State.grantLimit, State.profileByte]
  have queued (t : State) (same : t.chain.nodes = s.chain.nodes) :
      ((t.queueNode k (.dropGrant x c.tote)).node k).queue = (s.node k).queue ++ [.dropGrant x c.tote] := by
    have node : t.node k = s.node k := State.node_congr same k
    rw [State.node_queueNode_self _ (by rw [node]; exact served), node]
  refine ⟨?_, ?_, ?_, ?_, ?_, ?_, ?_⟩
  · refine queued _ ?_
    dsimp only
    split <;> simp
  · rw [State.ctx_congr _ contexts, State.ctx_setContext_self _ _ _ hn]
  · rw [place]; simp
  · rw [place]; simp
  · rw [State.entries, place]; simp [State.entries]
  · rw [State.grant_congr _ grants, State.grant_setGrant_self _ low high]
  · rw [release]
    split
    · rfl
    · exact PerSide.get_set_self _ _ _

end

section
variable {v : State} {k : Nat} {tote : Word}

/-- The order a drop ask of level `k` names, once the level's held ask is gone (R74). -/
def State.asked (v : State) (k : Nat) (tote : Word) : Option Nat :=
  (v.dropHeld k).findOpen (fun c => c.kind == .retrieve && c.tote == tote && c.level == k)

theorem State.askDrop_none (unknown : v.asked k tote = none) : v.askDrop k tote =
    ((v.dropHeld k).queueNode k (.dropRefuse .noCard)).raise (srcLevel k) .noCardAsk (low1 tote) (low2 tote) := by
  unfold State.asked at unknown
  simp only [State.askDrop, unknown]

variable {n : Nat} {c : Context} (known : v.asked k tote = some n) (hc : (v.dropHeld k).ctx n = some c)
include known hc

theorem State.askDrop_duplicate (pending : c.phase ≠ .pending) (waiting : c.phase ≠ .held) :
    v.askDrop k tote = (v.dropHeld k).queueNode k (.dropRefuse .duplicate) := by
  unfold State.asked at known
  simp only [State.askDrop, known, hc, pending, waiting, or_self, if_false]

variable (asks : c.phase = .pending ∨ c.phase = .held)
include asks

theorem State.askDrop_closed (choice : (v.dropHeld k).dropChoice c k = .closed) :
    v.askDrop k tote = (v.dropHeld k).closeDrop n k := by
  unfold State.asked at known
  simp only [State.askDrop, known, hc, asks, if_true, choice]

theorem State.askDrop_grant {x : Side} {sub : Bool} (choice : (v.dropHeld k).dropChoice c k = .grant x sub) :
    v.askDrop k tote = (v.dropHeld k).grantDrop n c k x sub := by
  unfold State.asked at known
  simp only [State.askDrop, known, hc, asks, if_true, choice]

theorem State.askDrop_hold (choice : (v.dropHeld k).dropChoice c k = .hold) :
    v.askDrop k tote = ((v.dropHeld k).setHeld ((v.dropHeld k).handover.held ++ [.drop k n tote])).setContext n
      (some { c with phase := .held }) := by
  unfold State.asked at known
  simp only [State.askDrop, known, hc, asks, if_true, choice]

end

/-- Settles O37, by the order the ask names and its phase, and by the side choice. -/
theorem dropAskTaken : Obligations.DropAskTaken := by
  intro s p level number tote order k w u answers wanted
  have handed := order.handed
  have held := handed.dropHeld
  obtain ⟨low, high⟩ : 1 ≤ k ∧ k ≤ 40 := ⟨handed.low, handed.high⟩
  have served : (w.node k).state = .alive ∨ (w.node k).state = .seeking := held.served
  have stamp : w.stamp = s.stamp := State.stamp_congr (by rw [held.board])
  have queued (c : ChainCmd) : ((w.queueNode k c).node k).queue = (w.node k).queue ++ [c] := by
    rw [State.node_queueNode_self _ served]
  refine ⟨(reportsTaken (.dropAsk p level number tote) p level number s rfl).1 order, fun unknown => ?_,
    fun n c known hc => ⟨fun pending waiting => ?_, fun asks => ⟨fun choice => ?_, fun choice => ?_, fun x sub choice => ?_⟩⟩⟩
  · have does : u = _ := State.askDrop_none unknown
    refine ⟨?_, ?_⟩
    · simp only [answers, does]
      exact queued (.dropRefuse .noCard)
    · rw [does, State.cond_raise_self _ (by unfold srcLevel; omega), State.cond_congr (s := w) (by simp [w]),
        State.stamp_congr (s := w) (by simp [w]), stamp]
      rfl
  · have does : u = _ := State.askDrop_duplicate known hc pending waiting
    refine ⟨?_, ?_⟩
    · simp only [answers, does]
      exact queued (.dropRefuse .duplicate)
    · rw [does]
      exact (State.ctx_congr w (by simp [w]) n).trans hc
  · have does : u = _ := State.askDrop_hold known hc asks choice
    exact ⟨by rw [does, State.ctx_setContext_self _ _ _ (State.ctx_lt _ _ _ hc)], by rw [does]; rfl⟩
  · have does : u = w.closeDrop n k := State.askDrop_closed known hc asks choice
    rw [does]
    simp only [answers, does]
    exact w.closeDrop_spec hc served
  · have does : u = w.grantDrop n c k x sub := State.askDrop_grant known hc asks choice
    obtain ⟨queue, ctx, lock, res, entries, grant, bound⟩ :=
      w.grantDrop_spec x sub (c := c) low high (State.ctx_lt _ _ _ hc) served
    rw [does]
    simp only [answers, does]
    refine ⟨queue, ?_, lock, ?_, ?_, ?_, ?_⟩
    · rw [ctx, stamp]
    · rw [res, show w.place _ = s.place _ from held.place _]
    · rw [entries, show w.entries _ = s.entries _ from held.entries _]
    · rw [grant, show w.grantLimit = s.grantLimit from held.grantLimit]
    · rw [bound, show w.release = s.release from held.release]

end Sys2Proof.Machine
end

section
/-! PROOF. The end of a drop, from a report or from a settlement (R31, R79, R80; the statement DropEnds). -/

namespace Sys2Proof.Machine

section
variable (s : State) (k : Nat) (g : Grant)

/-- A grant's report ends the open grant it names (R79–R83). -/
theorem State.grantReport_of_match {matchesGrant : Grant → Bool} (act : State → Grant → State) (grant : s.grant k = some g)
    (same : matchesGrant g = true) : s.grantReport k matchesGrant act = act s g := by
  simp only [State.grantReport, grant, same, if_true]

theorem State.grantReport_of_other {matchesGrant : Grant → Bool} (act : State → Grant → State)
    (other : ∀ g, s.grant k = some g → matchesGrant g = false) : s.grantReport k matchesGrant act = s := by
  unfold State.grantReport
  split
  · rfl
  · next g grant => rw [other g grant]; exact if_neg (by decide)

/-- A drop's lane and grant after it is done (R79). -/
def State.dropped : State := ((s.arriveReserved (g.lane k) g.entry).unlockLane (g.lane k)).setGrant k none

/-- A drop's lane and grant after it is aborted (R80). -/
def State.undropped : State := ((s.unreserve (g.lane k)).unlockLane (g.lane k)).setGrant k none

@[simp] theorem State.dropped_frame :
    (s.dropped k g).contexts = s.contexts ∧ (s.dropped k g).release = s.release ∧ (s.dropped k g).lifts = s.lifts ∧
    (s.dropped k g).conditions = s.conditions ∧ (s.dropped k g).board.clock = s.board.clock ∧
    (s.dropped k g).handover.held = s.handover.held := by
  simp [State.dropped]

@[simp] theorem State.undropped_frame :
    (s.undropped k g).contexts = s.contexts ∧ (s.undropped k g).release = s.release ∧ (s.undropped k g).lifts = s.lifts ∧
    (s.undropped k g).conditions = s.conditions ∧ (s.undropped k g).board.clock = s.board.clock ∧
    (s.undropped k g).handover.held = s.handover.held := by
  simp [State.undropped]

variable (lane : g.lane k < 160)

include lane in
theorem State.place_dropped : ((s.dropped k g).place (g.lane k)).lock = .none ∧
    ((s.dropped k g).place (g.lane k)).res = (s.place (g.lane k)).res - 1 ∧
    (s.dropped k g).entries (g.lane k) = s.entries (g.lane k) ++ [g.entry] ∧
    ∀ q, q ≠ g.lane k → (s.dropped k g).place q = s.place q := by
  have hp : g.lane k < 169 := by omega
  have place : (s.dropped k g).place (g.lane k) = _ :=
    (State.place_setGrant _ k none _).trans (State.place_unlockLane_self _ hp)
  rw [State.place_arriveReserved_self _ hp] at place
  refine ⟨by rw [place]; simp, by rw [place]; simp, by rw [State.entries, place]; simp, fun q ne => ?_⟩
  rw [State.dropped, State.place_setGrant, State.place_unlockLane_ne _ (Ne.symm ne), State.place_arriveReserved_ne _ (Ne.symm ne)]

include lane in
theorem State.place_undropped : ((s.undropped k g).place (g.lane k)).lock = .none ∧
    ((s.undropped k g).place (g.lane k)).res = (s.place (g.lane k)).res - 1 ∧
    (s.undropped k g).entries (g.lane k) = s.entries (g.lane k) ∧
    ∀ q, q ≠ g.lane k → (s.undropped k g).place q = s.place q := by
  have hp : g.lane k < 169 := by omega
  have place : (s.undropped k g).place (g.lane k) = _ :=
    (State.place_setGrant _ k none _).trans (State.place_unlockLane_self _ hp)
  rw [State.place_unreserve_self _ hp] at place
  refine ⟨by rw [place]; simp, by rw [place]; simp, by rw [State.entries, place]; simp [State.entries], fun q ne => ?_⟩
  rw [State.undropped, State.place_setGrant, State.place_unlockLane_ne _ (Ne.symm ne), State.place_unreserve_ne _ (Ne.symm ne)]

/-- The card of a drop that is done stands in the lane (R31, R79). -/
def State.droppedCard (n : Nat) (c : Context) : State :=
  (s.dropped k g).setContext n (some { c with phase := .inLane, place := some (g.lane k), loaded := s.stamp })

theorem State.dropDone_foreign (foreign : g.entry = .foreign) : s.dropDone k g = s.dropped k g := by
  simp only [State.dropDone, foreign, State.dropped]

variable {n : Nat} {c : Context} (card : g.entry = .card n) (hc : s.ctx n = some c)

include hc in
theorem State.ctx_droppedCard (m : Nat) : (s.droppedCard k g n c).ctx m = if m = n then
    some { c with phase := .inLane, place := some (g.lane k), loaded := s.stamp } else s.ctx m := by
  split
  · next own => rw [own]; exact State.ctx_setContext_self _ _ _ (s.ctx_lt n c hc)
  · next other =>
    refine (State.ctx_setContext_ne _ _ _ _ (Ne.symm other)).trans (State.ctx_congr s (by simp) m)

include card hc

theorem State.dropDone_card : s.dropDone k g =
    if c.cancelRequested then (s.droppedCard k g n c).giveUp n true else s.droppedCard k g n c := by
  have ctx : (s.dropped k g).ctx n = some c := (State.ctx_congr s (by simp) n).trans hc
  have dropped : ((s.arriveReserved (g.lane k) (.card n)).unlockLane (g.lane k)).setGrant k none = s.dropped k g := by
    simp only [State.dropped, card]
  have carded : (s.dropped k g).updateContext n
      (fun c => { c with phase := .inLane, place := some (g.lane k), loaded := s.stamp }) = s.droppedCard k g n c := by
    simp only [State.updateContext, ctx, State.droppedCard]
  have now := s.ctx_droppedCard k g hc n
  rw [if_pos rfl] at now
  simp only [State.dropDone, card, dropped, carded, now]

theorem State.dropAbort_card : s.dropAbort k g =
    if c.cancelRequested then (s.undropped k g).finishOrder n cardCancelled .none 0x00
    else ((s.undropped k g).unbind n).setContext n
      (some { c with phase := .pending, side := none, sideChanged := false, bound := 0 }) := by
  have ctx : (s.undropped k g).ctx n = some c := (State.ctx_congr s (by simp) n).trans hc
  simp only [State.undropped] at ctx
  simp only [State.dropAbort, card, State.undropped, ctx]

end

section
variable (s : State) (k : Nat) (g : Grant)

/-- Whatever becomes of the card, the place map, the grants, the lifts and the conditions are those of the ended drop. -/
theorem State.dropDone_rest : (s.dropDone k g).places = (s.dropped k g).places ∧
    (s.dropDone k g).handover.grants = (s.dropped k g).handover.grants ∧ (s.dropDone k g).lifts = s.lifts ∧
    (s.dropDone k g).conditions = s.conditions := by
  unfold State.dropDone State.dropped
  dsimp only
  split
  · simp
  · next n card =>
    rw [card]
    split
    · simp
    · split <;> simp

theorem State.dropAbort_rest : (s.dropAbort k g).places = (s.undropped k g).places ∧
    (s.dropAbort k g).handover.grants = (s.undropped k g).handover.grants ∧ (s.dropAbort k g).lifts = s.lifts ∧
    (s.dropAbort k g).conditions = s.conditions := by
  unfold State.dropAbort State.undropped
  dsimp only
  split
  · simp
  · split
    · simp
    · split <;> simp

end

/-! ### DropEnds -/

theorem Grant.lane_of_isDrop {g : Grant} {x : Side} {tote : Word} (same : g.isDrop x tote = true) (k : Nat) :
    g.kind = .drop ∧ g.lane k = outLane k x := by
  simp only [Grant.isDrop, Bool.and_eq_true, beq_iff_eq] at same
  obtain ⟨⟨kind, side⟩, -⟩ := same
  exact ⟨kind, by simp only [Grant.lane, kind, side]⟩

section
variable {s v : State} {k : Nat} (h : Handed s v k) {g : Grant} (lane : g.lane k < 160)
include h lane

/-- What the end of a drop leaves of the lane, the grant and the rest (R79). -/
theorem Handed.dropDone : (v.dropDone k g).grant k = none ∧ ((v.dropDone k g).place (g.lane k)).lock = .none ∧
    ((v.dropDone k g).place (g.lane k)).res = (s.place (g.lane k)).res - 1 ∧
    (v.dropDone k g).entries (g.lane k) = s.entries (g.lane k) ++ [g.entry] ∧
    (∀ q, q ≠ g.lane k → (v.dropDone k g).place q = s.place q) ∧ (v.dropDone k g).lifts = s.lifts ∧
    (v.dropDone k g).conditions = s.conditions := by
  obtain ⟨places, grants, lifts, conditions⟩ := v.dropDone_rest k g
  obtain ⟨lock, res, entries, others⟩ := v.place_dropped k g lane
  have place := State.place_eq_of_places places
  refine ⟨?_, by rw [place, lock], by rw [place, res, h.place], ?_, fun q ne => by rw [place, others q ne, h.place],
    lifts.trans h.lifts, conditions.trans h.conditions⟩
  · rw [State.grant_congr _ grants, State.dropped, State.grant_setGrant_self _ h.low h.high]
  · rw [State.entries, place]
    exact entries.trans (by rw [h.entries])

/-- What an aborted drop leaves of the lane, the grant and the rest (R80). -/
theorem Handed.dropAbort : (v.dropAbort k g).grant k = none ∧ ((v.dropAbort k g).place (g.lane k)).lock = .none ∧
    ((v.dropAbort k g).place (g.lane k)).res = (s.place (g.lane k)).res - 1 ∧
    (v.dropAbort k g).entries (g.lane k) = s.entries (g.lane k) ∧
    (∀ q, q ≠ g.lane k → (v.dropAbort k g).place q = s.place q) ∧ (v.dropAbort k g).lifts = s.lifts ∧
    (v.dropAbort k g).conditions = s.conditions := by
  obtain ⟨places, grants, lifts, conditions⟩ := v.dropAbort_rest k g
  obtain ⟨lock, res, entries, others⟩ := v.place_undropped k g lane
  have place := State.place_eq_of_places places
  refine ⟨?_, by rw [place, lock], by rw [place, res, h.place], ?_, fun q ne => by rw [place, others q ne, h.place],
    lifts.trans h.lifts, conditions.trans h.conditions⟩
  · rw [State.grant_congr _ grants, State.undropped, State.grant_setGrant_self _ h.low h.high]
  · rw [State.entries, place]
    exact entries.trans (h.entries _)

omit lane
variable {n : Nat} {c : Context} (card : g.entry = .card n) (hc : s.ctx n = some c)
include card hc

/-- The card of a drop that is done, where nobody has asked for its cancellation (R31). -/
theorem Handed.dropDone_card (kept : c.cancelRequested = false) :
    (v.dropDone k g).ctx n = some { c with phase := .inLane, place := some (g.lane k), loaded := s.stamp } ∧
      (v.dropDone k g).release = s.release := by
  have hc' : v.ctx n = some c := (h.ctx n).trans hc
  have ctx := v.ctx_droppedCard k g hc' n
  rw [if_pos rfl, h.stamp] at ctx
  have does := v.dropDone_card k g card hc'
  rw [kept, if_neg (by decide)] at does
  rw [does]
  exact ⟨ctx, (v.dropped_frame k g).2.1.trans h.release⟩

/-- The card of a drop that is done and to be cancelled gives up its number and travels on (R31, R39). -/
theorem Handed.dropDone_cancelled (cancelled : c.cancelRequested = true) :
    ∃ w : State, v.dropDone k g = w.giveUp n true ∧ w.release = s.release ∧ (∀ m, m ≠ n → w.ctx m = s.ctx m) ∧
      w.ctx n = some { c with phase := .inLane, place := some (g.lane k), loaded := s.stamp } ∧
      (∀ q, c.seqState = .live → c.seq = some q → (v.dropDone k g).ctx n = some { c with
        phase := .inLane, place := some (g.lane k), loaded := s.stamp, seqState := .givenUp, demoted := true, demotedFlag := true }) ∧
      (c.seqState ≠ .live → (v.dropDone k g).ctx n = w.ctx n ∧ (v.dropDone k g).release = s.release) := by
  have hc' : v.ctx n = some c := (h.ctx n).trans hc
  have ctx := v.ctx_droppedCard k g hc'
  have own := ctx n
  rw [if_pos rfl, h.stamp] at own
  have does := v.dropDone_card k g card hc'
  rw [cancelled, if_pos rfl] at does
  have release : (v.droppedCard k g n c).release = s.release := (v.dropped_frame k g).2.1.trans h.release
  refine ⟨v.droppedCard k g n c, does, release, fun m other => ?_, own, fun q live number => ?_, fun dead => ?_⟩
  · rw [ctx m, if_neg other, h.ctx]
  · rw [does, State.ctx_giveUp own, if_pos rfl, if_pos ⟨live, by rw [number]; rfl⟩]
    simp
  · rw [does, State.giveUp_of_none own (.inl dead)]
    exact ⟨rfl, release⟩

/-- The card of an aborted drop waits again, bound to no side, or is cancelled (R31, R80). -/
theorem Handed.dropAbort_card :
    (c.cancelRequested = false →
      (v.dropAbort k g).ctx n = some { c with phase := .pending, side := none, sideChanged := false, bound := 0 } ∧
      n ∉ (v.dropAbort k g).release.bound.a ∧ n ∉ (v.dropAbort k g).release.bound.b) ∧
    (c.cancelRequested = true → (v.dropAbort k g).ctx n = none ∧ (v.dropAbort k g).cardState n = cardCancelled) := by
  have hc' : v.ctx n = some c := (h.ctx n).trans hc
  have slot := v.ctx_lt n c hc'
  rw [v.dropAbort_card k g card hc']
  refine ⟨fun kept => ?_, fun cancelled => ?_⟩
  · rw [kept, if_neg (by decide)]
    refine ⟨State.ctx_setContext_self _ _ _ slot, ?_, ?_⟩ <;> simp [State.unbind, State.unlist]
  · rw [cancelled, if_pos rfl]
    have ctx : (v.undropped k g).ctx n = some c := (State.ctx_congr v (by simp) n).trans hc'
    obtain ⟨-, -, gone, outcome, -⟩ := Machine.finishOrder (v.undropped k g) n c cardCancelled .none 0x00 true slot ctx
    exact ⟨gone, outcome.state⟩

end

/-- Settles O39, by the grant the report names and the card that was dropped. -/
theorem dropEnds : Obligations.DropEnds := by
  intro s p level number x tote order k lane v
  have h : Handed s v k := order.handed
  have doneRow := (reportsTaken (.dropDone p level number x tote) p level number s rfl).1 order
  have abortRow := (reportsTaken (.dropAbort p level number x tote) p level number s rfl).1 order
  refine ⟨fun g grant same => ?named, fun other => ?unnamed⟩
  case named =>
    have here : v.grant k = some g := (h.grant k).trans grant
    obtain ⟨-, where'⟩ := Grant.lane_of_isDrop same k
    have inside : g.lane k < 160 := by rw [where']; exact outLane_lt h.high x
    simp only [State.handReport] at doneRow abortRow
    rw [State.grantReport_of_match _ _ g _ here same] at doneRow abortRow
    refine ⟨?_, ?_⟩
    · obtain ⟨none, lock, res, entries, others, lifts, conditions⟩ := h.dropDone inside
      rw [where'] at lock res entries others
      refine ⟨doneRow, none, lock, res, entries, others, lifts, conditions, fun n c card hc kept => ?_,
        fun n c card hc cancelled => ?_⟩
      · have ends := h.dropDone_card card hc kept
        rwa [where'] at ends
      · have ends := h.dropDone_cancelled card hc cancelled
        rwa [where'] at ends
    · obtain ⟨none, lock, res, entries, others, lifts, conditions⟩ := h.dropAbort inside
      rw [where'] at lock res entries others
      exact ⟨abortRow, none, lock, res, entries, others, lifts, conditions, fun n c card hc => h.dropAbort_card card hc⟩
  case unnamed =>
    have no : ∀ g, v.grant k = some g → g.isDrop x tote = false := fun g grant => other g ((h.grant k).symm.trans grant)
    simp only [State.handReport] at doneRow abortRow
    rw [State.grantReport_of_other _ _ _ no] at doneRow abortRow
    exact ⟨doneRow, abortRow⟩

end Sys2Proof.Machine
end

section
/-! PROOF. A take: its ask, its grant and its end (R36, R81–R84; the statement TakeAskAndEnds). -/

namespace Sys2Proof.Machine

/-! ### The end of a take -/

section
variable (s : State) (k : Nat) (g : Grant)

/-- A take's lane and grant after it is done (R82). -/
def State.taken : State := ((s.depart (g.lane k)).unlockLane (g.lane k)).setGrant k none

/-- A take's lane and grant after it is aborted (R83). -/
def State.untaken : State := (s.unlockLane (g.lane k)).setGrant k none

@[simp] theorem State.taken_frame :
    (s.taken k g).contexts = s.contexts ∧ (s.taken k g).conditions = s.conditions ∧
    (s.taken k g).board.clock = s.board.clock ∧ (s.taken k g).handover.held = s.handover.held := by
  simp [State.taken]

@[simp] theorem State.untaken_frame :
    (s.untaken k g).contexts = s.contexts ∧ (s.untaken k g).conditions = s.conditions := by
  simp [State.untaken]

theorem State.place_taken (lane : g.lane k < 160) : ((s.taken k g).place (g.lane k)).lock = .none ∧
    (s.taken k g).entries (g.lane k) = (s.entries (g.lane k)).tail ∧
    ∀ q, q ≠ g.lane k → (s.taken k g).place q = s.place q := by
  have hp : g.lane k < 169 := by omega
  have place : (s.taken k g).place (g.lane k) = _ :=
    (State.place_setGrant _ k none _).trans (State.place_unlockLane_self _ hp)
  rw [State.place_depart_self _ hp] at place
  refine ⟨by rw [place]; simp, by rw [State.entries, place]; simp, fun q ne => ?_⟩
  rw [State.taken, State.place_setGrant, State.place_unlockLane_ne _ (Ne.symm ne), State.place_depart_ne _ (Ne.symm ne)]

theorem State.place_untaken (lane : g.lane k < 160) : ((s.untaken k g).place (g.lane k)).lock = .none ∧
    (s.untaken k g).entries (g.lane k) = s.entries (g.lane k) ∧
    ∀ q, q ≠ g.lane k → (s.untaken k g).place q = s.place q := by
  have hp : g.lane k < 169 := by omega
  have place : (s.untaken k g).place (g.lane k) = _ :=
    (State.place_setGrant _ k none _).trans (State.place_unlockLane_self _ hp)
  refine ⟨by rw [place]; simp, by rw [State.entries, place]; simp [State.entries], fun q ne => ?_⟩
  rw [State.untaken, State.place_setGrant, State.place_unlockLane_ne _ (Ne.symm ne)]

theorem State.takeDone_foreign (foreign : g.entry = .foreign) (read : Word) : s.takeDone k g read =
    (s.taken k g).raise (srcLevel k) .foreignStored (byteOf (g.lane k)) (low1 read) := by
  simp only [State.takeDone, foreign, State.taken]

theorem State.takeDone_card {n : Nat} {c : Context} (card : g.entry = .card n) (hc : s.ctx n = some c) (read : Word) :
    s.takeDone k g read = ((s.taken k g).setContext n
      (some { c with place := none, idMismatch := c.idMismatch || read != c.tote })).finishOrder n cardDone .none 0x00 := by
  have ctx : (s.taken k g).ctx n = some c := (State.ctx_congr s (by simp) n).trans hc
  simp only [State.taken] at ctx
  simp only [State.takeDone, card, State.taken, State.updateContext, ctx]

theorem State.takeAbort_card {n : Nat} {c : Context} (card : g.entry = .card n) (hc : s.ctx n = some c) :
    s.takeAbort k g = (s.untaken k g).setContext n (some { c with phase := .inLane }) := by
  have ctx : (s.untaken k g).ctx n = some c := (State.ctx_congr s (by simp) n).trans hc
  simp only [State.untaken] at ctx
  simp only [State.takeAbort, card, State.untaken, State.updateContext, ctx]

/-- Whatever becomes of the card, the place map and the grants are those of the ended take. -/
theorem State.takeDone_rest (read : Word) : (s.takeDone k g read).places = (s.taken k g).places ∧
    (s.takeDone k g read).handover.grants = (s.taken k g).handover.grants ∧
    (g.entry ≠ .foreign → (s.takeDone k g read).conditions = s.conditions) := by
  unfold State.takeDone State.taken
  dsimp only
  split
  · next foreign => simp [foreign]
  · simp

theorem State.takeAbort_rest : (s.takeAbort k g).places = (s.untaken k g).places ∧
    (s.takeAbort k g).handover.grants = (s.untaken k g).handover.grants ∧ (s.takeAbort k g).conditions = s.conditions := by
  unfold State.takeAbort State.untaken
  dsimp only
  split <;> simp

end

section
variable {s v : State} {k : Nat} (h : Handed s v k) {g : Grant} (lane : g.lane k < 160)
include h lane

/-- What the end of a take leaves of the lane and the grant (R82). -/
theorem Handed.takeDone (read : Word) : (v.takeDone k g read).grant k = none ∧
    ((v.takeDone k g read).place (g.lane k)).lock = .none ∧
    (v.takeDone k g read).entries (g.lane k) = (s.entries (g.lane k)).tail ∧
    (∀ q, q ≠ g.lane k → (v.takeDone k g read).place q = s.place q) := by
  obtain ⟨places, grants, -⟩ := v.takeDone_rest k g read
  obtain ⟨lock, entries, others⟩ := v.place_taken k g lane
  have place := State.place_eq_of_places places
  refine ⟨?_, by rw [place, lock], ?_, fun q ne => by rw [place, others q ne, h.place]⟩
  · rw [State.grant_congr _ grants, State.taken, State.grant_setGrant_self _ h.low h.high]
  · rw [State.entries, place]
    exact entries.trans (by rw [h.entries])

/-- What an aborted take leaves of the lane, the grant and the conditions (R83). -/
theorem Handed.takeAbort : (v.takeAbort k g).grant k = none ∧ ((v.takeAbort k g).place (g.lane k)).lock = .none ∧
    (v.takeAbort k g).entries (g.lane k) = s.entries (g.lane k) ∧
    (∀ q, q ≠ g.lane k → (v.takeAbort k g).place q = s.place q) ∧ (v.takeAbort k g).conditions = s.conditions := by
  obtain ⟨places, grants, conditions⟩ := v.takeAbort_rest k g
  obtain ⟨lock, entries, others⟩ := v.place_untaken k g lane
  have place := State.place_eq_of_places places
  refine ⟨?_, by rw [place, lock], ?_, fun q ne => by rw [place, others q ne, h.place], conditions.trans h.conditions⟩
  · rw [State.grant_congr _ grants, State.untaken, State.grant_setGrant_self _ h.low h.high]
  · rw [State.entries, place]
    exact entries.trans (h.entries _)

omit lane

/-- A FOREIGN tote stored is reported with the tote ID read (R82). -/
theorem Handed.takeDone_foreign (foreign : g.entry = .foreign) (read : Word) : (v.takeDone k g read).cond (srcLevel k) =
    (s.cond (srcLevel k)).raised .foreignStored (byteOf (g.lane k)) (read.extractLsb' 0 8) s.stamp := by
  have small : srcLevel k < 48 := by have := h.high; unfold srcLevel; omega
  have cond : (v.taken k g).cond (srcLevel k) = s.cond (srcLevel k) := (State.cond_congr (by simp) _).trans (h.cond _)
  have stamp : (v.taken k g).stamp = s.stamp := (State.stamp_congr (by simp)).trans h.stamp
  rw [v.takeDone_foreign k g foreign, State.cond_raise_self _ small, cond, stamp]
  rfl

variable {n : Nat} {c : Context} (card : g.entry = .card n) (hc : s.ctx n = some c)
include card hc

/-- The order of a stored card is done (R36, R40, R82). -/
theorem Handed.takeDone_card (read : Word) : (v.takeDone k g read).ctx n = none ∧ (v.takeDone k g read).cardState n = cardDone ∧
    (v.takeDone k g read).cardByte n 35 = resultFlags { c with idMismatch := c.idMismatch || read != c.tote } ∧
    (v.takeDone k g read).conditions = s.conditions := by
  have hc' : v.ctx n = some c := (h.ctx n).trans hc
  have slot := v.ctx_lt n c hc'
  have ends := Machine.finishOrder ((v.taken k g).setContext n
    (some { c with place := none, idMismatch := c.idMismatch || read != c.tote })) n _ cardDone .none 0x00 true slot
    (State.ctx_setContext_self _ _ _ slot)
  have conditions := (v.takeDone_rest k g read).2.2 (by rw [card]; exact fun e => nomatch e)
  have does := v.takeDone_card k g card hc' read
  rw [← does] at ends
  obtain ⟨-, -, gone, outcome, -⟩ := ends
  exact ⟨gone, outcome.state, outcome.flags, conditions.trans h.conditions⟩

theorem Handed.takeAbort_card : (v.takeAbort k g).ctx n = some { c with phase := .inLane } := by
  have hc' : v.ctx n = some c := (h.ctx n).trans hc
  rw [v.takeAbort_card k g card hc', State.ctx_setContext_self _ _ _ (v.ctx_lt n c hc')]

end

/-! ### A take is asked for (R81) -/

section
variable (s : State)

/-- Where no ask of the level is held, removing it changes nothing (R84). -/
theorem State.dropHeld_of_none {k : Nat} (none : ∀ h ∈ s.handover.held, h.level ≠ k) :
    (s.dropHeld k).contexts = s.contexts ∧ (s.dropHeld k).handover = s.handover := by
  have gone : s.handover.held.filter (fun h => h.level == k) = [] := by simpa [List.filter_eq_nil_iff] using none
  have kept : s.handover.held.filter (fun h => h.level != k) = s.handover.held := by
    simpa [List.filter_eq_self] using none
  unfold State.dropHeld
  rw [gone, kept]
  exact ⟨rfl, rfl⟩

theorem State.admitsDepartures_lane {t : State} {p : Nat} (lane : p < 160) (place : t.place p = s.place p)
    (alive : t.alive (laneLevel p) = s.alive (laneLevel p)) : t.admitsDepartures p = s.admitsDepartures p := by
  simp only [State.admitsDepartures, isLane, lane, decide_true, if_true, place, alive]

theorem laneLevel_inLaneOf {k : Nat} (low : 1 ≤ k) (x : Side) : laneLevel (inLaneOf k x) = k := by
  cases x <;> simp only [laneLevel, inLaneOf, laneOf] <;> simp <;> omega

/-- A take that is granted, operation by operation (R81). -/
theorem State.grantTake_spec {k : Nat} (low : 1 ≤ k) (high : k ≤ 40)
    (served : (s.node k).state = .alive ∨ (s.node k).state = .seeking) (unheld : ∀ h ∈ s.handover.held, h.level ≠ k) (x : Side)
    (e : Entry) :
    let u := s.grantTake k x e
    (u.place (inLaneOf k x)).lock = .shuttle ∧ u.entries (inLaneOf k x) = s.entries (inLaneOf k x) ∧
      u.grant k = some { kind := .take, side := x, entry := e, tote := s.toteOf e, timer := some (1000 * s.grantLimit) } ∧
      (u.node k).queue = (s.node k).queue ++ [.takeGrant x (s.toteOf e)] ∧
      ∀ n c, e = .card n → s.ctx n = some c → u.ctx n = some { c with phase := .taking } := by
  intro u
  let granted (t : State) : State := t.setGrant k
    (some { kind := .take, side := x, entry := e, tote := s.toteOf e, timer := some (1000 * s.grantLimit) })
  let locked := s.lockLane (inLaneOf k x) .shuttle
  let phased : State := match e with
    | .card n => locked.updateContext n (fun c => { c with phase := .taking })
    | .foreign => locked
  have does : u = ((granted phased).dropHeld k).queueNode k (.takeGrant x (s.toteOf e)) := rfl
  have frame : phased.places = locked.places ∧ phased.handover = s.handover ∧ phased.chain = s.chain := by
    simp only [phased]
    cases e <;> simp [locked]
  obtain ⟨places, handover, chain⟩ := frame
  have still : ∀ h ∈ (granted phased).handover.held, h.level ≠ k := by
    simp only [granted, State.held_setGrant, handover]
    exact unheld
  obtain ⟨contexts, handover'⟩ := State.dropHeld_of_none _ still
  have hp : inLaneOf k x < 169 := by have := inLaneOf_lt high x; omega
  have place : u.place (inLaneOf k x) = locked.place (inLaneOf k x) :=
    State.place_eq_of_places (by rw [does]; simp [granted, places]) _
  rw [State.place_lockLane_self _ hp] at place
  refine ⟨by rw [place]; simp, by rw [State.entries, place]; simp [State.entries], ?_, ?_, fun n c card hc => ?_⟩
  · have grants : u.handover.grants = (granted phased).handover.grants := by rw [does]; simp [handover']
    rw [State.grant_congr _ grants, State.grant_setGrant_self _ low high]
  · have node : ((granted phased).dropHeld k).node k = s.node k := State.node_congr (by simp [granted, chain]) k
    rw [does, State.node_queueNode_self _ (by rw [node]; exact served), node]
  · have same : u.contexts = phased.contexts := by rw [does]; simp [contexts, granted]
    have ctx : locked.ctx n = some c := (State.ctx_congr s (by simp [locked]) n).trans hc
    rw [State.ctx_congr _ same]
    subst card
    have carded : phased = locked.setContext n (some { c with phase := .taking }) := by
      simp only [phased, State.updateContext, ctx]
    rw [carded, State.ctx_setContext_self _ _ _ (s.ctx_lt n c hc)]

end

/-- A take that waits (R84). -/
theorem State.waitTake_spec (w : State) {k : Nat} (served : (w.node k).state = .alive ∨ (w.node k).state = .seeking) (x : Side) :
    let u := (w.setHeld (w.handover.held ++ [.take k x])).queueNode k (.takeWait x)
    u.handover.held = w.handover.held ++ [.take k x] ∧ (u.node k).queue = (w.node k).queue ++ [.takeWait x] ∧
      u.places = w.places ∧ u.handover.grants = w.handover.grants := by
  intro u
  refine ⟨by simp [u], ?_, by simp [u], by simp [u, State.setHeld]⟩
  have node : (w.setHeld (w.handover.held ++ [.take k x])).node k = w.node k := State.node_congr (by simp) k
  simp only [u]
  rw [State.node_queueNode_self _ (by rw [node]; exact served), node]

/-- Settles O40, by the test of a take and by the grant the report names. -/
theorem takeAskAndEnds : Obligations.TakeAskAndEnds := by
  intro s p level number x tote order k lane v w
  have h : Handed s v k := order.handed
  have doneRow := (reportsTaken (.takeDone p level number x tote) p level number s rfl).1 order
  have abortRow := (reportsTaken (.takeAbort p level number x) p level number s rfl).1 order
  refine ⟨?asked, fun g grant same => ?named, fun other => ?unnamed⟩
  case asked =>
    intro u may
    have held := h.dropHeld
    have served : (w.node k).state = .alive ∨ (w.node k).state = .seeking := held.served
    have unheld : ∀ a ∈ w.handover.held, a.level ≠ k := by
      simp only [w, State.held_dropHeld, List.mem_filter, bne_iff_ne]
      exact fun a member => member.2
    have level' : laneLevel lane = k := laneLevel_inLaneOf h.low x
    have admits : w.admitsDepartures lane = s.admitsDepartures lane :=
      s.admitsDepartures_lane (inLaneOf_lt h.high x) (held.place lane)
        (by rw [level']; exact held.alive.trans order.alive.symm)
    have passes : w.takePasses k x = true ↔ may ∧ s.entries lane ≠ [] := by
      rw [State.takePasses_iff, show w.admitsDepartures _ = _ from admits, show w.mode = s.mode from held.mode,
        show w.place _ = s.place _ from held.place _, show w.entries _ = s.entries _ from held.entries _,
        show w.grant k = s.grant k from (State.grant_congr v (by simp [w]) k).trans (h.grant k)]
      simp only [may, lane, and_assoc]
    have does : u = match w.takePasses k x, w.head lane with
      | true, some e => w.grantTake k x e
      | _, _ => (w.setHeld (w.handover.held ++ [.take k x])).queueNode k (.takeWait x) := rfl
    refine ⟨(reportsTaken (.takeAsk p level number x) p level number s rfl).1 order, fun e mayNow head => ?_, fun no => ?_⟩
    · have some : s.entries lane ≠ [] := fun empty => by rw [State.head, empty] at head; cases head
      have head' : w.head lane = .some e := (congrArg List.head? (held.entries lane)).trans head
      rw [passes.2 ⟨mayNow, some⟩, head'] at does
      obtain ⟨lock, entries, grant, queue, ctx⟩ := w.grantTake_spec h.low h.high served unheld x e
      rw [does]
      refine ⟨lock, ?_, ?_, queue, ctx⟩
      · rw [entries, show w.entries _ = s.entries _ from held.entries _]
      · rw [grant, show w.grantLimit = s.grantLimit from held.grantLimit]
    · have fails : w.takePasses k x = false := by
        rw [Bool.eq_false_iff, ne_eq, passes]
        rintro ⟨mayNow, some⟩
        exact no.elim (fun n => n mayNow) some
      rw [fails] at does
      have waits : u = (w.setHeld (w.handover.held ++ [.take k x])).queueNode k (.takeWait x) := does
      obtain ⟨asks, queue, places, grants⟩ := w.waitTake_spec served x
      rw [waits]
      refine ⟨asks, queue, places.trans held.places, grants.trans ?_⟩
      simp [w, h.handover]
  case named =>
    have here : v.grant k = some g := (h.grant k).trans grant
    have where' : g.lane k = lane := by
      simp only [Grant.isTake, Bool.and_eq_true, beq_iff_eq] at same
      simp only [Grant.lane, same.1, same.2, lane]
    have inside : g.lane k < 160 := by rw [where']; exact inLaneOf_lt h.high x
    simp only [State.handReport] at doneRow abortRow
    rw [State.grantReport_of_match _ _ g _ here same] at doneRow abortRow
    refine ⟨?_, ?_⟩
    · obtain ⟨none, lock, entries, others⟩ := h.takeDone inside tote
      rw [where'] at lock entries others
      refine ⟨doneRow, none, lock, entries, others, fun foreign => ?_, fun n c card hc => h.takeDone_card card hc tote⟩
      rw [← where']
      exact h.takeDone_foreign foreign tote
    · obtain ⟨none, lock, entries, others, conditions⟩ := h.takeAbort inside
      rw [where'] at lock entries others
      exact ⟨abortRow, none, lock, entries, others, conditions, fun n c card hc => h.takeAbort_card card hc⟩
  case unnamed =>
    have no : ∀ g, v.grant k = some g → g.isTake x = false := fun g grant => other g ((h.grant k).symm.trans grant)
    simp only [State.handReport] at doneRow abortRow
    rw [State.grantReport_of_other _ _ _ no] at doneRow abortRow
    exact ⟨doneRow, abortRow⟩

end Sys2Proof.Machine
end

section
/-! PROOF. A RESYNC-REPORT is taken (R151–R153; the statement ResyncReportTaken). -/

namespace Sys2Proof.Machine

/-! ### Which report answers which ask (R143, R151) -/

section
variable (s : State) {p : Port} {level : Byte} {number next : BitVec 4} {counts : LaneCounts} {held : Word} {last : LastEvent}

theorem State.resyncAt_asked {left : Nat} (asked : (s.chainPort p).exchange = some ⟨level.toNat, .command .resyncAsk number, left⟩) :
    s.resyncAt p level number next counts held last =
      s.commandAnswer p level.toNat number (fun t => t.resync level.toNat next counts held last) := by
  simp only [State.resyncAt, asked, and_self, if_true]

theorem State.resyncAt_unasked (no : ¬∃ left, (s.chainPort p).exchange = some ⟨level.toNat, .command .resyncAsk number, left⟩) :
    s.resyncAt p level number next counts held last = s := by
  unfold State.resyncAt
  split
  · next k c n left sent =>
    refine if_neg ?_
    rintro ⟨rfl, rfl, rfl⟩
    exact no ⟨left, sent⟩
  · rfl

end

/-! ### The settlement keeps the expected number -/

section
variable (s : State) (k : Nat) (g : Grant)

theorem State.dropDone_calm : (s.dropDone k g).calm = s.calm := by
  unfold State.dropDone
  dsimp only
  split
  · simp
  · split
    · simp
    · split <;> simp

theorem State.dropAbort_calm : (s.dropAbort k g).calm = s.calm := by
  unfold State.dropAbort
  dsimp only
  split
  · simp
  · split
    · simp
    · split <;> simp

theorem State.takeAbort_calm : (s.takeAbort k g).calm = s.calm := by
  unfold State.takeAbort
  dsimp only
  split <;> simp

theorem State.takeDone_nodes (read : Word) (j : Nat) :
    { (s.takeDone k g read).node j with queue := [] } = { s.node j with queue := [] } := by
  cases card : g.entry with
  | foreign =>
    have calm : (s.taken k g).calm = s.calm := by simp [State.taken]
    rw [s.takeDone_foreign k g card, State.node_congr (s := s.taken k g) (by simp)]
    exact State.node_of_calm calm j
  | card n =>
    refine State.node_of_calm ?_ j
    simp [State.takeDone, card]

/-- A settlement changes nothing of a node's record but its queue. -/
theorem State.settleGrant_nodes (r : Settlement) (j : Nat) :
    { (s.settleGrant k g r).node j with queue := [] } = { s.node j with queue := [] } := by
  cases r with
  | leftOpen => rfl
  | done =>
    simp only [State.settleGrant]
    split
    · exact State.node_of_calm (s.dropDone_calm k g) j
    · exact s.takeDone_nodes k g 0 j
  | aborted =>
    simp only [State.settleGrant]
    split
    · exact State.node_of_calm (s.dropAbort_calm k g) j
    · exact State.node_of_calm (s.takeAbort_calm k g) j

end

/-! ### A lane takes its count (R14, R153) -/

section
variable (s : State) (p count : Nat)

@[simp] theorem State.resyncLane_frame :
    (s.resyncLane p count).contexts = s.contexts ∧ (s.resyncLane p count).handover = s.handover ∧
    (s.resyncLane p count).release = s.release ∧ (s.resyncLane p count).lifts = s.lifts ∧
    (s.resyncLane p count).conditions = s.conditions ∧ (s.resyncLane p count).chain = s.chain := by
  unfold State.resyncLane
  dsimp only
  split
  · simp
  · split
    · split <;> simp
    · simp

theorem State.place_resyncLane_ne {q : Nat} (ne : q ≠ p) : (s.resyncLane p count).place q = s.place q := by
  unfold State.resyncLane
  dsimp only
  split
  · rfl
  · split
    · split
      · exact s.place_setStatus_ne _ (Ne.symm ne)
      · rfl
    · exact s.place_setPlace_ne _ (Ne.symm ne)

theorem State.resyncLane_unfitted (unfitted : (s.place p).fitted = false) : s.resyncLane p count = s := by
  simp [State.resyncLane, unfitted]

variable (fitted : (s.place p).fitted = true)
include fitted

theorem State.resyncLane_reserved (awaiting : (s.place p).awaiting = true) (res : (s.place p).res ≠ 0) : s.resyncLane p count = s := by
  simp [State.resyncLane, fitted, awaiting, res]

theorem State.place_resyncLane_rebuilt (hp : p < 169) (awaiting : (s.place p).awaiting = true) (res : (s.place p).res = 0) :
    (s.resyncLane p count).place p =
      s.retimed p { (s.place p).rebuilt count with awaiting := false, sensed := some count } := by
  simp only [State.resyncLane, fitted, awaiting, res, Bool.not_true, Bool.false_eq_true, if_false, if_true]
  exact s.place_setStatus_self _ hp

theorem State.place_resyncLane_sensed (hp : p < 169) (known : (s.place p).awaiting = false) :
    (s.resyncLane p count).place p = s.retimed p { s.place p with sensed := some count } := by
  simp only [State.resyncLane, fitted, known, Bool.not_true, Bool.false_eq_true, if_false]
  exact s.place_setPlace_self _ hp

end

/-- The level's lanes after a RESYNC-REPORT (R153). -/
def State.resyncLanes (s : State) (k : Nat) (counts : LaneCounts) : State :=
  (levelLanes k).foldl (fun t p => t.resyncLane p (laneCountOf p counts)) s

@[simp] theorem State.resyncLanes_frame (s : State) (k : Nat) (counts : LaneCounts) :
    (s.resyncLanes k counts).contexts = s.contexts ∧ (s.resyncLanes k counts).handover = s.handover ∧
    (s.resyncLanes k counts).release = s.release ∧ (s.resyncLanes k counts).lifts = s.lifts ∧
    (s.resyncLanes k counts).conditions = s.conditions ∧ (s.resyncLanes k counts).chain = s.chain := by
  unfold State.resyncLanes
  simpa only [Prod.mk.injEq] using foldl_view (fun t : State =>
    (t.contexts, t.handover, t.release, t.lifts, t.conditions, t.chain)) (fun t p => by simp) (levelLanes k) s

theorem State.place_resyncLanes (s : State) (k : Nat) (counts : LaneCounts) :
    (∀ q, q ∉ levelLanes k → (s.resyncLanes k counts).place q = s.place q) ∧
    ∀ q ∈ levelLanes k, ∃ w : State, w.place q = s.place q ∧
      (s.resyncLanes k counts).place q = (w.resyncLane q (laneCountOf q counts)).place q := by
  have each := foldl_each (read := State.place) (f := fun t p => t.resyncLane p (laneCountOf p counts)) (fun _ => ())
    (fun _ _ => rfl) (fun t p q ne => t.place_resyncLane_ne p _ ne) (levelLanes_nodup k) s
  exact ⟨each.1, fun q lane => let ⟨w, same, _, does⟩ := each.2 q lane; ⟨w, same, does⟩⟩

/-- What a RESYNC-REPORT makes of one lane of its level. -/
theorem State.lane_resyncLanes (s : State) {k q : Nat} {n : Byte} (low : 1 ≤ k) (high : k ≤ 40) (counts : LaneCounts)
    (pair : (q, n) ∈ [(outLane k .a, counts.outA), (inLaneOf k .a, counts.inA), (outLane k .b, counts.outB),
      (inLaneOf k .b, counts.inB)]) :
    let u := s.resyncLanes k counts
    ((s.place q).fitted = false → u.place q = s.place q) ∧
    ((s.place q).fitted = true → (s.place q).awaiting = true → (s.place q).res = 0 →
      u.entries q = List.replicate (min 2 n.toNat) .foreign ∧ (u.place q).lock = .none ∧ (u.place q).frozen = none ∧
      (u.place q).awaiting = false ∧ (u.place q).sensed = some (min 2 n.toNat)) ∧
    ((s.place q).fitted = true → (s.place q).awaiting = true → (s.place q).res ≠ 0 → u.place q = s.place q) ∧
    ((s.place q).fitted = true → (s.place q).awaiting = false →
      u.entries q = s.entries q ∧ (u.place q).res = (s.place q).res ∧ (u.place q).lock = (s.place q).lock ∧
      (u.place q).sensed = some (min 2 n.toNat)) := by
  obtain ⟨count, lane⟩ := laneCountOf_of_pair high counts pair
  have hp : q < 169 := by have := (levelLanes_spec low high lane).1; omega
  obtain ⟨w, same, does⟩ := (s.place_resyncLanes k counts).2 q lane
  rw [count] at does
  intro u
  have now : u.place q = (w.resyncLane q (min 2 n.toNat)).place q := does
  simp only [State.entries, now, ← same]
  refine ⟨fun unfitted => ?_, fun fitted awaiting res => ?_, fun fitted awaiting res => ?_, fun fitted known => ?_⟩
  · rw [w.resyncLane_unfitted q _ unfitted]
  · rw [w.place_resyncLane_rebuilt q _ fitted hp awaiting res]
    simp [Place.rebuilt]
  · rw [w.resyncLane_reserved q _ fitted awaiting res]
  · rw [w.place_resyncLane_sensed q _ fitted hp known]
    simp

/-! ### The settlement (R152) -/

/-- The state a RESYNC-REPORT finds: the node's next report number is known. -/
def State.told (s : State) (k : Nat) (next : BitVec 4) : State := s.updateNode k (fun nd => { nd with expected := some next })

/-- The state after the open grant has been settled. -/
def State.resettled (s : State) (k : Nat) (counts : LaneCounts) (held : Word) (last : LastEvent) : State :=
  match s.grant k with
  | none => s
  | some g => s.settleGrant k g (settlement g (s.entries (g.lane k)).length (laneCountOf (g.lane k) counts) held last)

theorem State.resync_eq (s : State) (k : Nat) (next : BitVec 4) (counts : LaneCounts) (held : Word) (last : LastEvent) :
    s.resync k next counts held last = ((s.told k next).resettled k counts held last).resyncLanes k counts := by
  unfold State.resync State.resettled State.resyncLanes State.told
  dsimp only <;> (split <;> simp_all)

theorem State.expected_resync (s : State) {k : Nat} (low : 1 ≤ k) (high : k ≤ 40) (next : BitVec 4) (counts : LaneCounts)
    (held : Word) (last : LastEvent) : ((s.resync k next counts held last).node k).expected = some next := by
  have node : ((s.resync k next counts held last).node k) = ((s.told k next).resettled k counts held last).node k :=
    State.node_congr (by rw [State.resync_eq]; simp) k
  have same : { ((s.told k next).resettled k counts held last).node k with queue := [] } = { (s.told k next).node k with queue := [] } := by
    unfold State.resettled
    split
    · rfl
    · exact State.settleGrant_nodes _ k _ _ k
  have expected := congrArg Node.expected same
  rw [node]
  refine (show _ = _ from expected).trans ?_
  rw [State.told, State.node_updateNode_self _ low high]

/-- The lane count a grant is settled by. -/
theorem laneCountOf_grant {k : Nat} (high : k ≤ 40) (g : Grant) (counts : LaneCounts) (n : Byte)
    (h : n = match g.kind, g.side with
      | .drop, .a => counts.outA | .take, .a => counts.inA | .drop, .b => counts.outB | .take, .b => counts.inB) :
    laneCountOf (g.lane k) counts = min 2 n.toNat := by
  refine (laneCountOf_of_pair (k := k) (n := n) high counts ?_).1
  cases kind : g.kind <;> cases side : g.side <;> simp [Grant.lane, kind, side, h]

theorem Grant.lane_lt {k : Nat} (high : k ≤ 40) (g : Grant) : g.lane k < 160 := by
  unfold Grant.lane
  split
  · exact outLane_lt high _
  · exact inLaneOf_lt high _

/-- How a settled grant leaves its lane (R152). -/
theorem Handed.settled {s v : State} {k : Nat} (h : Handed s v k) (g : Grant) (grant : s.grant k = some g) (r : Settlement) :
    let lane := g.lane k
    let w := v.settleGrant k g r
    (r = .leftOpen → w = v ∧ w.grant k = some g) ∧
    (r ≠ .leftOpen → w.grant k = none ∧ (w.place lane).lock = .none) ∧
    (r = .done → g.kind = .drop → w = v.dropDone k g ∧ w.entries lane = s.entries lane ++ [g.entry] ∧
      (w.place lane).res = (s.place lane).res - 1) ∧
    (r = .aborted → g.kind = .drop → w = v.dropAbort k g ∧ w.entries lane = s.entries lane ∧
      (w.place lane).res = (s.place lane).res - 1) ∧
    (r = .done → g.kind = .take → w = v.takeDone k g 0 ∧ w.entries lane = (s.entries lane).tail) ∧
    (r = .aborted → g.kind = .take → w = v.takeAbort k g ∧ w.entries lane = s.entries lane) := by
  have inside := g.lane_lt h.high
  obtain ⟨doneNone, doneLock, doneRes, doneEntries, -⟩ := h.dropDone inside
  obtain ⟨abortNone, abortLock, abortRes, abortEntries, -⟩ := h.dropAbort inside
  obtain ⟨takenNone, takenLock, takenEntries, -⟩ := h.takeDone inside 0
  obtain ⟨untakenNone, untakenLock, untakenEntries, -⟩ := h.takeAbort inside
  have here : v.grant k = some g := (h.grant k).trans grant
  intro lane w
  cases r with
  | leftOpen => exact ⟨fun _ => ⟨rfl, here⟩, by simp, by simp, by simp, by simp, by simp⟩
  | done => cases kind : g.kind with
    | drop =>
      have does : w = v.dropDone k g := by simp only [w, State.settleGrant, kind]
      rw [does]
      exact ⟨by simp, fun _ => ⟨doneNone, doneLock⟩, fun _ _ => ⟨rfl, doneEntries, doneRes⟩, by simp, by simp, by simp⟩
    | take =>
      have does : w = v.takeDone k g 0 := by simp only [w, State.settleGrant, kind]
      rw [does]
      exact ⟨by simp, fun _ => ⟨takenNone, takenLock⟩, by simp, by simp, fun _ _ => ⟨rfl, takenEntries⟩, by simp⟩
  | aborted => cases kind : g.kind with
    | drop =>
      have does : w = v.dropAbort k g := by simp only [w, State.settleGrant, kind]
      rw [does]
      exact ⟨by simp, fun _ => ⟨abortNone, abortLock⟩, by simp, fun _ _ => ⟨rfl, abortEntries, abortRes⟩, by simp, by simp⟩
    | take =>
      have does : w = v.takeAbort k g := by simp only [w, State.settleGrant, kind]
      rw [does]
      exact ⟨by simp, fun _ => ⟨untakenNone, untakenLock⟩, by simp, by simp, by simp, fun _ _ => ⟨rfl, untakenEntries⟩⟩

theorem Place.fields_of_untimed {q r : Place} (h : q.untimed = r.untimed) : q.entries = r.entries ∧ q.sensed = r.sensed := by
  have entries := congrArg Place.entries h
  have sensed := congrArg Place.sensed h
  exact ⟨entries, sensed⟩

/-- The state told the next number differs from the one the event began in by the chain alone. -/
theorem handed_told (s : State) {p : Port} {k : Nat} (alive : s.alive k = true) (number next : BitVec 4) :
    Handed s.begin ((s.begin.commandAnswered p k number).told k next) k := by
  obtain ⟨low, high⟩ := s.level_of_alive alive
  refine ⟨low, high, ?_, ?_, ?_, ?_, ?_, ?_, ?_, ?_, ?_, ?_⟩
  · rw [State.alive, State.told, State.node_updateNode_self _ low high, State.node_commandAnswered_self, State.node_begin]
    exact beq_iff_eq.2 ((Node.acked_state _ _).trans (s.state_of_alive alive))
  all_goals simp [State.told, State.commandAnswered]

/-- Settles O42, by the ask in progress and the node's state; then by how the open grant is settled. -/
theorem resyncReportTaken : Obligations.ResyncReportTaken := by
  refine ⟨fun s p level number next counts held last awake => ?answered,
    fun s p level number next counts held last left mode alive sent => ?taken⟩
  case answered =>
    intro k c asks popped
    have row : exec c s = s.live (fun t => t.resyncAt p level number next counts held last) := rfl
    refine ⟨fun no => exec_of_idle awake row (State.resyncAt_unasked { s with sent := [] } no), fun asked seeking => ?_,
      fun asked unalive unseeking => ?_⟩
    · obtain ⟨left, sent⟩ := asked
      have answers (t : State) (same : t.chain = s.chain) : t.resyncAt p level number next counts held last =
          t.commandAnswer p k number (fun t => t.resync k next counts held last) := by
        have port : t.chainPort p = s.chainPort p := State.chainPort_congr s (by rw [same]) (by rw [same]) p
        exact t.resyncAt_asked (by rw [port]; exact sent)
      obtain ⟨v, leads, node, others, port, asks', contexts, -, places⟩ := leads_of_seeking_command awake row answers seeking
      exact ⟨v, leads, node, others, port, asks', contexts,
        fun q => Place.fields_of_untimed (places q)⟩
    · obtain ⟨left, sent⟩ := asked
      refine exec_of_absent_command awake row ?_
      let u : State := { s with sent := [] }
      have does : u.resyncAt p level number next counts held last = _ := u.resyncAt_asked sent
      refine does.trans ?_
      rw [State.commandAnswer_eq]
      cases state : (u.node k).state <;> first | rfl | exact absurd state unalive | exact absurd state unseeking
  case taken =>
    intro k v u told
    have h : Handed s.begin told k := handed_told s alive number next
    have begun : s.begin.grant k = s.grant k := s.grant_begin k
    have does : u = (told.resettled k counts held last).resyncLanes k counts := v.resync_eq k next counts held last
    have leads : Leads (.resyncReport p level number next counts held last) s u := by
      have row := exec_leads (c := .resyncReport p level number next counts held last)
        (f := fun t => t.resyncAt p level number next counts held last) mode rfl
      rwa [s.begin.resyncAt_asked (by rw [State.chainPort_begin]; exact sent), State.commandAnswer_eq, State.node_begin,
        s.state_of_alive alive] at row
    refine ⟨leads, v.expected_resync h.low h.high next counts held last, told.resettled k counts held last, fun none => ?_, ?_⟩
    · simp only [State.resettled, h.grant, begun, none]
    · obtain ⟨contexts, handover, release, lifts, conditions, -⟩ := (told.resettled k counts held last).resyncLanes_frame k counts
      rw [← does] at contexts handover release lifts conditions
      refine ⟨contexts, handover, release, lifts, conditions, fun q n pair => ?_, fun q away => ?_, fun g grant => ?_⟩
      · rw [does]
        exact State.lane_resyncLanes _ h.low h.high counts pair
      · rw [does]
        exact (State.place_resyncLanes _ k counts).1 q (by simpa [levelLanes] using away)
      · intro lane count r
        have now : told.resettled k counts held last = told.settleGrant k g r := by
          have lane' : told.entries (g.lane k) = s.entries lane := by
            rw [h.entries]; simp [State.entries, lane]
          simp only [State.resettled, h.grant, begun, grant, lane', laneCountOf_grant h.high g counts count rfl, r] <;> rfl
        obtain ⟨left', ended, done, aborted, taken, untaken⟩ := h.settled g (begun.trans grant) r
        have entries (q : Nat) : s.begin.entries q = s.entries q := by simp [State.entries]
        rw [State.place_begin, entries] at done aborted
        rw [entries] at taken untaken
        have grants (j : Nat) : u.grant j = (told.settleGrant k g r).grant j := by
          rw [← now]; exact State.grant_congr _ (by rw [handover]) j
        rw [now, grants]
        exact ⟨left', ended, done, aborted, taken, untaken⟩

end Sys2Proof.Machine
end

section
/-! PROOF. The merge gate (3.7): its lines, the release it starts and the PASS that ends one (the statements MergeReleases and
PassEndsRelease). -/

namespace Sys2Proof.Machine

theorem Live.awake {s : State} (live : Live s) (quiet : s.wake = []) : Awake s := ⟨live.mode, quiet, live.reported⟩

/-! ### The end of a release (R66) -/

section
variable (s : State)

@[simp] theorem State.endRelease_frame :
    s.endRelease.contexts = s.contexts ∧ s.endRelease.conditions = s.conditions ∧ s.endRelease.board = s.board ∧
    s.endRelease.release.merge = .idle := by
  simp [State.endRelease, State.setRelease]

theorem State.passes_idle (idle : s.release.merge = .idle) : s.passes = s := by
  simp only [State.passes, idle]

theorem State.passes_foreign {x : Side} {timer : Timer} (releasing : s.release.merge = .releasing x .foreign timer) :
    s.passes = (s.raise srcMerge .foreignOut (foreignOut (s.release.exitRead.getD .unreadable)).1
      (foreignOut (s.release.exitRead.getD .unreadable)).2).endRelease := by
  simp only [State.passes, releasing]

theorem State.passes_card {x : Side} {n : Nat} {c : Context} {timer : Timer}
    (releasing : s.release.merge = .releasing x (.card n) timer) (hc : s.ctx n = some c) :
    s.passes = ((s.compareRead n c (s.release.exitRead.getD .unreadable)).passCard n c).endRelease := by
  simp only [State.passes, releasing, hc]

/-- The released card's record after the comparison with the read (R66, step 2). -/
def Context.compared (c : Context) (r : Read) : Context := { c with idMismatch := c.idMismatch || mismatched c r }

theorem State.compareRead_spec {n : Nat} {c : Context} (hc : s.ctx n = some c) (r : Read) :
    (s.compareRead n c r).ctx n = some (c.compared r) ∧ (s.compareRead n c r).board = s.board ∧
      (s.compareRead n c r).cond srcMerge = if mismatched c r then
        (s.cond srcMerge).raised .idMismatch (byteOf n) (readByte r) s.stamp else s.cond srcMerge := by
  unfold State.compareRead Context.compared
  split
  · next differs =>
    have carded : s.updateContext n (fun d => { d with idMismatch := true }) = s.setContext n (some { c with idMismatch := true }) := by
      simp only [State.updateContext, hc]
    rw [carded, differs, Bool.or_true]
    refine ⟨State.ctx_setContext_self _ _ _ (s.ctx_lt n c hc), rfl, ?_⟩
    rw [State.cond_raise_self _ (by decide)]
    rfl
  · next same =>
    rw [Bool.eq_false_iff.2 same, Bool.or_false]
    exact ⟨hc, rfl, rfl⟩

/-- What the finish of a released card writes (R33, R37). -/
theorem State.passCard_spec {n : Nat} {c d : Context} (hd : s.ctx n = some d) :
    let u := s.passCard n c
    u.ctx n = none ∧ u.board.finishList = s.board.finishList ++ [n] ∧ u.conditions = s.conditions ∧
      (c.kind = .retrieve → c.cancelRequested = false → u.cardState n = cardDone ∧ u.cardByte n 35 = resultFlags d) ∧
      (c.kind = .retrieve → c.cancelRequested = true →
        u.cardState n = cardCancelled ∧ u.cardByte n 35 = resultFlags { d with delivered := true }) ∧
      (∀ r detail, c.kind = .store → c.failure = some (r, detail) → u.cardState n = cardFailed ∧
        u.cardByte n 32 = reasonByte r ∧ u.cardByte n 33 = detail ∧ u.cardByte n 35 = resultFlags { d with returned := true }) := by
  intro u
  have slot := s.ctx_lt n d hd
  have updated (f : Context → Context) : s.updateContext n f = s.setContext n (some (f d)) := by
    simp only [State.updateContext, hd]
  have ends (e : Context) (final : Byte) (r : ReasonCode) (detail : Byte)
      (does : u = (s.setContext n (some e)).finishOrder n final r detail) :
      u.ctx n = none ∧ u.board.finishList = s.board.finishList ++ [n] ∧ u.conditions = s.conditions ∧
        CardOutcome u n final r detail ((e.side.map sideCode).getD 0x00) (resultFlags e) e.accepted e.bound s.stamp e.trip := by
    obtain ⟨-, -, gone, outcome, list, -, -, -, -, -, -, -, -, conditions, -⟩ :=
      Machine.finishOrder (s.setContext n (some e)) n e final r detail true slot (State.ctx_setContext_self _ _ _ slot)
    rw [← does] at gone outcome list conditions
    exact ⟨gone, list, conditions, outcome⟩
  have kept : s.setContext n (some d) = s := by
    have same : s.contexts.setIfInBounds n (some d) = s.contexts := by
      refine Vector.ext fun i hi => ?_
      rw [Vector.getElem_setIfInBounds]
      split
      · next own =>
        subst own
        have : (s.contexts[n]?).join = some d := hd
        simpa [hi] using this.symm
      · rfl
    simp only [State.setContext, same]
  cases kind : c.kind with
  | retrieve => cases cancel : c.cancelRequested with
    | false =>
      obtain ⟨gone, list, conditions, outcome⟩ := ends d cardDone .none 0x00 (by
        simp only [u, State.passCard, kind, cancel, Bool.false_eq_true, if_false, kept])
      exact ⟨gone, list, conditions, fun _ _ => ⟨outcome.state, outcome.flags⟩, by simp, by simp⟩
    | true =>
      obtain ⟨gone, list, conditions, outcome⟩ := ends { d with delivered := true } cardCancelled .none 0x00 (by
        simp only [u, State.passCard, kind, cancel, if_true, updated])
      exact ⟨gone, list, conditions, by simp, fun _ _ => ⟨outcome.state, outcome.flags⟩, by simp⟩
  | store =>
    obtain ⟨gone, list, conditions, outcome⟩ := ends { d with returned := true } cardFailed
      ((c.failure.map (·.1)).getD .none) ((c.failure.map (·.2)).getD 0x00) (by simp only [u, State.passCard, kind, updated])
    refine ⟨gone, list, conditions, by simp, by simp, fun r detail _ failed => ?_⟩
    rw [failed] at outcome
    exact ⟨outcome.state, outcome.reason, outcome.detail, outcome.flags⟩

end

/-- Settles O59, by the entry of the release in flight and the held read. -/
theorem passEndsRelease : Obligations.PassEndsRelease := by
  intro s live read u
  let v : State := { s with sent := [] }
  have begun : s.begin = v := live.begin_eq
  have does : u = v.passes := by rw [← begun]
  refine ⟨fun r quiet => ?reader, fun idle quiet => ?idle, exec_leads (f := State.passes) live.mode rfl, fun x timer releasing => ?foreign,
    fun x n c timer releasing hc => ?card⟩
  case reader =>
    exact exec_of_quiet (f := fun t => t.setRelease { t.release with exitRead := some r }) (live.awake quiet) rfl rfl
  case idle =>
    exact exec_of_idle (f := State.passes) (live.awake quiet) rfl (v.passes_idle idle)
  case foreign =>
    have eq : u = (v.raise srcMerge .foreignOut (foreignOut read).1 (foreignOut read).2).endRelease :=
      does.trans (v.passes_foreign releasing)
    obtain ⟨contexts, conditions, -, merge⟩ := (v.raise srcMerge .foreignOut (foreignOut read).1 (foreignOut read).2).endRelease_frame
    rw [← eq] at contexts conditions merge
    have cond : u.cond srcMerge = (s.cond srcMerge).raised .foreignOut (foreignOut read).1 (foreignOut read).2 s.stamp := by
      rw [State.cond_congr conditions, State.cond_raise_self _ (by decide)]
      rfl
    refine ⟨merge, contexts, cond.trans ?_⟩
    have bytes (r : Read) : (s.cond srcMerge).raised .foreignOut (foreignOut r).1 (foreignOut r).2 s.stamp =
        (s.cond srcMerge).raised .foreignOut (match r with | .tote t => t.extractLsb' 0 8 | .unreadable => 0x00)
          (match r with | .tote t => t.extractLsb' 8 8 | .unreadable => 0x00) s.stamp := by
      cases r <;> rfl
    exact bytes read
  case card =>
    intro differs c'
    have table (r : Read) : mismatched c r = match r with | .tote t => t != c.tote | .unreadable => true := by cases r <;> rfl
    have mismatch : mismatched c read = differs := table read
    have same : c.compared read = c' := by simp only [c', Context.compared, mismatch]
    obtain ⟨ctx, board, cond⟩ := v.compareRead_spec (n := n) (c := c) hc read
    rw [same] at ctx
    obtain ⟨gone, list, conditions, done, cancelled, failed⟩ := (v.compareRead n c read).passCard_spec (c := c) ctx
    have eq : u = ((v.compareRead n c read).passCard n c).endRelease := does.trans (v.passes_card releasing hc)
    obtain ⟨contexts, conditions', board', merge⟩ := ((v.compareRead n c read).passCard n c).endRelease_frame
    rw [← eq] at contexts conditions' board' merge
    have byte (i : Nat) : u.cardByte n i = ((v.compareRead n c read).passCard n c).cardByte n i := by
      simp only [State.cardByte, board']
    have state : u.cardState n = ((v.compareRead n c read).passCard n c).cardState n := byte 0
    refine ⟨merge, (State.ctx_congr _ contexts n).trans gone, ?_, ?_, fun kind kept => ?_, fun kind cancel => ?_,
      fun r d kind failure => ?_⟩
    · rw [board', list, board]
    · have byte (r : Read) : readByte r = match r with | .tote _ => 0x00 | .unreadable => 0x01 := by cases r <;> rfl
      rw [mismatch] at cond
      refine (State.cond_congr conditions' _).trans ((State.cond_congr conditions _).trans (cond.trans ?_))
      exact congrArg (fun b => if differs = true then (s.cond srcMerge).raised .idMismatch (byteOf n) b s.stamp
        else s.cond srcMerge) (byte read)
    · rw [state, byte]; exact done kind kept
    · rw [state, byte]; exact cancelled kind cancel
    · rw [state, byte, byte, byte]; exact failed r d kind failure

/-! ### A release starts (R62–R65) -/

section
variable (s : State)

theorem State.tryMerge_eq_some {t : State} (h : s.tryMerge = some t) :
    s.mode = .run ∧ s.release.merge = .idle ∧ s.lines.exitReady = true ∧
      ∃ x e, s.mergeChoice = some x ∧ s.offered x = some e ∧ t = s.releaseHead x e := by
  unfold State.tryMerge at h
  split at h
  · next ready =>
    obtain ⟨run, idle, asserted⟩ := ready
    refine ⟨run, idle, asserted, ?_⟩
    split at h
    · cases h
    · next x choice =>
      split at h
      · cases h
      · next e offers => exact ⟨x, e, choice, offers, (Option.some.inj h).symm⟩
  · cases h

theorem State.offersN_eq {x : Side} {e : Entry} (offers : s.offered x = some e) :
    s.offersN x = true ↔ s.headNumber e = some s.release.n := by
  simp only [State.offersN, offers, beq_iff_eq]

theorem State.offersUnsequenced_eq {x : Side} {e : Entry} (offers : s.offered x = some e) :
    s.offersUnsequenced x = true ↔ s.headNumber e = none := by
  simp only [State.offersUnsequenced, offers, Option.isNone_iff_eq_none]

/-- The rules of the choice (R64). -/
theorem State.mergeChoice_eq_some {x : Side} (choice : s.mergeChoice = some x) : s.offersN x = true ∨
    (s.offersUnsequenced x = true ∧ s.offersN .a = false ∧ s.offersN .b = false ∧
      (s.offersUnsequenced (otherSide x) = true → x = otherSide s.release.lastSide)) := by
  unfold State.mergeChoice at choice
  split at choice
  · next a => cases choice; exact .inl a
  · next notA =>
    split at choice
    · next b => cases choice; exact .inl b
    · next notB =>
      have quiet : s.offersN .a = false ∧ s.offersN .b = false := ⟨Bool.eq_false_iff.2 notA, Bool.eq_false_iff.2 notB⟩
      split at choice
      · next other =>
        cases choice
        exact .inr ⟨other, quiet.1, quiet.2, fun _ => rfl⟩
      · next notOther =>
        split at choice
        · next last =>
          cases choice
          exact .inr ⟨last, quiet.1, quiet.2, fun other => absurd other notOther⟩
        · cases choice

theorem State.mergeChoice_eq_none (none : s.mergeChoice = none) (x : Side) : s.offersN x = false ∧ s.offersUnsequenced x = false := by
  unfold State.mergeChoice at none
  split at none
  · cases none
  · next notA =>
    split at none
    · cases none
    · next notB =>
      split at none
      · cases none
      · next notOther =>
        split at none
        · cases none
        · next notLast =>
          simp only [Bool.not_eq_true] at notA notB notOther notLast
          cases last : s.release.lastSide <;> cases x <;> simp_all [otherSide]

theorem exitSpur_lt (x : Side) : exitSpur x < 169 := by cases x <;> decide

/-- The parts of the state that a released card's own change leaves. -/
@[simp] theorem State.releaseCard_merge (n : Nat) : (s.releaseCard n).places = s.places := by simp

theorem State.releaseCard_unsequenced {n : Nat} {c : Context} (hc : s.ctx n = some c) (none : c.liveSeq = none) :
    s.releaseCard n = s.setContext n (some { c with phase := .released, place := .none }) := by
  simp only [State.releaseCard, hc, none]

theorem State.releaseCard_sequenced {n : Nat} {c : Context} {q : Half} (hc : s.ctx n = some c) (live : c.liveSeq = some q) :
    s.releaseCard n = (((s.unlist n).setContext n
      (some { c with phase := .released, place := none, seqState := .consumed })).advance).tell .walk := by
  simp only [State.releaseCard, hc, live]

/-- The state in which the head has left the spur and its card is released. -/
def State.headReleased (s : State) (x : Side) : Entry → State
  | .card n => (s.depart (exitSpur x)).releaseCard n
  | .foreign => s.depart (exitSpur x)

theorem State.releaseHead_eq (x : Side) (e : Entry) : s.releaseHead x e = (s.headReleased x e).setRelease
    { (s.headReleased x e).release with merge := .releasing x e (some overdueLimit), exitRead := none, lastSide := x } := by
  cases e <;> rfl

theorem State.advance_release_congr {t : State} (release : t.release = s.release) (contexts : t.contexts = s.contexts)
    (store : t.store = s.store) : t.advance.release = s.advance.release := by
  simp only [State.advance_release, release, State.anyLive_congr contexts, State.stallLimit, State.profileByte, store]

variable {x : Side} {n : Nat} {c : Context}

theorem State.headReleased_sequenced (hc : s.ctx n = some c) {q : Half} (live : c.liveSeq = some q) :
    let consumed := (s.unlist n).setContext n (some { c with phase := .released, place := none, seqState := .consumed })
    (s.headReleased x (.card n)).release = consumed.advance.release ∧
      (s.headReleased x (.card n)).ctx n = some { c with phase := .released, place := none, seqState := .consumed } := by
  intro consumed
  have hc' : (s.depart (exitSpur x)).ctx n = some c := (State.ctx_congr s (by simp) n).trans hc
  have release : (s.depart (exitSpur x)).unlist n = { s.depart (exitSpur x) with release := (s.unlist n).release } := by
    simp [State.unlist, State.setRelease]
  simp only [State.headReleased, State.releaseCard_sequenced _ hc' live, State.release_tell]
  refine ⟨State.advance_release_congr consumed ?_ ?_ ?_, ?_⟩
  · rw [release]; rfl
  · simp [consumed, State.setContext]
  · simp [consumed]
  · refine (State.ctx_congr (((s.depart (exitSpur x)).unlist n).setContext n
      (some { c with phase := .released, place := none, seqState := .consumed })) (by simp) n).trans ?_
    exact State.ctx_setContext_self _ _ _ (s.ctx_lt n c hc)

theorem State.headReleased_unsequenced (hc : s.ctx n = some c) (none : c.liveSeq = none) :
    (s.headReleased x (.card n)).release = s.release ∧
      (s.headReleased x (.card n)).ctx n = some { c with phase := .released, place := .none } := by
  have hc' : (s.depart (exitSpur x)).ctx n = some c := (State.ctx_congr s (by simp) n).trans hc
  simp only [State.headReleased, State.releaseCard_unsequenced _ hc' none]
  exact ⟨by simp, State.ctx_setContext_self _ _ _ (s.ctx_lt n c hc)⟩

theorem State.headReleased_places (x : Side) (e : Entry) : (s.headReleased x e).places = (s.depart (exitSpur x)).places := by
  cases e with
  | card n => exact State.releaseCard_merge _ n
  | foreign => rfl

/-- A number lifted out of the bound lists is in neither list after the advance. -/
theorem State.notBound_unlist_advance (n : Nat) (d : Option Context) :
    n ∉ (((s.unlist n).setContext n d).advance.release).bound.a ∧ n ∉ (((s.unlist n).setContext n d).advance.release).bound.b := by
  rw [State.advance_release]
  simp [State.unlist, State.setContext, State.setRelease]

theorem State.releaseHead_entries (x : Side) (e : Entry) :
    (s.releaseHead x e).entries (exitSpur x) = (s.entries (exitSpur x)).tail := by
  have same : (s.releaseHead x e).place (exitSpur x) = (s.depart (exitSpur x)).place (exitSpur x) := by
    rw [State.releaseHead_eq]
    exact State.place_eq_of_places (s.headReleased_places x e) _
  rw [State.entries, same, State.place_depart_self _ (exitSpur_lt x)]
  simp

/-- The released card's record (R33, R65). -/
theorem State.releaseHead_ctx {x : Side} {n : Nat} {c : Context} (hc : s.ctx n = some c) :
    (s.releaseHead x (.card n)).ctx n = some { c with
      phase := .released, place := none, seqState := if c.liveSeq = none then c.seqState else .consumed } := by
  rw [State.releaseHead_eq]
  change (s.headReleased x (.card n)).ctx n = _
  cases live : c.liveSeq with
  | none =>
    rw [if_pos rfl]
    exact (s.headReleased_unsequenced hc live).2
  | some q =>
    rw [if_neg (by simp)]
    exact (s.headReleased_sequenced hc live).2

theorem State.headReleased_kept {x : Side} {e : Entry}
    (unsequenced : ∀ n c, e = .card n → s.ctx n = some c → c.liveSeq = none) : (s.headReleased x e).release = s.release := by
  cases e with
  | foreign => exact (by simp : (s.depart (exitSpur x)).release = s.release)
  | card n =>
    cases hc : s.ctx n with
    | some c => exact (s.headReleased_unsequenced hc (unsequenced n c rfl hc)).1
    | none =>
      have gone : (s.depart (exitSpur x)).ctx n = none := (State.ctx_congr s (by simp) n).trans hc
      simp only [State.headReleased, State.releaseCard, gone]
      simp

theorem State.mergeChoice_offered {x : Side} (choice : s.mergeChoice = some x) : ∃ e, s.offered x = some e := by
  cases offers : s.offered x with
  | some e => exact ⟨e, rfl⟩
  | none => rcases s.mergeChoice_eq_some choice with own | ⟨own, -⟩ <;> simp [State.offersN, State.offersUnsequenced, offers] at own

end

/-- Settles O58, from the rules of the choice and the parts of a release. -/
theorem mergeReleases : Obligations.MergeReleases := by
  refine ⟨fun s => ⟨?asserted, fun reported quiet => ?deasserted⟩, fun s t tried => ?starts, fun s none run idle ready x e offers => ?waits⟩
  case asserted =>
    have row : exec (.exitReadyChange true) s =
        .next (({ s.begin with lines := { s.begin.lines with exitReady := true } } : State).tell .merge).resolved := rfl
    rw [s.lines_begin] at row
    exact row
  case deasserted =>
    have row : exec (.exitReadyChange false) s =
        .next ({ s.begin with lines := { s.begin.lines with exitReady := false } } : State).resolved := rfl
    rw [reported.begin] at row
    exact row.trans (congrArg Host.Outcome.next (State.resolved_quiet quiet))
  case starts =>
    obtain ⟨run, idle, ready, x, e, choice, offers, rfl⟩ := s.tryMerge_eq_some tried
    have started : (s.releaseHead x e).release =
        { (s.headReleased x e).release with merge := .releasing x e (some overdueLimit), exitRead := none, lastSide := x } := by
      rw [State.releaseHead_eq]
      rfl
    have gate (y : Side) : (s.releaseHead x e).gateDriven y = (x == y) := by simp only [State.gateDriven, started]
    refine ⟨run, idle, ready, x, e, offers, ?rule, by rw [started]; rfl, by rw [started], by rw [started],
      (gate x).trans (by simp), (gate (otherSide x)).trans (by cases x <;> rfl), s.releaseHead_entries x e,
      fun n c card hc => ?ctx, fun n c q card hc live => ?sequenced, fun unsequenced => ?kept⟩
    case rule =>
      refine (s.mergeChoice_eq_some choice).imp_right fun ⟨other, rest⟩ => ?_
      exact ⟨(s.offersUnsequenced_eq offers).1 other, rest⟩
    case ctx =>
      subst card
      exact s.releaseHead_ctx hc
    case sequenced =>
      subst card
      have own := (s.headReleased_sequenced (x := x) hc live).1
      rw [own] at started
      refine ⟨started, ?_⟩
      rw [started]
      exact s.notBound_unlist_advance n _
    case kept => rw [started, s.headReleased_kept unsequenced]; rfl
  case waits =>
    have choice : s.mergeChoice = .none := by
      cases choice : s.mergeChoice with
      | none => rfl
      | some y =>
        obtain ⟨d, offered⟩ := s.mergeChoice_offered choice
        simp [State.tryMerge, run, idle, ready, choice, offered] at none
    obtain ⟨notN, sequenced⟩ := s.mergeChoice_eq_none choice x
    cases number : s.headNumber e with
    | none => rw [(s.offersUnsequenced_eq offers).2 number] at sequenced; cases sequenced
    | some q => exact ⟨q, rfl, fun own => by rw [(s.offersN_eq offers).2 (own ▸ number)] at notN; cases notN⟩

end Sys2Proof.Machine
end

section
/-! PROOF. The place map's own events (R10–R13; the statement SpurCountAndMismatch). -/

namespace Sys2Proof.Machine

section
variable (s : State)

theorem spur_range (spur : Spur) : 160 ≤ spurPlace spur ∧ spurPlace spur < 164 := by cases spur <;> decide

/-- The mismatch timer at a spur (R11). -/
theorem State.mismatchEligible_spur {p : Nat} (low : 160 ≤ p) (high : p < 164) (q : Place) :
    s.mismatchEligible p q = true ↔
      s.hasProfile = true ∧ q.frozen = none ∧ q.lock = .none ∧ ∃ c, q.sensed = some c ∧ c ≠ q.entries.length := by
  have notLane : isLane p = false := by simp only [isLane, decide_eq_false_iff_not]; omega
  have spur : isSpur p = true := by simp only [isSpur, decide_eq_true_eq]; omega
  cases sensed : q.sensed <;>
    simp only [State.mismatchEligible, notLane, spur, sensed, Bool.and_eq_true, Option.isNone_iff_eq_none, beq_iff_eq, bne_iff_ne,
      Bool.false_eq_true, if_false, and_true, and_false, and_assoc, Option.some.injEq, exists_eq_left', reduceCtorEq,
      false_and, exists_false]

theorem State.retimed_eligible {p : Nat} {q : Place} (runs : s.mismatchEligible p q = true) :
    (s.retimed p q).mismatch = some (q.mismatch.getD (100 * s.senseGrace)) := by
  rw [State.retimed, if_pos runs]
  cases q.mismatch <;> rfl

theorem State.retimed_stopped {p : Nat} {q : Place} (stops : ¬s.mismatchEligible p q = true) : (s.retimed p q).mismatch = none := by
  rw [State.retimed, if_neg stops]

theorem State.retimed_frozen {p : Nat} {q : Place} {r : Freeze} (frozen : q.frozen = some r) : (s.retimed p q).mismatch = none :=
  s.retimed_stopped (by simp [State.mismatchEligible, frozen])

theorem State.place_freeze_self {p : Nat} (hp : p < 169) (r : Freeze) :
    (s.freeze p r).place p = s.retimed p { s.place p with frozen := some r } := by
  rw [State.freeze, ← State.place_setStatus_self _ _ hp]
  exact State.place_eq_of_places (by simp) p

theorem State.place_freeze_ne {p q : Nat} (ne : p ≠ q) (r : Freeze) : (s.freeze p r).place q = s.place q := by
  rw [State.freeze, ← State.place_setStatus_ne s { s.place p with frozen := some r } ne]
  exact State.place_eq_of_places (by simp) q

theorem srcPlace_lt {p : Nat} (hp : p < 164) : srcPlace p < 48 := by
  unfold srcPlace
  split
  · next lane =>
    simp only [isLane, decide_eq_true_eq] at lane
    simp only [srcLevel, laneLevel]
    omega
  · split <;> decide

theorem State.cond_freeze {p : Nat} (hp : p < 164) (r : Freeze) :
    (s.freeze p r).cond (srcPlace p) = (s.cond (srcPlace p)).raised .frozen (byteOf p) (freezeByte r) s.stamp := by
  rw [State.freeze, State.cond_raise_self _ (srcPlace_lt hp), State.cond_congr (s := s) (by simp),
    State.stamp_congr (s := s) (by simp)]

/-- What the expiry of a mismatch timer writes (R13). -/
theorem State.mismatchExpires_due {p : Nat} (hp : p < 164) (due : (s.place p).mismatch = some 0) :
    ((s.mismatchExpires p).place p).frozen = some .sense ∧
      (s.mismatchExpires p).entries p = s.entries p ++ List.replicate (s.missing p) .foreign ∧
      ((s.mismatchExpires p).place p).mismatch = none ∧ ((s.mismatchExpires p).place p).res = (s.place p).res ∧
      (s.mismatchExpires p).cond (srcPlace p) = (s.cond (srcPlace p)).raised .frozen (byteOf p) 0x01 s.stamp ∧
      ∀ q, q ≠ p → (s.mismatchExpires p).place q = s.place q := by
  have slot : p < 169 := by omega
  rw [State.mismatchExpires, if_pos due]
  simp only [State.entries, State.place_freeze_self _ slot, State.place_setPlace_self _ _ slot, State.cond_freeze _ hp]
  refine ⟨by simp, by simp, State.retimed_frozen _ rfl, by simp, ?_, fun q ne => ?_⟩
  · rw [State.cond_congr (s := s) (by simp), State.stamp_congr (s := s) (by simp)]
    rfl
  · rw [State.place_freeze_ne _ (Ne.symm ne), State.place_setPlace_ne _ _ (Ne.symm ne)]

theorem State.mismatchExpires_idle {p : Nat} (idle : (s.place p).mismatch ≠ some 0) : s.mismatchExpires p = s := by
  rw [State.mismatchExpires, if_neg idle]

/-- The appended entries leave the room of the reservations (R13, R4). -/
theorem State.missing_fits {p : Nat} (within : s.Within p) : (s.entries p).length + s.missing p + (s.place p).res ≤ capacity p := by
  simp only [State.Within, State.missing] at *
  omega

theorem State.within_of_le {t : State} {p : Nat} (within : s.Within p)
    (less : (t.entries p).length + (t.place p).res ≤ (s.entries p).length + (s.place p).res) : t.Within p :=
  Nat.le_trans less within

/-- A spur's count as its event takes it (R10, R11). -/
theorem State.senseSpur_spec (spur : Spur) {count : Nat} (small : count ≤ 3) :
    let p := spurPlace spur
    let differs := s.hasProfile = true ∧ (s.place p).frozen = none ∧ (s.place p).lock = .none ∧ count ≠ (s.entries p).length
    let t := s.senseSpur p count
    (t.place p).sensed = some count ∧
      (differs → (s.place p).mismatch = none → (t.place p).mismatch = some (100 * s.senseGrace)) ∧
      (∀ r, differs → (s.place p).mismatch = some r → (t.place p).mismatch = some r) ∧
      (¬differs → (t.place p).mismatch = none) ∧ t.entries p = s.entries p ∧ ∀ q, q ≠ p → t.place q = s.place q := by
  intro p differs t
  obtain ⟨low, high⟩ := spur_range spur
  have slot : p < 169 := by omega
  have own : t.place p = s.retimed p { s.place p with sensed := some count } := by
    have taken : min 3 count = count := by omega
    have does : t = s.setPlace p { s.place p with sensed := some count } := by
      simp only [t, State.senseSpur, taken]
    rw [does]
    exact s.place_setPlace_self _ slot
  have eligible : s.mismatchEligible p { s.place p with sensed := some count } = true ↔ differs := by
    rw [s.mismatchEligible_spur low high]
    simp only [Option.some.injEq, exists_eq_left']
    rfl
  rw [State.entries, own]
  refine ⟨by simp, fun d none => ?_, fun r d some => ?_, fun stays => s.retimed_stopped (stays ∘ eligible.1), by simp [State.entries],
    fun q ne => s.place_setPlace_ne _ (Ne.symm ne)⟩
  · rw [s.retimed_eligible (eligible.2 d), none]; rfl
  · rw [s.retimed_eligible (eligible.2 d), some]; rfl

end

/-- Settles O57, from the timer's rule at a spur and the record that each change leaves. -/
theorem spurCountAndMismatch : Obligations.SpurCountAndMismatch := by
  refine ⟨fun s live => ⟨fun spur count quiet small => ?count, fun p hp due => ?expiry, fun p quiet idle => ?early⟩,
    fun s p hp within => ?within, fun q p count hp small => ?rebuilt⟩
  case count =>
    let u : State := { s with
      sent := []
      lines := { s.lines with spurCounts := s.lines.spurCounts.setIfInBounds (spurPlace spur - 160) count } }
    have row : exec (.spurCountChange spur count) s = .next (u.senseSpur (spurPlace spur) count).resolved := by
      have e : exec (.spurCountChange spur count) s = execSpurCountChange spur count s := rfl
      have awake : ¬s.mode = .init := live.mode
      rw [e, execSpurCountChange, State.event, live.begin_eq]
      exact congrArg (fun v : State => Host.Outcome.next v.resolved) (if_neg awake)
    have untold : (u.senseSpur (spurPlace spur) count).wake = [] := (by simp [State.senseSpur] : _ = u.wake).trans quiet
    obtain ⟨sensed, starts, stays, stops, entries, others⟩ := u.senseSpur_spec spur small
    refine ⟨_, row.trans (congrArg Host.Outcome.next (State.resolved_quiet untold)), sensed, ?_, starts, stays, stops, entries,
      others, ?_, ?_⟩ <;> simp [State.senseSpur, u]
  case expiry =>
    obtain ⟨frozen, entries, stopped, -, raised, others⟩ := s.begin.mismatchExpires_due hp (by rw [State.place_begin]; exact due)
    refine ⟨exec_leads (f := fun t => t.mismatchExpires p) live.mode rfl, frozen, ?_, stopped, ?_, fun q ne => ?_⟩
    · rw [entries]
      simp only [State.missing, State.entries, State.place_begin]
    · rw [raised, live.begin_eq]; rfl
    · rw [others q ne, State.place_begin]
  case early =>
    exact exec_of_idle (f := fun t => t.mismatchExpires p) (live.awake quiet) rfl (State.mismatchExpires_idle _ idle)
  case within =>
    have slot : p < 169 := by omega
    refine ⟨?_, fun room => ?_, ?_, ?_, fun r => ?_, fun e reserved => ⟨?_, ?_, ?_⟩⟩
    · have begun : s.begin.Within p := by simpa only [State.Within, State.entries, State.place_begin] using within
      by_cases due : (s.begin.place p).mismatch = some 0
      · obtain ⟨-, entries, -, res, -⟩ := s.begin.mismatchExpires_due hp due
        rw [State.Within, entries, res, List.length_append, List.length_replicate]
        exact s.begin.missing_fits begun
      · rw [State.mismatchExpires_idle _ due]; exact begun
    · simp only [State.hasRoom, decide_eq_true_eq] at room
      rw [State.Within, State.entries, State.place_reserve_self _ slot]
      simpa [State.entries, ← Nat.add_assoc, Nat.succ_le_iff] using room
    · refine s.within_of_le within ?_
      simp only [State.entries, State.place_unreserve_self _ slot, State.retimed_frame]
      omega
    · refine s.within_of_le within ?_
      simp only [State.entries, State.place_depart_self _ slot, State.retimed_frame, List.length_tail]
      omega
    · refine s.within_of_le within ?_
      simp [State.entries, State.place_freeze_self _ slot]
    · refine s.within_of_le within ?_
      simp only [State.entries, State.place_arriveReserved_self _ slot, State.retimed_frame, List.length_append,
        List.length_singleton]
      omega
    · simp only [State.entries, State.place_arriveReserved_self _ slot, State.retimed_frame]
    · simp only [State.place_arriveReserved_self _ slot, State.retimed_frame]
      omega
  case rebuilt => exact ⟨by simpa [Place.rebuilt] using small, by simp [Place.rebuilt]⟩

end Sys2Proof.Machine
end

section
/-! PROOF. The entry unit (chapter 7): an arrival, the side choice at the divert, the reject try and the motions' ends (the statement
EntryEvents). -/

namespace Sys2Proof.Machine

/-! ### The divert's record -/

section
variable (s : State)

theorem State.updateContext_of_ctx {n : Nat} {c : Context} (hc : s.ctx n = some c) (f : Context → Context) :
    s.updateContext n f = s.setContext n (some (f c)) := by simp only [State.updateContext, hc]

theorem State.entries_setEntries_self {p : Nat} (hp : p < 169) (es : List Entry) : (s.setEntries p es).entries p = es := by
  rw [State.entries, State.setEntries, State.place_setPlace_self _ _ hp]
  simp

theorem State.place_setEntries_ne {p q : Nat} (ne : p ≠ q) (es : List Entry) : (s.setEntries p es).place q = s.place q :=
  s.place_setPlace_ne _ ne

theorem State.setDivert_places (e : Entry) : (s.setDivert e).places = (s.setEntries divert [e]).places := by
  cases e with
  | card n => rfl
  | foreign => exact State.places_tell _ _

theorem State.entries_setDivert (e : Entry) : (s.setDivert e).entries divert = [e] := by
  rw [State.entries, State.place_eq_of_places (s.setDivert_places e)]
  exact s.entries_setEntries_self (by decide) [e]

theorem State.reject_mem_setDivert : Retry.reject ∈ (s.setDivert .foreign).wake :=
  (State.mem_tell _ _ _).2 (.inr rfl)

/-! ### An arrival (R130, R131) -/

theorem State.foreignArrival_spec (c : Cond) (d1 d2 : Byte) :
    let u := s.foreignArrival c d1 d2
    u.entry = s.entry ∧ u.entries divert = [.foreign] ∧ u.contexts = s.contexts ∧ Retry.reject ∈ u.wake ∧
      u.cond srcEntry = (s.cond srcEntry).raised c d1 d2 s.stamp := by
  refine ⟨by simp [State.foreignArrival], s.entries_setDivert .foreign, by simp [State.foreignArrival], s.reject_mem_setDivert, ?_⟩
  rw [State.foreignArrival, State.cond_raise_self _ (by decide), State.cond_congr (s := s) (by simp),
    State.stamp_congr (s := s) (by simp)]

/-- The state in which an arrival is matched: the held read is taken. -/
def State.readTaken (s : State) : State := s.setEntry { s.entry with read := none }

theorem State.arrival_unmatched {t : Word} (read : s.entry.read = some (.tote t))
    (none : s.readTaken.findOpen (fun c => c.kind == .store && c.phase == .awaited && c.tote == t) = none) :
    s.arrival = s.readTaken.foreignArrival .noCard (low1 t) (low2 t) := by
  simp only [State.arrival, read]
  rw [show s.setEntry { s.entry with read := .none } = s.readTaken from rfl, none]

theorem State.arrival_matched {t : Word} {n : Nat} (read : s.entry.read = some (.tote t))
    (found : s.readTaken.findOpen (fun c => c.kind == .store && c.phase == .awaited && c.tote == t) = some n) :
    s.arrival = ((s.readTaken.setDivert (.card n)).updateContext n (fun c => { c with place := some divert })).tell .divert := by
  simp only [State.arrival, read]
  rw [show s.setEntry { s.entry with read := .none } = s.readTaken from rfl, found]

theorem State.arrival_unread (read : s.entry.read = none ∨ s.entry.read = some .unreadable) :
    s.arrival = s.readTaken.foreignArrival .unreadable 0x00 0x00 := by
  rcases read with read | read <;> simp only [State.arrival, read] <;> rfl

theorem State.matched_spec {n : Nat} {c : Context} (hc : s.ctx n = some c) :
    let u := ((s.setDivert (.card n)).updateContext n (fun c => { c with place := some divert })).tell .divert
    u.entry = s.entry ∧ u.entries divert = [.card n] ∧ u.ctx n = some { c with place := some divert } ∧
      u.conditions = s.conditions ∧ Retry.divert ∈ u.wake := by
  intro u
  have hc' : (s.setDivert (.card n)).ctx n = some c := (State.ctx_congr s (by simp) n).trans hc
  have does : u = ((s.setDivert (.card n)).setContext n (some { c with place := some divert })).tell .divert := by
    simp only [u, State.updateContext_of_ctx _ hc']
  rw [does]
  refine ⟨by simp [State.setContext], ?_, ?_, by simp [State.setContext], (State.mem_tell _ _ _).2 (.inr rfl)⟩
  · rw [State.entries, State.place_eq_of_places (State.places_tell _ _)]
    exact s.entries_setDivert (.card n)
  · refine (State.ctx_congr ((s.setDivert (.card n)).setContext n (some { c with place := some divert })) (by simp) n).trans ?_
    exact State.ctx_setContext_self _ _ _ (s.ctx_lt n c hc)

end

/-! ### The side choice at the divert (R132–R134) -/

/-- Side `x` is a candidate of the divert's choice with or without substitution (R132). -/
def servesAs (p : Pref) (canA canB : Bool) : Side → Bool → Bool
  | .a, sub => canA && (if sub then p == .b && !canB else p == .any || p == .a)
  | .b, sub => canB && (if sub then p == .a && !canA else p == .any || p == .b)

theorem servesAs_isCandidate {p : Pref} {canA canB sub : Bool} (x : Side) (serves : servesAs p canA canB x sub = true) :
    isCandidate p canA canB x = true := by
  cases x <;> cases p <;> revert canA canB sub <;> decide

theorem isCandidate_servesAs {p : Pref} {canA canB : Bool} (x : Side) (stands : isCandidate p canA canB x = true) :
    ∃ sub, servesAs p canA canB x sub = true := by
  cases x <;> cases p <;> revert canA canB <;> decide

theorem chooseSide_serves_a {p : Pref} {canA canB passB less sub : Bool} (serves : servesAs p canA canB .a sub = true)
    (second : isCandidate p canA canB .b = true → passB = true → less = false) :
    chooseSide p canA canB true passB less = .grant .a sub := by
  cases p <;> revert canA canB passB less sub <;> decide

theorem chooseSide_serves_b {p : Pref} {canA canB passA less sub : Bool} (serves : servesAs p canA canB .b sub = true)
    (second : isCandidate p canA canB .a = true → passA = true → less = true) :
    chooseSide p canA canB passA true less = .grant .b sub := by
  cases p <;> revert canA canB passA less sub <;> decide

section
variable (s : State)

/-- The divert's choice is the choice of a side among the inbound lanes and the entry spurs (R132, R133). -/
theorem State.divertChoice_eq {n : Nat} {c : Context} (head : s.head divert = some (.card n)) (hc : s.ctx n = some c)
    (idle : s.entry.motion = .idle) : s.divertChoice =
      match chooseSide c.pref (s.canEverAdmit (inLaneOf c.level .a)) (s.canEverAdmit (inLaneOf c.level .b))
        (s.spurTakes .a) (s.spurTakes .b)
        (decide ((s.entries (entrySpur .b)).length < (s.entries (entrySpur .a)).length)) with
      | .closed => some (s.closeDivert n c)
      | .hold => none
      | .grant x sub => some (s.moveDivert n c x sub) := by
  have can : (fun x : Side => s.canEverAdmit (inLaneOf c.level x)) = (fun x => match x with
      | .a => s.canEverAdmit (inLaneOf c.level .a) | .b => s.canEverAdmit (inLaneOf c.level .b)) := by
    funext x; cases x <;> rfl
  have pass : (fun x : Side × Bool => s.spurTakes x.1) =
      (fun x => match x.1 with | .a => s.spurTakes .a | .b => s.spurTakes .b) := by
    funext x; rcases x with ⟨x, b⟩; cases x <;> rfl
  simp only [State.divertChoice, head, idle, hc, can, pass, chooseSide]
  generalize candidates c.pref _ = cs
  cases cs with
  | nil => rfl
  | cons d ds =>
    simp only
    generalize List.filter _ (d :: ds) = taking
    rcases taking with _ | ⟨y, _ | ⟨z, zs⟩⟩
    · rfl
    · rfl
    · by_cases less : (s.entries (entrySpur .b)).length < (s.entries (entrySpur .a)).length <;> simp [less]

theorem State.divertChoice_none (blocked : s.entry.motion ≠ .idle ∨ ∀ n, s.head divert ≠ some (.card n)) :
    s.divertChoice = none := by
  unfold State.divertChoice
  split
  · next n head idle => rcases blocked with moves | other
                        · exact absurd idle moves
                        · exact absurd head (other n)
  · rfl

theorem State.spurTakes_iff (idle : s.entry.motion = .idle) (x : Side) : s.spurTakes x = true ↔
    s.mode = .run ∧ s.admitsArrivals (entrySpur x) = true ∧
      (s.entries (entrySpur x)).length + (s.place (entrySpur x)).res < 3 := by
  have room : capacity (entrySpur x) = 3 := by cases x <;> rfl
  simp only [State.spurTakes, State.hasRoom, room, idle, Bool.and_eq_true, beq_iff_eq, decide_eq_true_eq, and_true]
  tauto

/-- Giving up a card's number takes no one off the list of those told. -/
theorem State.mem_wake_voiding {r : Retry} (told : r ∈ s.wake) (x : Half) : r ∈ (s.voiding x).wake := by
  unfold State.voiding
  split
  · exact (State.mem_tellAll _ _ _).2 (.inl told)
  · split <;> exact told

theorem State.wake_restStall : s.restStall.wake = s.wake := by
  unfold State.restStall
  split <;> rfl

theorem State.mem_wake_giveUp {r : Retry} (told : r ∈ s.wake) (n : Nat) (stays : Bool) : r ∈ (s.giveUp n stays).wake := by
  unfold State.giveUp
  split
  · exact told
  · split
    · refine (State.mem_tellAll _ _ _).2 (.inl ?_)
      rw [State.wake_restStall]
      exact State.mem_wake_voiding _ (by exact told) _
    · exact told

theorem State.mem_wake_finishOrder {r : Retry} (told : r ∈ s.wake) {n : Nat} {c : Context} (hc : s.ctx n = some c) (final : Byte)
    (reason : ReasonCode) (d : Byte) : r ∈ (s.finishOrder n final reason d).wake := by
  rw [State.finishOrder_eq hc]
  exact State.mem_wake_giveUp (s.setHeld (s.handover.held.filter (fun h => !h.ofCard n))) told n false

/-- No side qualifies: the card fails and its tote becomes FOREIGN (R132). -/
theorem State.closeDivert_spec {n : Nat} {c : Context} (hc : s.ctx n = some c) :
    let u := s.closeDivert n c
    u.ctx n = none ∧ u.cardState n = cardFailed ∧ u.cardByte n 32 = 0x0B ∧ u.cardByte n 33 = byteOf c.level ∧
      u.board.finishList = s.board.finishList ++ [n] ∧ u.entries divert = [.foreign] ∧ Retry.reject ∈ u.wake ∧
      u.entry = s.entry ∧ u.cond srcEntry = (s.cond srcEntry).raised .levelClosed (byteOf c.level) (byteOf n) s.stamp := by
  intro u
  have hc' : (s.setDivert .foreign).ctx n = some c := (State.ctx_congr s (by simp) n).trans hc
  obtain ⟨-, -, gone, outcome, list, -⟩ := Machine.finishOrder (s.setDivert .foreign) n c cardFailed .levelClosed (byteOf c.level)
    true (s.ctx_lt n c hc) hc'
  refine ⟨gone, outcome.state, outcome.reason, outcome.detail, list.trans (by simp), ?_,
    State.mem_wake_finishOrder _ s.reject_mem_setDivert hc' _ _ _, by simp [u], ?_⟩
  · rw [← s.entries_setDivert .foreign]
    exact congrArg Place.entries (State.place_eq_of_places (by simp [u, State.closeDivert]) divert)
  · rw [show u = ((s.setDivert .foreign).finishOrder n cardFailed .levelClosed (byteOf c.level)).raise srcEntry .levelClosed
      (byteOf c.level) (byteOf n) from rfl, State.cond_raise_self _ (by decide), State.cond_congr (s := s) (by simp),
      State.stamp_congr (s := s) (by simp)]

theorem State.setMotion_mirrored (m : Motion) : (s.setMotion m).Mirrored divert := State.writeMirror_mirrored _ (by decide)

theorem State.Mirrored.congr {s t : State} {p : Nat} (h : s.Mirrored p) (mem : t.board.mem = s.board.mem)
    (places : t.places = s.places) (chain : t.chain = s.chain) : t.Mirrored p := by
  intro i hi
  rw [mem, State.mirrorRecord_congr places chain]
  exact h i hi

/-- The divert's record lies apart from the other places' records. -/
theorem State.Mirrored.setMotion {s : State} {p : Nat} (hp : p < 168) (h : s.Mirrored p) (m : Motion) : (s.setMotion m).Mirrored p := by
  intro i hi
  rw [State.setMotion, State.read_writeMirror_outside _ (.inl (by unfold divert; omega))]
  exact h i hi

/-- A place's record is replaced: the place map and the mirror alone change. -/
theorem State.setPlace_eq (p : Nat) (q : Place) :
    s.setPlace p q = { s with places := (s.setPlace p q).places, board := (s.setPlace p q).board } := by
  unfold State.setPlace State.copyMirror
  split <;> rfl

theorem entrySpur_lt (x : Side) : entrySpur x < 168 := by cases x <;> decide

/-- The motion toward an entry spur (R34, R134). -/
theorem State.moveDivert_spec {n : Nat} (slot : n < 128) (c : Context) (x : Side) (sub : Bool) :
    let u := s.moveDivert n c x sub
    u.entry = { s.entry with motion := .toSpur x } ∧ u.divertDriven x = true ∧ u.divertDriven (otherSide x) = false ∧
      (u.place (entrySpur x)).res = (s.place (entrySpur x)).res + 1 ∧ (∀ q, u.entries q = s.entries q) ∧
      (∀ q, q ≠ entrySpur x → u.place q = s.place q) ∧
      u.ctx n = some { c with phase := .atDivert, side := some x, sideChanged := sub, bound := s.stamp } ∧
      u.Mirrored divert ∧ u.Mirrored (entrySpur x) ∧
      { u with entry := s.entry, places := s.places, contexts := s.contexts, board := s.board } = s := by
  intro u
  have spur := entrySpur_lt x
  have entry : u.entry = { s.entry with motion := .toSpur x } := by
    simp [u, State.moveDivert, State.setContext, State.setMotion, State.setEntry, State.writeMirror, State.setMem, State.setBoard]
  have place (q : Nat) : u.place q = (s.reserve (entrySpur x)).place q := State.place_eq_of_places (by simp [u, State.moveDivert, State.setContext]) q
  have own := State.place_reserve_self s (p := entrySpur x) (by omega)
  have reserved : (s.reserve (entrySpur x)).Mirrored (entrySpur x) := by
    refine State.setPlace_mirrored _ (by omega) _ (.inr (.inr fun same => ?_))
    have res := (Place.fields_of_mirrored same).2.1
    simp at res
  refine ⟨entry, by simp [State.divertDriven, entry], by cases x <;> simp [State.divertDriven, entry, otherSide], ?_, fun q => ?_,
    fun q ne => ?_, ?_, ?_, ?_, ?_⟩
  · rw [place, own]; simp
  · rw [State.entries, place]
    by_cases here : entrySpur x = q
    · subst here; rw [own]; simp [State.entries]
    · rw [State.place_reserve_ne _ here]; rfl
  · rw [place, State.place_reserve_ne _ (Ne.symm ne)]
  · refine (State.ctx_setContext_self _ _ _ slot).trans ?_
    rfl
  · exact (State.setMotion_mirrored _ _).congr rfl rfl rfl
  · exact (reserved.setMotion spur (.toSpur x)).congr rfl rfl rfl
  · have moved (t : State) : { ((t.setMotion (.toSpur x)).setContext n
        (some { c with phase := .atDivert, side := some x, sideChanged := sub, bound := s.stamp }) : State) with
          entry := s.entry
          places := s.places
          contexts := s.contexts
          board := s.board } = { t with entry := s.entry, places := s.places, contexts := s.contexts, board := s.board } := rfl
    refine (moved (s.reserve (entrySpur x))).trans ?_
    rw [State.reserve, State.setPlace_eq]

/-! ### The reject try (R135) -/

theorem State.tryReject_none (blocked : s.head divert ≠ some .foreign ∨ s.entry.motion ≠ .idle ∨ s.mode ≠ .run) :
    s.tryReject = none := by
  unfold State.tryReject
  split
  · next head idle run => simp [head, idle, run] at blocked
  · rfl

theorem State.tryReject_eq (head : s.head divert = some .foreign) (idle : s.entry.motion = .idle) (run : s.mode = .run) :
    s.tryReject = if s.lines.rejectFull = true then
        if s.entry.rejectReported = true then none
        else some ((s.setEntry { s.entry with rejectReported := true }).raise srcEntry .rejectFull 0x00 0x00)
      else some ((s.setEntry { s.entry with rejectReported := false }).setMotion .toReject) := by
  simp only [State.tryReject, head, idle, run]

/-! ### The entry unit's events -/

/-- The divert's motion reaches an entry spur (R35, R134). -/
theorem State.divertReaches_spec {x : Side} {e : Entry} (head : s.head divert = some e) :
    let v := s.divertReaches x
    v.entry = { s.entry with motion := .idle } ∧ v.entries divert = [] ∧
      v.entries (entrySpur x) = s.entries (entrySpur x) ++ [e] ∧
      (v.place (entrySpur x)).res = (s.place (entrySpur x)).res - 1 ∧ Retry.plan x ∈ v.wake ∧ v.lines = s.lines ∧
      (∀ n c, e = .card n → s.ctx n = some c →
        v.ctx n = some { c with phase := .inSpur, place := some (entrySpur x), loaded := s.stamp }) := by
  intro v
  let u := ((s.setMotion .idle).setEntries divert []).arriveReserved (entrySpur x) e
  have spur := entrySpur_lt x
  have apart : entrySpur x ≠ divert := by unfold divert; omega
  have before : ((s.setMotion .idle).setEntries divert []).place (entrySpur x) = s.place (entrySpur x) :=
    (State.place_setEntries_ne _ (Ne.symm apart) []).trans rfl
  have ctx (n : Nat) : u.ctx n = s.ctx n := State.ctx_congr _ (by simp [u]) n
  have does : v = { u with contexts := v.contexts } := by
    cases e with
    | card n =>
      simp only [v, State.divertReaches, head, State.updateContext]
      split <;> rfl
    | foreign => simp only [v, State.divertReaches, head] <;> rfl
  have place (q : Nat) : v.place q = u.place q := State.place_eq_of_places (by rw [does]) q
  have own := State.place_arriveReserved_self ((s.setMotion .idle).setEntries divert []) (p := entrySpur x) (by omega) e
  refine ⟨?_, ?_, ?_, ?_, ?_, ?_, fun n c card hc => ?_⟩
  · rw [does]
    simp [u, State.setMotion, State.setEntry, State.writeMirror, State.setMem, State.setBoard]
  · rw [State.entries, place, State.place_arriveReserved_ne _ apart]
    exact State.entries_setEntries_self _ (by decide) []
  · rw [State.entries, place, own]
    simp [State.entries, before]
  · rw [place, own, before]
    simp
  · have told : Retry.plan x ∈ (((s.setMotion .idle).setEntries divert []).toldArriving (entrySpur x)) := by
      cases x <;> simp [State.toldArriving, toldArrival, isLane, isSpur, entrySpur, placeSide]
    rw [does]
    simp [u, State.arriveReserved, told]
  · rw [does]
    simp [u]
  · have hc' := (ctx n).trans hc
    subst card
    have stored : v = u.setContext n (some { c with phase := .inSpur, place := some (entrySpur x), loaded := s.stamp }) := by
      simp only [v, State.divertReaches, head]
      exact u.updateContext_of_ctx hc' _
    rw [stored]
    exact State.ctx_setContext_self _ _ _ (s.ctx_lt n c hc)

/-- What the assertion of ENTRY-ARRIVE does while the divert is taken, and a deassertion while it has nothing to take. -/
theorem State.arriveIfClear_idle (taken : s.entry.motion ≠ .idle ∨ s.entries divert ≠ []) : s.arriveIfClear = s := by
  rw [State.arriveIfClear, if_neg]
  rintro ⟨idle, empty⟩
  exact taken.elim (absurd idle) (absurd (List.head?_eq_none_iff.1 empty))

theorem State.takenByHand_idle (bare : s.entry.motion ≠ .idle ∨ s.entries divert = []) : s.takenByHand = s := by
  unfold State.takenByHand
  have empty (h : s.entries divert = []) : s.head divert = none := List.head?_eq_none_iff.2 h
  split
  · next n idle head => rcases bare with moves | bare
                        · exact absurd idle moves
                        · rw [empty bare] at head; cases head
  · next idle head => rcases bare with moves | bare
                      · exact absurd idle moves
                      · rw [empty bare] at head; cases head
  · rfl

end

/-- Settles O56, by the unit's operations: an arrival, the choice of a side, a reject try, and the entry unit's own events. -/
theorem entryEvents : Obligations.EntryEvents := by
  refine ⟨fun w => ?arrival, fun w => ⟨w.divertChoice_none, fun n c head hc idle => ?choice⟩,
    fun w => ⟨w.tryReject_none, fun head idle run => ?reject⟩, fun s live => ?events⟩
  case arrival =>
    intro u awaits
    let v := w.readTaken
    have awaited (c : Context) (t : Word) : (c.kind == .store && c.phase == .awaited && c.tote == t) = true ↔ awaits c t := by
      simp [awaits, and_assoc]
    have other (c : Context) (t : Word) (no : ¬awaits c t) : (c.kind == .store && c.phase == .awaited && c.tote == t) = false :=
      Bool.eq_false_iff.2 (mt (awaited c t).1 no)
    have foreign {cond : Cond} {d1 d2 : Byte} (does : w.arrival = v.foreignArrival cond d1 d2) :
        u.entry = { w.entry with read := none } ∧ u.entries divert = [.foreign] ∧ u.contexts = w.contexts ∧
          Retry.reject ∈ u.wake ∧ u.cond srcEntry = (w.cond srcEntry).raised cond d1 d2 w.stamp := by
      simp only [u, does]
      exact v.foreignArrival_spec cond d1 d2
    have matched {t : Word} {n : Nat} {c : Context} (read : w.entry.read = some (.tote t)) (hc : w.ctx n = some c)
        (found : v.findOpen (fun c => c.kind == .store && c.phase == .awaited && c.tote == t) = some n) :
        u.entry = { w.entry with read := none } ∧ u.entries divert = [.card n] ∧
          u.ctx n = some { c with place := some divert } ∧ u.conditions = w.conditions ∧ Retry.divert ∈ u.wake := by
      simp only [u, w.arrival_matched read found]
      exact v.matched_spec hc
    have unmatched {t : Word} (read : w.entry.read = some (.tote t))
        (none : v.findOpen (fun c => c.kind == .store && c.phase == .awaited && c.tote == t) = none) :=
      foreign (w.arrival_unmatched read none)
    have unread (read : w.entry.read = none ∨ w.entry.read = some .unreadable) := foreign (w.arrival_unread read)
    refine ⟨?_, fun t n c read hc own lowest => ?_, fun t read none => ?_, fun read => (unread read).2⟩
    · cases read : w.entry.read with
      | none => exact (unread (.inl read)).1
      | some r => cases r with
        | unreadable => exact (unread (.inr read)).1
        | tote t =>
          cases found : v.findOpen (fun c => c.kind == .store && c.phase == .awaited && c.tote == t) with
          | none => exact (unmatched read found).1
          | some n =>
            obtain ⟨c, hc, -⟩ := State.ctx_of_findOpen found
            exact (matched read hc found).1
    · have found := State.findOpen_eq_lowest (s := v) (p := fun c => c.kind == .store && c.phase == .awaited && c.tote == t) hc
        ((awaited c t).2 own) (fun j d hj hd => other d t (lowest j d hj hd))
      exact (matched read hc found).2
    · exact (unmatched read (State.findOpen_eq_none.2 fun m d hd => other d t (none m d hd))).2
  case choice =>
    intro can prefers candidate takes held
    have slot := w.ctx_lt n c hc
    have ever (x : Side) : w.canEverAdmit (inLaneOf c.level x) = true ↔ can x := by simp [State.canEverAdmit, can]
    have taking (x : Side) : w.spurTakes x = true ↔ takes x := w.spurTakes_iff idle x
    have serves (x : Side) (b : Bool) : servesAs c.pref (w.canEverAdmit (inLaneOf c.level .a))
        (w.canEverAdmit (inLaneOf c.level .b)) x b = true ↔ candidate x b := by
      simp only [candidate, ← ever, prefers]
      cases x <;> cases b <;> simp [servesAs, otherSide]
    have choice := w.divertChoice_eq head hc idle
    refine ⟨fun closed => ?_, fun some' waits => ?_, fun x b own ready first => ?_⟩
    · have closed' : chooseSide _ _ _ _ _ _ = _ := (chooseSide_closed c.pref (w.canEverAdmit (inLaneOf c.level .a))
        (w.canEverAdmit (inLaneOf c.level .b)) (w.spurTakes .a) (w.spurTakes .b)
        (decide ((w.entries (entrySpur .b)).length < (w.entries (entrySpur .a)).length))).2
        ⟨Bool.eq_false_iff.2 (mt (ever .a).1 (closed .a)), Bool.eq_false_iff.2 (mt (ever .b).1 (closed .b))⟩
      rw [closed'] at choice
      exact ⟨_, choice, w.closeDivert_spec hc⟩
    · have waiting (x : Side) (stands : isCandidate c.pref (w.canEverAdmit (inLaneOf c.level .a))
          (w.canEverAdmit (inLaneOf c.level .b)) x = true) : w.spurTakes x = false := by
        obtain ⟨sub, own⟩ := isCandidate_servesAs x stands
        exact Bool.eq_false_iff.2 (mt (taking x).1 (waits x sub ((serves x sub).1 own)))
      have someEver : w.canEverAdmit (inLaneOf c.level .a) = true ∨ w.canEverAdmit (inLaneOf c.level .b) = true := by
        obtain ⟨x, own⟩ := some'
        cases x
        · exact .inl ((ever .a).2 own)
        · exact .inr ((ever .b).2 own)
      rw [(chooseSide_hold _ _ _ _ _ _).2 ⟨someEver, waiting .a, waiting .b⟩] at choice
      exact choice
    · have granted : chooseSide c.pref (w.canEverAdmit (inLaneOf c.level .a)) (w.canEverAdmit (inLaneOf c.level .b))
          (w.spurTakes .a) (w.spurTakes .b) (decide (held .b < held .a)) = .grant x b := by
        have others (stands : isCandidate c.pref (w.canEverAdmit (inLaneOf c.level .a))
            (w.canEverAdmit (inLaneOf c.level .b)) (otherSide x) = true) (passes : w.spurTakes (otherSide x) = true) :
            held x < held (otherSide x) ∨ (held x = held (otherSide x) ∧ x = .a) := by
          obtain ⟨sub, also⟩ := isCandidate_servesAs _ stands
          exact first sub ((serves _ sub).1 also) ((taking _).1 passes)
        have own := (serves x b).2 own
        have ready := (taking x).2 ready
        cases x with
        | a =>
          rw [ready]
          refine chooseSide_serves_a own fun stands passes => decide_eq_false ?_
          have := others stands passes
          simp only [otherSide] at this
          omega
        | b =>
          rw [ready]
          refine chooseSide_serves_b own fun stands passes => decide_eq_true ?_
          simpa [otherSide] using others stands passes
      rw [show (decide ((w.entries (entrySpur .b)).length < (w.entries (entrySpur .a)).length)) = decide (held .b < held .a) from rfl,
        granted] at choice
      exact ⟨_, choice, w.moveDivert_spec slot c x b⟩
  case reject =>
    have eq := w.tryReject_eq head idle run
    refine ⟨fun free => ?_, fun full reported => ?_, fun full unreported => ?_⟩
    · rw [free, if_neg (by decide)] at eq
      exact ⟨_, eq, rfl, by simp [State.rejectDriven, State.setMotion, State.setEntry, State.writeMirror, State.setMem, State.setBoard],
        State.setMotion_mirrored _ _, rfl⟩
    · rw [full, if_pos rfl, reported, if_pos rfl] at eq
      exact eq
    · rw [full, if_pos rfl, unreported, if_neg (by decide)] at eq
      exact ⟨_, eq, rfl, State.cond_raise_self _ (by decide) _ _ _, rfl⟩
  case events =>
    intro a d arrives
    have mode : ¬s.mode = .init := live.mode
    have begun := live.begin_eq
    have aEq : a = { s with sent := [], lines := { s.lines with entryArrive := true } } := by simp only [a, begun]
    have dEq : d = { s with sent := [], lines := { s.lines with entryArrive := false } } := by simp only [d, begun]
    have arrive : exec .entryArrive s = .next a.arriveIfClear.resolved := by
      have e : exec .entryArrive s = execEntryArrive s := rfl
      rw [aEq, e, execEntryArrive, State.event, begun]
      exact congrArg (fun v : State => Host.Outcome.next v.resolved) (if_neg mode)
    have deassert : exec .entryArriveDeassert s = .next d.takenByHand.resolved := by
      have e : exec .entryArriveDeassert s = execEntryArriveDeassert s := rfl
      rw [dEq, e, execEntryArriveDeassert, State.event, begun]
      exact congrArg (fun v : State => Host.Outcome.next v.resolved) (if_neg mode)
    have ends := exec_leads (s := s) (c := .divertDone) (f := State.divertEnds) live.mode rfl
    have freed {v : State} (lines : v.lines = s.lines) : v.divertFreed = arrives v := by simp only [State.divertFreed, lines, arrives]
    refine ⟨fun r quiet => ?reader, fun idle empty => ?clear, fun taken quiet => ?taken, fun x e moves head => ?reaches,
      fun moves => ?rejected, fun idle quiet => ?still, fun n c idle head hc quiet => ?card, fun idle head quiet => ?foreign,
      fun bare quiet => ?bare, fun quiet => ?full, ?room⟩
    case reader =>
      have held : heldRead r = if r = .tote 0 then .unreadable else r := by
        cases r with
        | unreadable => rfl
        | tote t => by_cases zero : t = 0 <;> simp [heldRead, zero]
      rw [← held]
      exact exec_of_quiet (f := fun t => t.setEntry { t.entry with read := some (heldRead r) }) (live.awake quiet) rfl rfl
    case clear =>
      have arrives : a.arriveIfClear = a.arrival := by
        rw [aEq]
        exact if_pos ⟨idle, List.head?_eq_none_iff.2 empty⟩
      rw [Leads, arrive, arrives]
    case taken =>
      have idle : a.arriveIfClear = a := by
        rw [aEq]
        exact State.arriveIfClear_idle _ taken
      rw [arrive, idle, aEq]
      exact congrArg Host.Outcome.next (State.resolved_quiet quiet)
    case reaches =>
      obtain ⟨entry, empty, entries, res, told, lines, ctx⟩ := s.begin.divertReaches_spec (x := x) (by rw [begun]; exact head)
      have does : s.begin.divertEnds = arrives (s.begin.divertReaches x) := by
        rw [← freed (lines.trans s.lines_begin)]
        have moving : s.begin.entry.motion = .toSpur x := by rw [begun]; exact moves
        simp only [State.divertEnds, moving]
      rw [does] at ends
      refine ⟨ends, entry.trans (by rw [begun]), empty, entries.trans ?_, res.trans (by rw [State.place_begin]), told,
        fun n c card hc => ?_⟩
      · simp only [State.entries, State.place_begin]
      · exact (ctx n c card (by rw [State.ctx_begin]; exact hc)).trans (by rw [begun]; rfl)
    case rejected =>
      have moving : s.begin.entry.motion = .toReject := by rw [begun]; exact moves
      let v := (s.begin.setMotion .idle).setEntries divert []
      have does : s.begin.divertEnds = arrives v := by
        rw [← freed (v := v) (by simp [v])]
        simp only [State.divertEnds, moving, v]
      rw [does] at ends
      refine ⟨v, ends, ?_, State.entries_setEntries_self _ (by decide) [], fun q ne => ?_, ?_, ?_, ?_⟩
      · simp [v, State.setMotion, State.setEntry, State.writeMirror, State.setMem, State.setBoard, begun]
      · exact (State.place_setEntries_ne _ (Ne.symm ne) []).trans (s.place_begin q)
      all_goals simp [v, begun]
    case still =>
      exact exec_of_idle (f := State.divertEnds) (live.awake quiet) rfl (by simp only [State.divertEnds, idle])
    case card =>
      let u : State := { s with sent := [], lines := { s.lines with entryArrive := false } }
      let t := (u.setEntries divert []).setContext n (some { c with place := none })
      have hc' : (u.setEntries divert []).ctx n = some c := (State.ctx_congr u (by simp) n).trans hc
      have does : d.takenByHand = t := by
        have headU : u.head divert = some (.card n) := head
        have idleU : u.entry.motion = .idle := idle
        rw [dEq, show ({ s with sent := [], lines := { s.lines with entryArrive := false } } : State) = u from rfl]
        simp only [State.takenByHand, idleU, headU, State.updateContext_of_ctx _ hc', t]
      have untold : t.wake = [] := (by simp [t, State.setContext] : t.wake = u.wake).trans quiet
      refine ⟨t, ?_, ?_, State.entries_setEntries_self u (by decide) [], State.ctx_setContext_self _ _ _ (s.ctx_lt n c hc),
        fun q ne => State.place_setEntries_ne u (Ne.symm ne) [], ?_⟩
      · rw [deassert, does, State.resolved_quiet untold]
      · rw [dEq]; simp [t, u, State.setContext]
      · simp [t, u, State.setContext]
    case foreign =>
      let u : State := { s with sent := [], lines := { s.lines with entryArrive := false } }
      let t := (u.setEntries divert []).setEntry { s.entry with rejectReported := false }
      have does : d.takenByHand = t := by
        have headU : u.head divert = some .foreign := head
        have idleU : u.entry.motion = .idle := idle
        rw [dEq, show ({ s with sent := [], lines := { s.lines with entryArrive := false } } : State) = u from rfl]
        unfold State.takenByHand
        split
        · next m _ card => cases headU.symm.trans card
        · rfl
        · next _ other => exact absurd headU (other idleU)
      have untold : t.wake = [] := (by simp [t, State.setEntry] : t.wake = u.wake).trans quiet
      refine ⟨t, ?_, ?_, State.entries_setEntries_self u (by decide) [], rfl,
        fun q ne => State.place_setEntries_ne u (Ne.symm ne) [], ?_, ?_⟩
      · rw [deassert, does, State.resolved_quiet untold]
      · rw [dEq]; simp [t, u, State.setEntry]
      · simp [t, u, State.setEntry]
      · simp [t, u, State.setEntry]
    case bare =>
      have idle : d.takenByHand = d := by
        rw [dEq]
        exact State.takenByHand_idle _ bare
      rw [deassert, idle, dEq]
      exact congrArg Host.Outcome.next (State.resolved_quiet quiet)
    case full =>
      have row : exec (.rejectFullChange true) s =
          .next ({ s.begin with lines := { s.begin.lines with rejectFull := true } } : State).resolved := rfl
      rw [begun] at row
      exact row.trans (congrArg Host.Outcome.next (State.resolved_quiet quiet))
    case room =>
      have row : exec (.rejectFullChange false) s =
          .next (({ s.begin with lines := { s.begin.lines with rejectFull := false } } : State).tell .reject).resolved := rfl
      rw [s.lines_begin] at row
      exact row

end Sys2Proof.Machine
end

section
/-! PROOF. The lift links (6.2): a frame that is taken, the command queue and its echo (R108–R110; the statement
LiftCommandEcho). -/

namespace Sys2Proof.Machine

/-! ### A frame of a locked link -/

section
variable {s : State} {x : Side}

theorem LinkUp.hear_begin (up : LinkUp s x) : s.begin.hear x = s.heard x := by
  rw [State.hear, if_neg (by rw [State.lift_begin]; exact up.locked)]
  rfl

theorem LinkUp.begin_eq (up : LinkUp s x) : s.begin = { s with sent := [] } := State.begin_of_reported up.reported

theorem LinkUp.heard_eq (up : LinkUp s x) :
    s.heard x = ({ s with sent := [] } : State).updateLift x (fun l => { l with silence := some 300 }) := by
  rw [State.heard, up.begin_eq]

theorem exec_leads_frame {c : Instr} {f : State → State} (up : LinkUp s x) (e : exec c s = s.liftFrameIn x f) :
    Leads c s (f (s.heard x)) := by
  rw [← up.hear_begin]
  exact exec_leads (f := fun t => f (t.hear x)) up.mode e

@[simp] theorem State.lift_heard_self (s : State) (x : Side) : (s.heard x).lift x = { s.lift x with silence := some 300 } := by
  simp [State.heard]

/-- A frame that tells nobody. -/
theorem exec_of_frame {c : Instr} {f : State → State} (up : LinkUp s x) (quiet : s.wake = []) (e : exec c s = s.liftFrameIn x f)
    (untold : (f (s.heard x)).wake = s.wake) : exec c s = .next (f (s.heard x)) := by
  have leads := exec_leads_frame up e
  rw [Leads, State.resolved_quiet (untold.trans quiet)] at leads
  exact leads

end

/-! ### The command queue (R110) -/

section
variable (s : State) (x : Side)

theorem State.pump_sends {c : LiftCmd} {cs : List LiftCmd} (queue : (s.lift x).queue = c :: cs) (fresh : (s.lift x).sends = 0)
    (known : (s.lift x).needStatus = false) (locked : (s.lift x).state ≠ .offline) : s.pump x =
      (s.setLift x { s.lift x with number := (s.lift x).number + 1, sends := 1, echo := some 250 }).transmit
        (liftFrame x ((s.lift x).number + 1) c) := by
  simp only [State.pump, queue]
  rw [if_pos ⟨fresh, known, locked⟩]
  rfl

theorem State.pump_idle (idle : (s.lift x).queue = [] ∨ (s.lift x).sends ≠ 0) : s.pump x = s := by
  unfold State.pump
  dsimp only
  split
  · rfl
  · next queue =>
    rw [if_neg]
    rintro ⟨fresh, -⟩
    rcases idle with none | sent
    · rw [none] at queue; cases queue
    · exact sent fresh

/-- The state differs in the lift units and the frames sent alone. -/
def State.LiftOnly (s t : State) : Prop := t = { s with lifts := t.lifts, sent := t.sent }

variable {s x}

theorem State.LiftOnly.trans {t u : State} (h : s.LiftOnly t) (k : t.LiftOnly u) : s.LiftOnly u := by
  unfold State.LiftOnly at h
  rw [h] at k
  exact k

theorem State.LiftOnly.wake {t : State} (h : s.LiftOnly t) : t.wake = s.wake := by rw [h]

theorem State.LiftOnly.restored {t : State} (h : s.LiftOnly t) {sent : List Frame} {lifts : PerSide Lift}
    (lift : s.lifts = lifts) (out : s.sent = sent) : { t with lifts := lifts, sent := sent } = s := by
  rw [h, ← lift, ← out]

variable (s x)

theorem State.updateLift_liftOnly (f : Lift → Lift) : s.LiftOnly (s.updateLift x f) := rfl

theorem State.setLift_liftOnly (l : Lift) : s.LiftOnly (s.setLift x l) := rfl

theorem State.pump_liftOnly : s.LiftOnly (s.pump x) := by
  unfold State.pump
  dsimp only
  split
  · rfl
  · split <;> rfl

theorem State.echoed_liftOnly : s.LiftOnly (s.echoed x) := (s.updateLift_liftOnly x _).trans (State.pump_liftOnly _ x)

theorem State.takeStatus_liftOnly (accepted : BitVec 4) : s.LiftOnly (s.takeStatus x accepted) := by
  unfold State.takeStatus
  dsimp only
  split
  · exact (s.setLift_liftOnly x _).trans (State.pump_liftOnly _ x)
  · split
    · exact s.echoed_liftOnly x
    · rfl

/-- What a STATUS does by the first command's send count and its echo (R109, R110). -/
theorem State.takeStatus_unknown (accepted : BitVec 4) (unknown : (s.lift x).needStatus = true) :
    s.takeStatus x accepted = (s.setLift x { s.lift x with number := accepted, needStatus := false }).pump x := by
  simp only [State.takeStatus, unknown, if_true]

theorem State.takeStatus_echo (accepted : BitVec 4) (known : (s.lift x).needStatus = false) (sent : (s.lift x).sends ≠ 0)
    (same : (s.lift x).number = accepted) : s.takeStatus x accepted = s.echoed x := by
  simp only [State.takeStatus, known, Bool.false_eq_true, if_false]
  exact if_pos ⟨sent, same⟩

theorem State.takeStatus_other (accepted : BitVec 4) (known : (s.lift x).needStatus = false)
    (other : (s.lift x).sends = 0 ∨ (s.lift x).number ≠ accepted) : s.takeStatus x accepted = s := by
  simp only [State.takeStatus, known, Bool.false_eq_true, if_false]
  exact if_neg fun ⟨sent, same⟩ => other.elim sent (absurd same)

/-- The first command is sent again, or the link is given up (R110). -/
theorem State.resendCommand_idle (idle : (s.lift x).queue = [] ∨ (s.lift x).echo ≠ some 0) : s.resendCommand x = s := by
  unfold State.resendCommand
  dsimp only
  split
  · rfl
  · next queue =>
    refine if_neg fun due => ?_
    rcases idle with none | early
    · rw [none] at queue; cases queue
    · exact early due

theorem State.resendCommand_due {c : LiftCmd} {cs : List LiftCmd} (queue : (s.lift x).queue = c :: cs)
    (due : (s.lift x).echo = some 0) : s.resendCommand x =
      if (s.lift x).sends < 3 then
        (s.setLift x { s.lift x with sends := (s.lift x).sends + 1, echo := some 250 }).transmit (liftFrame x (s.lift x).number c)
      else s.loseLink x 0x02 := by
  simp only [State.resendCommand, queue]
  exact if_pos due

end

/-- Settles O47, by the cases of the queue. -/
theorem liftCommandEcho : Obligations.LiftCommandEcho := by
  intro s x level accepted up quiet l h
  let u := s.heard x
  have own : u.lift x = h := s.lift_heard_self x
  have eq : u = ({ s with sent := [] } : State).updateLift x (fun l => { l with silence := some 300 }) := up.heard_eq
  have sent : u.sent = [] := by rw [eq]; rfl
  have restored {t : State} (only : u.LiftOnly t) : { t with lifts := s.lifts, sent := s.sent } = s := by
    rw [only, eq]; rfl
  have status : exec (.status x level accepted) s = .next (u.takeStatus x accepted) :=
    exec_of_frame (f := fun t => t.takeStatus x accepted) up quiet rfl
      ((u.takeStatus_liftOnly x accepted).wake.trans (by rw [eq]; rfl))
  refine ⟨fun known out same => ⟨fun last => ?lastEcho, fun c cs more => ?nextSent⟩, fun known other => ?ignored,
    fun c cs unknown queue fresh => ?firstSent, fun unknown idle => ?numbered, fun idle => ?still,
    fun c cs queue due => ⟨fun few => ?again, fun many => ?lost⟩⟩
  case lastEcho =>
    have does : u.takeStatus x accepted = u.updateLift x (fun l => { l with queue := l.queue.tail, sends := 0, echo := none }) := by
      rw [u.takeStatus_echo x accepted (by rw [own]; exact known) (by rw [own]; exact out) (by rw [own]; exact same)]
      exact State.pump_idle _ x (.inl (by rw [State.lift_updateLift_self, own]; exact last))
    rw [does] at status
    refine ⟨_, status, sent, ?_, restored (u.updateLift_liftOnly x _)⟩
    rw [State.lift_updateLift_self, own]
    exact congrArg (fun q => { h with queue := q, sends := 0, echo := none }) last
  case nextSent =>
    let w := u.updateLift x (fun l => { l with queue := l.queue.tail, sends := 0, echo := none })
    have wown : w.lift x = { h with queue := c :: cs, sends := 0, echo := none } := by
      rw [State.lift_updateLift_self, own]
      exact congrArg (fun q => { h with queue := q, sends := 0, echo := none }) more
    have does : u.takeStatus x accepted =
        (w.setLift x { h with queue := c :: cs, sends := 1, echo := some 250, number := l.number + 1 }).transmit
          (liftFrame x (l.number + 1) c) := by
      rw [u.takeStatus_echo x accepted (by rw [own]; exact known) (by rw [own]; exact out) (by rw [own]; exact same)]
      refine (State.pump_sends w x (c := c) (cs := cs) ?_ ?_ ?_ ?_).trans ?_
      all_goals rw [wown]
      · exact known
      · exact up.locked
    have only := u.takeStatus_liftOnly x accepted
    rw [does] at status only
    refine ⟨_, status, ?_, State.lift_setLift_self _ _ _, restored only⟩
    exact congrArg (· ++ [liftFrame x (l.number + 1) c]) sent
  case ignored =>
    rw [u.takeStatus_other x accepted (by rw [own]; exact known) (by rw [own]; exact other)] at status
    exact ⟨_, status, own, restored rfl⟩
  case firstSent =>
    let w := u.setLift x { h with number := accepted, needStatus := false }
    have wown : w.lift x = { h with number := accepted, needStatus := false } := State.lift_setLift_self _ _ _
    have does : u.takeStatus x accepted =
        (w.setLift x { h with needStatus := false, sends := 1, echo := some 250, number := accepted + 1 }).transmit
          (liftFrame x (accepted + 1) c) := by
      rw [u.takeStatus_unknown x accepted (by rw [own]; exact unknown), own]
      refine (State.pump_sends w x (c := c) (cs := cs) ?_ ?_ ?_ ?_).trans ?_
      all_goals rw [wown]
      · exact queue
      · exact fresh
      · exact up.locked
    have only := u.takeStatus_liftOnly x accepted
    rw [does] at status only
    refine ⟨_, status, ?_, State.lift_setLift_self _ _ _, restored only⟩
    exact congrArg (· ++ [liftFrame x (accepted + 1) c]) sent
  case numbered =>
    have does : u.takeStatus x accepted = u.setLift x { h with needStatus := false, number := accepted } := by
      rw [u.takeStatus_unknown x accepted (by rw [own]; exact unknown), own]
      exact State.pump_idle _ x (by rw [State.lift_setLift_self]; exact idle)
    rw [does] at status
    exact ⟨_, status, sent, State.lift_setLift_self _ _ _, restored (u.setLift_liftOnly x _)⟩
  case still =>
    exact exec_of_idle (f := fun t => t.resendCommand x) ⟨up.mode, quiet, up.reported⟩ rfl (State.resendCommand_idle _ x idle)
  case again =>
    let v : State := { s with sent := [] }
    have does := v.resendCommand_due x (c := c) (cs := cs) queue due
    rw [if_pos (show (v.lift x).sends < 3 from few)] at does
    refine ⟨_, exec_of_quiet (f := fun t => t.resendCommand x) ⟨up.mode, quiet, up.reported⟩ rfl ?_, ?_, ?_, ?_⟩
    all_goals rw [show ({ s with sent := [] } : State) = v from rfl, does]
    · rfl
    · rfl
    · exact State.lift_setLift_self _ _ _
    · rfl
  case lost =>
    have leads := exec_leads (s := s) (c := .commandResend x) (f := fun t => t.resendCommand x) up.mode rfl
    have does := s.begin.resendCommand_due x (c := c) (cs := cs) (by rw [State.lift_begin]; exact queue)
      (by rw [State.lift_begin]; exact due)
    rw [State.lift_begin, if_neg (Nat.not_lt.2 many)] at does
    rw [does] at leads
    exact leads

end Sys2Proof.Machine
end

section
/-! PROOF. The decision on a stop (R113–R116; the statement StopDecisions). -/

namespace Sys2Proof.Machine

/-! ### The tests of a stop (R113) -/

section
variable (s : State) (x : Side) (st : Stop)

/-- The stop's tests that end it as passed. -/
def State.stopFails : Prop :=
  ((st.action = .load ∧ s.admitsDepartures st.place = false) ∨ (st.action = .unload ∧ s.admitsArrivals st.place = false)) ∨
    ((st.action = .load ∧ (s.deck x st.deck ≠ none ∨ s.claimHeads st = false)) ∨
      (st.action = .unload ∧ s.deck x st.deck ≠ some st.expected)) ∨
    (st.action = .unload ∧ isExitSpur st.place = true ∧ s.guardMet x st = false)

/-- The decision on a stop whose own tests hold (R113). -/
def State.decideOpen : Decision :=
  if s.mode ≠ .run then .waitMode
  else if isLane st.place ∧ (s.place st.place).lock = .shuttle then .waitLane
  else .proceed

theorem State.decideStop_fails (fails : s.stopFails x st) : s.decideStop x st = .pass := by
  unfold State.stopFails at fails
  unfold State.decideStop
  cases action : st.action with
  | load =>
    simp only [action, true_and, reduceCtorEq, false_and, or_false] at fails
    dsimp only
    split
    · rfl
    · next admits =>
      rw [if_pos]
      rcases fails with closed | occupied | unclaimed
      · simp [closed] at admits
      · simp [Option.isSome_iff_ne_none.2 occupied]
      · simp [unclaimed]
  | unload =>
    simp only [action, true_and, reduceCtorEq, false_and, false_or] at fails
    dsimp only
    split
    · rfl
    · next admits =>
      split
      · rfl
      · next right =>
        rw [if_pos]
        rcases fails with closed | wrong | ⟨spur, early⟩
        · simp [closed] at admits
        · exact absurd wrong right
        · simp [spur, early]

theorem State.decideStop_holds (holds : ¬s.stopFails x st) : s.decideStop x st = s.decideOpen st := by
  simp only [State.stopFails, not_or, not_and, Bool.not_eq_false] at holds
  obtain ⟨⟨departs, arrives⟩, ⟨load, unload⟩, guard⟩ := holds
  unfold State.decideStop State.decideOpen
  cases action : st.action with
  | load =>
    obtain ⟨empty, claimed⟩ := load action
    dsimp only
    rw [if_neg (by simp [departs action]), if_neg (by simpa [claimed] using empty)]
  | unload =>
    dsimp only
    rw [if_neg (by simp [arrives action]), if_neg (by simpa using unload action), if_neg (by simpa using guard action)]

/-! ### The order guard (R104) -/

theorem State.sequenced_iff (n : Nat) : s.sequenced n = true ↔
    ∃ c q, s.ctx n = some c ∧ c.seqState = .live ∧ c.demoted = false ∧ c.seq = some q := by
  unfold State.sequenced
  cases s.ctx n with
  | none => simp
  | some c => simp [Context.liveSeq, Option.isSome_iff_exists, and_assoc]

theorem State.aheadInBound_eq {n : Nat} {ahead behind : List Nat} (bound : s.release.bound.get x = ahead ++ n :: behind)
    (first : n ∉ ahead) : s.aheadInBound x n = ahead := by
  have before (m : Nat) (hm : m ∈ ahead) : (m != n) = true := by
    simpa using ne_of_mem_of_not_mem hm first
  rw [State.aheadInBound, bound, List.takeWhile_append_of_pos before]
  simp

theorem State.inPhase_iff (m : Nat) (ph : Phase) : s.inPhase m ph = true ↔ ∃ c, s.ctx m = some c ∧ c.phase = ph := by
  unfold State.inPhase
  cases s.ctx m <;> simp

/-! ### A passed stop (R115) -/

theorem State.ctx_updateContext (n : Nat) (f : Context → Context) (m : Nat) :
    (s.updateContext n f).ctx m = if m = n then (s.ctx n).map f else s.ctx m := by
  unfold State.updateContext
  cases hc : s.ctx n with
  | none =>
    dsimp only
    split
    · next same => rw [same, hc]; rfl
    · rfl
  | some c =>
    dsimp only
    split
    · next same => rw [same]; exact State.ctx_setContext_self _ _ _ (s.ctx_lt n c hc)
    · next other => exact State.ctx_setContext_ne _ _ _ _ (Ne.symm other)

/-- A stop's reservation is released, where it holds one. -/
def State.released : State := if st.reserved then s.unreserve st.place else s

theorem State.released_frame : (s.released st).lifts = s.lifts ∧ (s.released st).contexts = s.contexts := by
  unfold State.released
  split <;> simp

theorem State.released_place (slot : st.place < 164) :
    ((s.released st).place st.place).res = (if st.reserved then (s.place st.place).res - 1 else (s.place st.place).res) ∧
      (∀ q, q ≠ st.place → (s.released st).place q = s.place q) ∧ (∀ q, (s.released st).entries q = s.entries q) := by
  have small : st.place < 169 := by omega
  unfold State.released
  split
  · refine ⟨by simp [State.place_unreserve_self _ small], fun q ne => State.place_unreserve_ne _ (Ne.symm ne), fun q => ?_⟩
    by_cases own : st.place = q
    · subst own; simp [State.entries, State.place_unreserve_self _ small]
    · simp [State.entries, State.place_unreserve_ne _ own]
  · exact ⟨rfl, fun _ _ => rfl, fun _ => rfl⟩

theorem State.passHoldings_eq (unload : st.action = .unload) : s.passHoldings x st = match st.expected with
    | .foreign => s.released st
    | .card n => if isInbound st.place && s.deck x st.deck == some (.card n) then
        (s.released st).turnBack n st.place .levelClosed else s.released st := by
  simp only [State.passHoldings, unload] <;> rfl

/-- A card that turns back at its inbound lane (R37). -/
def Context.turnedBack (c : Context) (p : Nat) (r : ReasonCode) : Context :=
  if c.kind = .store ∧ c.phase = .onCar then { c with phase := .returning, failure := some (r, byteOf p) } else c

theorem State.ctx_turnBack (n p : Nat) (r : ReasonCode) (m : Nat) :
    (s.turnBack n p r).ctx m = if m = n then (s.ctx n).map (fun c => c.turnedBack p r) else s.ctx m :=
  s.ctx_updateContext n _ m

theorem State.passHoldings_unload (unload : st.action = .unload) (slot : st.place < 164) :
    let u := s.passHoldings x st
    (u.place st.place).res = (if st.reserved then (s.place st.place).res - 1 else (s.place st.place).res) ∧
      (∀ q, q ≠ st.place → u.place q = s.place q) ∧ (∀ q, u.entries q = s.entries q) ∧ u.lifts = s.lifts ∧
      (∀ m c, s.ctx m = some c → u.ctx m =
        if st.expected = .card m ∧ isInbound st.place = true ∧ s.deck x st.deck = some (.card m) ∧ c.kind = .store ∧
            c.phase = .onCar then
          some { c with phase := .returning, failure := some (.levelClosed, byteOf st.place) }
        else some c) := by
  intro u
  obtain ⟨res, others, entries⟩ := s.released_place st slot
  obtain ⟨lifts, contexts⟩ := s.released_frame st
  have ctx (m : Nat) : (s.released st).ctx m = s.ctx m := State.ctx_congr _ contexts m
  have eq := s.passHoldings_eq x st unload
  have kept (does : u = s.released st)
      (no : ∀ m, ¬(st.expected = .card m ∧ isInbound st.place = true ∧ s.deck x st.deck = some (.card m))) :
      (u.place st.place).res = (if st.reserved then (s.place st.place).res - 1 else (s.place st.place).res) ∧
        (∀ q, q ≠ st.place → u.place q = s.place q) ∧ (∀ q, u.entries q = s.entries q) ∧ u.lifts = s.lifts ∧
        (∀ m c, s.ctx m = some c → u.ctx m =
          if st.expected = .card m ∧ isInbound st.place = true ∧ s.deck x st.deck = some (.card m) ∧ c.kind = .store ∧
              c.phase = .onCar then
            some { c with phase := .returning, failure := some (.levelClosed, byteOf st.place) }
          else some c) := by
    rw [does]
    refine ⟨res, others, entries, lifts, fun m c hc => ?_⟩
    rw [ctx, hc, if_neg]
    exact fun ⟨card, inbound, deck, _⟩ => no m ⟨card, inbound, deck⟩
  cases expected : st.expected with
  | foreign =>
    rw [expected] at eq
    exact expected ▸ kept eq fun m ⟨card, _⟩ => by rw [expected] at card; cases card
  | card n =>
    rw [expected] at eq
    by_cases turns : (isInbound st.place && s.deck x st.deck == some (.card n)) = true
    · have does : u = (s.released st).turnBack n st.place .levelClosed := eq.trans (if_pos turns)
      have place (q : Nat) : u.place q = (s.released st).place q := State.place_eq_of_places (by rw [does]; simp) q
      simp only [Bool.and_eq_true, beq_iff_eq] at turns
      obtain ⟨inbound, deck⟩ := turns
      refine ⟨by rw [place]; exact res, fun q ne => (place q).trans (others q ne), fun q => ?_, by rw [does, ← lifts]; simp,
        fun m c hc => ?_⟩
      · rw [State.entries, place]; exact entries q
      · rw [does, State.ctx_turnBack]
        by_cases own : m = n
        · subst own
          rw [if_pos rfl, ctx, hc]
          simp only [Option.map_some, Context.turnedBack, inbound, deck, true_and]
          split <;> rfl
        · rw [if_neg own, ctx, hc, if_neg]
          exact fun ⟨card, _⟩ => own (Entry.card.inj card).symm
    · refine expected ▸ kept (eq.trans (if_neg turns)) fun m ⟨card, inbound, deck⟩ => turns ?_
      rw [expected] at card
      cases card
      simp [inbound, deck]

end

/-! ### Who is told (R116) -/

section
variable (s : State) {p : Nat}

theorem lane_or_spur (hp : p < 164) : (isLane p || isSpur p) = true := by
  simp only [isLane, isSpur, Bool.or_eq_true, decide_eq_true_eq]
  omega

theorem stop_toldRoom {y : Side} {w : Prompt} : Retry.stop y w ∉ toldRoom p := by
  unfold toldRoom
  split
  · split <;> simp
  · simp

theorem stop_toldArrival {y : Side} {w : Prompt} : Retry.stop y w ∉ toldArrival p := by
  unfold toldArrival
  split
  · split <;> simp
  · simp

theorem stop_toldStatus {y : Side} {w : Prompt} : Retry.stop y w ∉ toldStatus p := by
  unfold toldStatus
  (repeat' split) <;> simp

theorem stop_toldHead {y : Side} {w : Prompt} (told : Retry.stop y w ∈ toldHead p) : y = placeSide p ∧ w = .head p := by
  unfold toldHead at told
  split at told <;> simp at told
  exact told

theorem stop_toldStop {y : Side} {w : Prompt} (told : Retry.stop y w ∈ toldStop p) : y = placeSide p ∧ w = .place p := by
  unfold toldStop at told
  split at told <;> simp at told
  exact told

theorem stop_toldUnlock {y : Side} {w : Prompt} (told : Retry.stop y w ∈ toldUnlock p) : y = placeSide p ∧ w = .place p := by
  simpa [toldUnlock] using told

theorem stop_toldArriving {y : Side} {w : Prompt} (told : Retry.stop y w ∈ s.toldArriving p) : y = placeSide p ∧ w = .head p := by
  rcases List.mem_append.1 told with told | told
  · exact absurd told stop_toldArrival
  · split at told
    · exact stop_toldHead told
    · cases told

variable (p)

theorem State.mem_wake_unlockLane (r : Retry) : r ∈ (s.unlockLane p).wake ↔ r ∈ s.wake ∨ r ∈ toldUnlock p := by
  simp [State.unlockLane]

theorem State.mem_wake_setStatus (q : Place) (r : Retry) :
    r ∈ (s.setStatus p q).wake ↔ r ∈ s.wake ∨ r ∈ toldStatus p ++ toldStop p := by
  simp [State.setStatus]

theorem State.mem_wake_depart (r : Retry) : r ∈ (s.depart p).wake ↔ r ∈ s.wake ∨ r ∈ toldRoom p ++ toldHead p := by
  unfold State.depart
  dsimp only
  split <;> simp

theorem State.mem_wake_arrive (e : Entry) (r : Retry) : r ∈ (s.arrive p e).wake ↔ r ∈ s.wake ∨ r ∈ s.toldArriving p := by
  simp [State.arrive]

theorem State.mem_wake_arriveReserved (e : Entry) (r : Retry) :
    r ∈ (s.arriveReserved p e).wake ↔ r ∈ s.wake ∨ r ∈ s.toldArriving p := by
  simp [State.arriveReserved]

theorem State.mem_wake_unreserve (r : Retry) : r ∈ (s.unreserve p).wake ↔ r ∈ s.wake ∨ r ∈ toldRoom p := by
  simp [State.unreserve]

end

/-! ### The stop a frame names (R111) -/

section
variable {s : State} {x : Side} {i stop : Nat} {st : Stop} {trip : Byte} {ph : StopPhase} {t : Trip}

theorem CurrentStop.named (h : CurrentStop s x t i st ph trip stop) : s.namedStop x trip stop ph = some (i, st) := by
  simp only [State.namedStop, h.held, h.current, h.record, Option.map_some]
  exact if_pos ⟨h.trip, h.index, h.phase⟩

theorem CurrentStop.of_named {r : Nat × Stop} (h : s.namedStop x trip stop ph = some r) :
    ∃ t, CurrentStop s x t r.1 r.2 ph trip stop := by
  unfold State.namedStop at h
  split at h
  · cases h
  · next t held =>
    split at h
    · cases h
    · next j current =>
      split at h
      · next names =>
        obtain ⟨number, index, phase⟩ := names
        cases record : t.stop j with
        | none => rw [record] at h; cases h
        | some st =>
          rw [record] at h
          cases h
          exact ⟨t, held, current, record, phase, number, index⟩
      · cases h

theorem CurrentStop.tripNumber (h : CurrentStop s x t i st ph trip stop) : s.tripNumber x = trip := by
  simp [State.tripNumber, h.held, h.trip]

theorem CurrentStop.heard (h : CurrentStop s x t i st ph trip stop) : CurrentStop (s.heard x) x t i st ph trip stop :=
  ⟨by rw [State.lift_heard_self]; exact h.held, h.current, h.record, h.phase, h.trip, h.index⟩

variable (x i stop st trip) in
/-- The decision `d` carried out in the state `v` for stop number `stop` of the trip (R113–R115). -/
def State.carryOut (v : State) (d : Decision) : State :=
  match d with
  | .waitMode => v.updateLift x (fun l => l.setPhase .waitingMode)
  | .waitLane => v.updateLift x (fun l => l.setPhase .waitingLane)
  | .proceed =>
    ((if isLane st.place then v.lockLane st.place .lift else v).updateLift x (fun l => l.setPhase .transferring)).queueLift x
      (.proceed trip stop)
  | .pass => ((v.passHoldings x st).endStop x i .passed).queueLift x (.pass trip stop)

theorem CurrentStop.takeDecision (h : CurrentStop s x t i st ph trip stop) (d : Decision) :
    s.takeDecision x i st d = s.carryOut x i stop st trip d := by
  cases d <;>
    simp only [State.takeDecision, State.carryOut, State.passStop, State.passQuiet, State.proceedStop, h.tripNumber, h.index]

theorem LinkUp.decideStop_heard (up : LinkUp s x) (st : Stop) : (s.heard x).decideStop x st = s.decideStop x st := by
  rw [up.heard_eq]
  rfl

theorem Prompt.concerns_iff (w : Prompt) (st : Stop) : w.concerns st = true ↔
    w = .running ∨ w = .place st.place ∨ (w = .head st.place ∧ st.action = .load) := by
  cases w with
  | running => simp [Prompt.concerns]
  | place p => simpa [Prompt.concerns] using eq_comm
  | head p => simp [Prompt.concerns, eq_comm (a := st.place)]

/-- A frame for no stop in its phase is stray (R111). -/
theorem State.strayFrame_heard (up : LinkUp s x) : (s.heard x).strayFrame x = { s with
    sent := []
    lifts := s.lifts.set x { s.lift x with silence := some 300, stray := min 255 ((s.lift x).stray + 1) } } := by
  rw [State.strayFrame, State.updateLift, State.lift_heard_self, up.heard_eq]
  cases x <;> rfl

theorem State.takeArrived_current (h : CurrentStop s x t i st .moving trip stop) (onTrip : (s.lift x).state = .onTrip) :
    s.takeArrived x trip stop = s.carryOut x i stop st trip (s.decideStop x st) := by
  simp only [State.takeArrived, onTrip, h.named]
  exact h.takeDecision _

theorem State.takeArrived_stray
    (none : ¬∃ t i st, (s.lift x).state = .onTrip ∧ CurrentStop s x t i st .moving trip stop) :
    s.takeArrived x trip stop = s.strayFrame x := by
  unfold State.takeArrived
  split
  · next r onTrip named =>
    obtain ⟨t, current⟩ := CurrentStop.of_named named
    exact absurd ⟨t, r.1, r.2, onTrip, current⟩ none
  · rfl

/-- A waiting stop is tested again (R116). -/
theorem State.retest_waiting (h : CurrentStop s x t i st ph trip stop) (onTrip : (s.lift x).state = .onTrip)
    (waits : ph = .waitingMode ∨ ph = .waitingLane) (w : Prompt) : s.retest x w =
      if w.concerns st = true ∧ s.decideStop x st ≠ (if ph = .waitingMode then .waitMode else .waitLane) then
        some (s.takeDecision x i st (s.decideStop x st)) else none := by
  simp only [State.retest, onTrip, h.held, h.current, h.record, h.phase]
  by_cases concerned : w.concerns st = true
  · rcases waits with rfl | rfl <;> cases decided : s.decideStop x st <;> simp [concerned]
  · simp [concerned]

theorem State.retest_idle {w : Prompt} (idle : (s.lift x).state ≠ .onTrip ∨ (s.lift x).trip = none ∨
    ((s.lift x).trip = some t ∧ t.phase ≠ .waitingMode ∧ t.phase ≠ .waitingLane)) : s.retest x w = none := by
  unfold State.retest
  split
  · next t' onTrip held =>
    rcases idle with off | none | ⟨own, notMode, notLane⟩
    · exact absurd onTrip off
    · rw [none] at held; cases held
    · rw [own] at held
      cases held
      split
      · rfl
      · split
        · rfl
        · split
          · rfl
          · cases phase : t.phase <;> simp_all
  · rfl

end

/-- Settles O48, from the tests in their order, the frame that names the stop, and those told of each change. -/
theorem stopDecisions : Obligations.StopDecisions := by
  refine ⟨fun s x st => ?tests, fun s x trip stop => ?frame, fun s p e q hp => ?told, fun s x st => ?guard, fun s x st => ?passed⟩
  case tests =>
    intro closed wrong early locked
    have open' (holds : ¬(closed ∨ wrong ∨ early)) := s.decideStop_holds x st holds
    refine ⟨s.decideStop_fails x st, fun holds mode => ?_, fun holds mode lock => ?_, fun holds mode free => ?_⟩
    all_goals rw [open' holds, State.decideOpen]
    · exact if_pos mode
    · rw [if_neg (not_not.2 mode)]; exact if_pos lock
    · rw [if_neg (not_not.2 mode)]; exact if_neg free
  case frame =>
    intro act
    have carried (v : State) (i : Nat) (st : Stop) : act v i st = v.carryOut x i stop st trip (s.decideStop x st) := rfl
    refine ⟨fun t i st up onTrip current => ?_, fun up quiet none => ?_, fun w t i st onTrip waits => ?_,
      fun w t idle => State.retest_idle idle⟩
    · have leads := exec_leads_frame (c := .arrived x trip stop) (f := fun u => u.takeArrived x trip stop) up rfl
      rw [State.takeArrived_current current.heard (by rw [State.lift_heard_self]; exact onTrip), up.decideStop_heard] at leads
      exact leads
    · have stray : (s.heard x).takeArrived x trip stop = (s.heard x).strayFrame x := by
        refine State.takeArrived_stray fun ⟨t, i, st, onTrip, current⟩ => none ⟨t, i, st, ?_, ?_⟩
        · rw [State.lift_heard_self] at onTrip; exact onTrip
        · refine ⟨?_, current.current, current.record, current.phase, current.trip, current.index⟩
          have held := current.held
          rw [State.lift_heard_self] at held
          exact held
      have does := stray.trans (State.strayFrame_heard up)
      rw [exec_of_frame (f := fun u => u.takeArrived x trip stop) up quiet rfl (by rw [does]), does]
    · intro concerned asBefore
      have tested {ph : StopPhase} (h : CurrentStop s x t i st ph trip stop) (wait : ph = .waitingMode ∨ ph = .waitingLane) :
          (¬concerned ∨ asBefore → s.retest x w = none) ∧ (concerned → ¬asBefore → s.retest x w = some (act s i st)) := by
        have eq := State.retest_waiting h onTrip wait w
        rw [← h.phase, h.takeDecision] at eq
        exact ⟨fun stays => eq.trans (if_neg fun ⟨c, d⟩ => stays.elim (absurd ((w.concerns_iff st).1 c)) d),
          fun c d => eq.trans (if_pos ⟨(w.concerns_iff st).2 c, d⟩)⟩
      exact waits.elim (fun h => tested h (.inl rfl)) fun h => tested h (.inr rfl)
  case told =>
    intro x
    have either := lane_or_spur hp
    have head : Retry.stop x (.head p) ∈ toldHead p := by simp [toldHead, either, x]
    have place : Retry.stop x (.place p) ∈ toldStop p := by simp [toldStop, either, x]
    refine ⟨fun y => ?_, (s.mem_wake_unlockLane p _).2 (.inr (by simp [toldUnlock, x])),
      (s.mem_wake_setStatus p q _).2 (.inr (List.mem_append_right _ place)),
      (s.mem_wake_depart p _).2 (.inr (List.mem_append_right _ head)), fun empty => ?_, ?_, fun y w told => ?_⟩
    · rw [State.enterRun, State.mem_tellAll]
      cases y <;> simp [toldRun]
    · have arriving : Retry.stop x (.head p) ∈ s.toldArriving p := by
        rw [State.toldArriving, if_pos empty]
        exact List.mem_append_right _ head
      exact ⟨(s.mem_wake_arrive p e _).2 (.inr arriving), (s.mem_wake_arriveReserved p e _).2 (.inr arriving)⟩
    · intro u hu y w told
      simp only [List.mem_cons, List.not_mem_nil, or_false] at hu
      rcases hu with rfl | rfl | rfl | rfl | rfl
      · exact ((s.mem_wake_unlockLane p _).1 told).imp_right fun t => (stop_toldUnlock t).imp_right .inl
      · refine ((s.mem_wake_setStatus p q _).1 told).imp_right fun t => ?_
        exact (stop_toldStop ((List.mem_append.1 t).resolve_left stop_toldStatus)).imp_right .inl
      · refine ((s.mem_wake_depart p _).1 told).imp_right fun t => ?_
        exact (stop_toldHead ((List.mem_append.1 t).resolve_left stop_toldRoom)).imp_right .inr
      · exact ((s.mem_wake_arrive p e _).1 told).imp_right fun t => (stop_toldArriving s t).imp_right .inr
      · exact ((s.mem_wake_arriveReserved p e _).1 told).imp_right fun t => (stop_toldArriving s t).imp_right .inr
    · exact ((s.mem_wake_unreserve p _).1 told).resolve_right stop_toldRoom
  case guard =>
    intro sequenced
    refine ⟨fun free => ?_, fun n ahead behind guarded card live bound first => ?_⟩
    · unfold State.guardMet
      split
      · rfl
      · next n card =>
        rw [if_neg]
        simp only [Bool.and_eq_true, s.sequenced_iff]
        rintro ⟨guarded, live⟩
        rcases free with unguarded | foreign | none
        · rw [unguarded] at guarded; cases guarded
        · rw [card] at foreign; cases foreign
        · exact none n card live
    · simp only [State.guardMet, card, guarded, (s.sequenced_iff n).2 live, Bool.and_self, if_true,
        s.aheadInBound_eq x bound first, List.all_eq_true, s.inPhase_iff]
  case passed =>
    exact ⟨fun load => by simp only [State.passHoldings, load], s.passHoldings_unload x st⟩

end Sys2Proof.Machine
end

section
/-! PROOF. The end of a stop (R117–R119): what each result does to the deck, the place and the card (the statement StopDoneTaken). -/

namespace Sys2Proof.Machine

/-! ### What the changes of one place leave of the others -/

section
variable (s : State) (p : Nat)

/-- The parts of a place record that stand through a change of its contents and reservations (R2, R4). -/
def Place.held (q : Place) : Lock × Option Freeze := (q.lock, q.frozen)

theorem State.held_setPlace {q : Place} (same : q.held = (s.place p).held) (r : Nat) :
    ((s.setPlace p q).place r).held = (s.place r).held := by
  rw [State.place_setPlace]
  split
  · next own =>
    rw [← own.1, ← same]
    simp [Place.held]
  · rfl

theorem State.entries_setPlace {q : Place} (same : q.entries = s.entries p) (r : Nat) :
    (s.setPlace p q).entries r = s.entries r := by
  rw [State.entries, State.place_setPlace]
  split
  · next own => rw [← own.1, ← same]; simp
  · rfl

@[simp] theorem State.entries_unreserve (r : Nat) : (s.unreserve p).entries r = s.entries r := by
  rw [State.entries, State.unreserve, State.place_afterReservation, State.place_tellAll]
  exact s.entries_setPlace p (by rfl) r

@[simp] theorem State.held_unreserve (r : Nat) : ((s.unreserve p).place r).held = (s.place r).held := by
  rw [State.unreserve, State.place_afterReservation, State.place_tellAll]
  exact s.held_setPlace p (by rfl) r

@[simp] theorem State.held_setEntries (es : List Entry) (r : Nat) : ((s.setEntries p es).place r).held = (s.place r).held :=
  s.held_setPlace p (by rfl) r

@[simp] theorem State.held_depart (r : Nat) : ((s.depart p).place r).held = (s.place r).held := by
  have same : (s.depart p).places = (s.setPlace p { s.place p with entries := (s.entries p).tail }).places := by
    unfold State.depart
    dsimp only
    split <;> simp
  rw [State.place_eq_of_places same]
  exact s.held_setPlace p (by rfl) r

@[simp] theorem State.held_arrive (e : Entry) (r : Nat) : ((s.arrive p e).place r).held = (s.place r).held := by
  rw [State.arrive, State.place_tellAll]
  exact s.held_setPlace p (by rfl) r

@[simp] theorem State.held_arriveReserved (e : Entry) (r : Nat) : ((s.arriveReserved p e).place r).held = (s.place r).held := by
  rw [State.arriveReserved, State.place_afterReservation, State.place_tellAll]
  exact s.held_setPlace p (by rfl) r

@[simp] theorem State.entries_freeze (f : Freeze) (r : Nat) : (s.freeze p f).entries r = s.entries r := by
  have same : (s.freeze p f).places = (s.setPlace p { s.place p with frozen := some f }).places := by
    simp [State.freeze, State.setStatus]
  rw [State.entries, State.place_eq_of_places same]
  exact s.entries_setPlace p (by rfl) r

@[simp] theorem State.lock_freeze (f : Freeze) (r : Nat) : ((s.freeze p f).place r).lock = (s.place r).lock := by
  have same : (s.freeze p f).places = (s.setPlace p { s.place p with frozen := some f }).places := by
    simp [State.freeze, State.setStatus]
  rw [State.place_eq_of_places same, State.place_setPlace]
  split
  · next own => simp [own.1]
  · rfl

theorem lock_of_held {q r : Place} (h : q.held = r.held) : q.lock = r.lock := congrArg Prod.fst h

theorem State.place_arrive_self (hp : p < 169) (e : Entry) :
    (s.arrive p e).place p = s.retimed p { s.place p with entries := s.entries p ++ [e] } := by
  rw [State.arrive, State.place_tellAll, s.place_setPlace_self _ hp]

theorem State.place_arrive_ne {r : Nat} (ne : p ≠ r) (e : Entry) : (s.arrive p e).place r = s.place r := by
  rw [State.arrive, State.place_tellAll, s.place_setPlace_ne _ ne]

theorem State.deck_congr {t : State} {x : Side} {d : Deck} (h : t.entries (deckPlace x d) = s.entries (deckPlace x d)) :
    t.deck x d = s.deck x d := by rw [State.deck, State.head, h]; rfl

theorem State.claimHeads_congr {t : State} {st : Stop} (h : t.entries st.place = s.entries st.place) :
    t.claimHeads st = s.claimHeads st := by
  unfold State.claimHeads State.claimAt
  rw [h]

theorem deckPlace_range (x : Side) (d : Deck) : 164 ≤ deckPlace x d ∧ deckPlace x d < 168 := by
  cases x <;> cases d <;> decide

end

/-! ### A card's bytes lie apart from the mirror -/

section
variable (s : State) {n i : Nat}

theorem State.cardByte_congr {t : State} (hn : n < 128) (hi : i < 64)
    (below : ∀ a, a < 0x3000 → Memory.read t.board.mem a = Memory.read s.board.mem a) : t.cardByte n i = s.cardByte n i :=
  below _ (by unfold cardAddr; omega)

theorem State.read_setPlace_below {p a : Nat} (q : Place) (h : a < 0x3000) :
    Memory.read (s.setPlace p q).board.mem a = Memory.read s.board.mem a := s.read_setPlace_outside q (.inl (by omega))

theorem State.read_unreserve_below {p a : Nat} (h : a < 0x3000) :
    Memory.read (s.unreserve p).board.mem a = Memory.read s.board.mem a := by
  have board : (s.unreserve p).board = (s.setPlace p { s.place p with res := (s.place p).res - 1 }).board := by
    simp [State.unreserve]
  rw [board]
  exact s.read_setPlace_below _ h

theorem State.read_writeMirror_below {p a : Nat} (h : a < 0x3000) :
    Memory.read (s.writeMirror p).board.mem a = Memory.read s.board.mem a := s.read_writeMirror_outside (.inl (by omega))

end

/-! ### The results of a load and of an unload (R117, R118) -/

section
variable (s : State) (x : Side) (st : Stop) (trip : Byte)

theorem State.stopEffect_load_ok (load : st.action = .load) : s.stopEffect x st trip .ok = s.loadOk x st trip := by
  simp only [State.stopEffect, load]

theorem State.stopEffect_unload_ok (unload : st.action = .unload) : s.stopEffect x st trip .ok = s.unloadOk x st trip := by
  simp only [State.stopEffect, unload]

theorem State.stopEffect_load_frozen {r : StopResult} (frozen : r = .empty ∨ r = .blocked) (load : st.action = .load) :
    s.stopEffect x st trip r = s.freeze st.place .loadEmpty := by
  rcases frozen with rfl | rfl <;> simp only [State.stopEffect, load]

theorem State.stopEffect_unload_empty (unload : st.action = .unload) :
    s.stopEffect x st trip .empty = (s.deckLost x st.deck).released st := by
  simp only [State.stopEffect, unload] <;> rfl

theorem State.stopEffect_unload_blocked (unload : st.action = .unload) :
    s.stopEffect x st trip .blocked = s.unloadBlocked x st := by
  simp only [State.stopEffect, unload]

theorem State.loadOk_occupied (occupied : s.deck x st.deck ≠ none) : s.loadOk x st trip = s := by
  rw [State.loadOk]
  exact if_pos (Option.isSome_iff_ne_none.2 occupied)

theorem State.loadOk_unclaimed (empty : s.deck x st.deck = none) (unclaimed : s.claimHeads st = false) :
    s.loadOk x st trip = s.setEntries (deckPlace x st.deck) [.foreign] := by
  simp only [State.loadOk, empty, unclaimed, Option.isSome_none, Bool.false_eq_true, if_false]

theorem State.loadOk_claimed {e : Entry} (empty : s.deck x st.deck = none) (claimed : s.claimHeads st = true)
    (head : s.head st.place = some e) : s.loadOk x st trip = match (generalizing := false) e with
      | .foreign => (s.depart st.place).setEntries (deckPlace x st.deck) [e]
      | .card n => ((s.depart st.place).setEntries (deckPlace x st.deck) [e]).updateContext n
          (fun c => c.moved .onCar (deckPlace x st.deck) s.stamp trip) := by
  simp only [State.loadOk, empty, claimed, head, Option.isSome_none, Bool.false_eq_true, if_false] <;> rfl

/-- A claimed head goes to the deck (R117). -/
theorem State.loadOk_spec {e : Entry} (slot : st.place < 164) (empty : s.deck x st.deck = none)
    (claimed : s.claimHeads st = true) (head : s.head st.place = some e) :
    let u := s.loadOk x st trip
    let d := deckPlace x st.deck
    u.entries d = [e] ∧ u.entries st.place = (s.entries st.place).tail ∧
      (∀ n c, e = .card n → s.ctx n = some c → u.ctx n = some (c.moved .onCar d s.stamp trip)) ∧
      (∀ q, (u.place q).held = (s.place q).held) ∧ u.lifts = (s.depart st.place).lifts := by
  intro u d
  obtain ⟨low, high⟩ := deckPlace_range x st.deck
  let w := (s.depart st.place).setEntries d [e]
  have eq := s.loadOk_claimed x st trip empty claimed head
  have does : u = { w with contexts := u.contexts } := by
    cases e with
    | foreign =>
      have same : u = w := eq
      rw [same]
    | card n =>
      simp only [u, eq, State.updateContext]
      split <;> rfl
  have place (q : Nat) : u.place q = w.place q := State.place_eq_of_places (by rw [does]) q
  refine ⟨?_, ?_, fun n c card hc => ?_, fun q => ?_, ?_⟩
  · rw [State.entries, place]
    exact State.entries_setEntries_self _ (by omega) [e]
  · have own : w.place st.place = (s.depart st.place).place st.place :=
      State.place_setEntries_ne _ (by omega : deckPlace x st.deck ≠ st.place) [e]
    rw [State.entries, place, own, State.place_depart_self _ (by omega)]
    simp
  · subst card
    have same : w.ctx n = s.ctx n := State.ctx_congr _ (by simp [w]) n
    refine (congrArg (fun t => State.ctx t n) eq).trans ?_
    refine (State.ctx_updateContext w n _ n).trans ?_
    rw [if_pos rfl, same, hc]
    rfl
  · rw [place]; simp [w]
  · rw [does]; simp [w]

theorem State.unloadOk_empty (empty : s.deck x st.deck = none) : s.unloadOk x st trip = s.released st := by
  simp only [State.unloadOk, empty] <;> rfl

/-- The deck's entry joins the place's tail (R118). -/
theorem State.unloadOk_spec {e : Entry} (slot : st.place < 164) (deck : s.deck x st.deck = some e) :
    let u := s.unloadOk x st trip
    let d := deckPlace x st.deck
    u.entries d = [] ∧ u.entries st.place = s.entries st.place ++ [e] ∧
      (u.place st.place).res = (if st.reserved then (s.place st.place).res - 1 else (s.place st.place).res) ∧
      (∀ n c, e = .card n → s.ctx n = some c →
        u.ctx n = some (c.moved (if c.kind = .store then .inLane else .inSpur) st.place s.stamp trip)) ∧
      (∀ q, (u.place q).held = (s.place q).held) ∧ u.lifts = s.lifts := by
  intro u d
  obtain ⟨low, high⟩ := deckPlace_range x st.deck
  have apart : st.place ≠ d := by omega
  let v := s.setEntries d []
  let w := if st.reserved then v.arriveReserved st.place e else v.arrive st.place e
  have eq : u = match (generalizing := false) e with
      | .foreign => w
      | .card n => w.updateContext n (fun c => c.moved (if c.kind = .store then .inLane else .inSpur) st.place s.stamp trip) := by
    simp only [u, State.unloadOk, deck] <;> rfl
  have does : u = { w with contexts := u.contexts } := by
    cases e with
    | foreign =>
      have same : u = w := eq
      rw [same]
    | card n =>
      simp only [eq, State.updateContext]
      split <;> rfl
  have place (q : Nat) : u.place q = w.place q := State.place_eq_of_places (by rw [does]) q
  have before : v.place st.place = s.place st.place := State.place_setEntries_ne _ (Ne.symm apart) []
  have ownEntries : (w.place st.place).entries = s.entries st.place ++ [e] := by
    simp only [w]
    split
    · rw [State.place_arriveReserved_self _ (by omega)]; simp [State.entries, before]
    · rw [State.place_arrive_self _ _ (by omega)]; simp [State.entries, before]
  have ownRes : (w.place st.place).res = (if st.reserved then (s.place st.place).res - 1 else (s.place st.place).res) := by
    simp only [w]
    split
    · rw [State.place_arriveReserved_self _ (by omega)]; simp [before]
    · rw [State.place_arrive_self _ _ (by omega)]; simp [before]
  have other : w.place d = v.place d := by
    simp only [w]
    split
    · exact State.place_arriveReserved_ne _ apart e
    · exact State.place_arrive_ne _ _ apart e
  have contexts : w.contexts = s.contexts := by simp only [w]; split <;> simp [v]
  refine ⟨?_, by rw [State.entries, place]; exact ownEntries, by rw [place]; exact ownRes, fun n c card hc => ?_, fun q => ?_, ?_⟩
  · rw [State.entries, place, other]
    exact State.entries_setEntries_self _ (by omega) []
  · subst card
    refine (congrArg (fun t => State.ctx t n) eq).trans ?_
    refine (State.ctx_updateContext w n _ n).trans ?_
    rw [if_pos rfl, State.ctx_congr s contexts, hc]
    rfl
  · rw [place]
    simp only [w]
    split <;> simp [v]
  · rw [does]
    simp only [w]
    split <;> simp [v]

/-- An empty deck loses what it is recorded to hold (R118, R127). -/
theorem State.deckLost_spec (d : Deck) :
    let u := s.deckLost x d
    u.entries (deckPlace x d) = [] ∧ (∀ q, q ≠ deckPlace x d → u.place q = s.place q) ∧ u.lifts = s.lifts ∧
      (∀ q, (u.place q).held = (s.place q).held) ∧
      (∀ n c, s.deck x d = some (.card n) → s.ctx n = some c →
        u.ctx n = none ∧ u.cardState n = cardFailed ∧ u.cardByte n 32 = 0x12 ∧ u.cardByte n 33 = byteOf (deckPlace x d)) := by
  intro u
  obtain ⟨low, high⟩ := deckPlace_range x d
  let w := s.setEntries (deckPlace x d) []
  have cleared (does : u.places = w.places) : u.entries (deckPlace x d) = [] ∧
      (∀ q, q ≠ deckPlace x d → u.place q = s.place q) ∧ ∀ q, (u.place q).held = (s.place q).held := by
    have place (q : Nat) : u.place q = w.place q := State.place_eq_of_places does q
    refine ⟨?_, fun q ne => ?_, fun q => ?_⟩
    · rw [State.entries, place]; exact State.entries_setEntries_self _ (by omega) []
    · rw [place]; exact State.place_setEntries_ne _ (Ne.symm ne) []
    · rw [place]; exact State.held_setEntries _ _ _ _
  have lifts : u.lifts = s.lifts := by simp [u]
  cases deck : s.deck x d with
  | none =>
    have does : u = s := by simp only [u, State.deckLost, deck]
    have empty : s.entries (deckPlace x d) = [] := List.head?_eq_none_iff.1 deck
    rw [does]
    exact ⟨empty, fun _ _ => rfl, rfl, fun _ => rfl, by simp⟩
  | some e => cases e with
    | foreign =>
      have does : u = w := by simp only [u, State.deckLost, deck, w]
      obtain ⟨empty, others, kept⟩ := cleared (by rw [does])
      exact ⟨empty, others, lifts, kept, by simp⟩
    | card m =>
      have does : u = w.finishOrder m cardFailed .lost (byteOf (deckPlace x d)) := by simp only [u, State.deckLost, deck, w]
      obtain ⟨empty, others, kept⟩ := cleared (by rw [does]; simp)
      refine ⟨empty, others, lifts, kept, fun n c own hc => ?_⟩
      cases own
      have hc' : w.ctx m = some c := (State.ctx_congr s (by simp [w]) m).trans hc
      obtain ⟨-, -, gone, outcome, -⟩ := Machine.finishOrder w m c cardFailed .lost (byteOf (deckPlace x d)) true
        (s.ctx_lt m c hc) hc'
      rw [does]
      exact ⟨gone, outcome.state, outcome.reason, outcome.detail⟩

/-- An unload whose place is blocked (R118). -/
theorem State.unloadBlocked_spec (slot : st.place < 164) :
    let u := s.unloadBlocked x st
    (u.place st.place).frozen = some .unloadBlocked ∧ (∀ q, u.entries q = s.entries q) ∧
      (u.place st.place).res = (if st.reserved then (s.place st.place).res - 1 else (s.place st.place).res) ∧
      (∀ q, (u.place q).lock = (s.place q).lock) ∧ u.lifts = s.lifts ∧
      (∀ n c, s.deck x st.deck = some (.card n) → s.ctx n = some c → u.ctx n =
        if isInbound st.place = true ∧ c.kind = .store ∧ c.phase = .onCar then
          some { c with phase := .returning, failure := some (.blocked, byteOf st.place) }
        else some c) := by
  intro u
  let v := s.freeze st.place .unloadBlocked
  let w := v.released st
  have eq : u = match s.deck x st.deck with
      | some (.card n) => if isInbound st.place then w.turnBack n st.place .blocked else w
      | _ => w := rfl
  have does : u = { w with contexts := u.contexts } := by
    rw [eq]
    split
    · split
      · unfold State.turnBack State.updateContext
        split <;> rfl
      · rfl
    · rfl
  have place (q : Nat) : u.place q = w.place q := State.place_eq_of_places (by rw [does]) q
  obtain ⟨res, -, entries⟩ := v.released_place st slot
  obtain ⟨lifts, contexts⟩ := v.released_frame st
  have frozen : v.place st.place = s.retimed st.place { s.place st.place with frozen := some .unloadBlocked } :=
    State.place_freeze_self _ (by omega) _
  have held (q : Nat) : (w.place q).held = (v.place q).held := by
    simp only [w, State.released]
    split <;> simp
  refine ⟨?_, fun q => ?_, ?_, fun q => ?_, ?_, fun n c deck hc => ?_⟩
  · rw [place]
    have same : (w.place st.place).frozen = (v.place st.place).frozen := congrArg Prod.snd (held st.place)
    rw [same, frozen]
    simp
  · rw [State.entries, place]
    exact (entries q).trans (State.entries_freeze _ _ _ _)
  · rw [place, res, frozen]
    simp
  · rw [place]
    exact (lock_of_held (held q)).trans (State.lock_freeze _ _ _ _)
  · rw [does]
    exact lifts.trans (by simp [v])
  · have ctx : w.ctx n = some c := (State.ctx_congr s (contexts.trans (by simp [v])) n).trans hc
    rw [eq, deck]
    dsimp only
    split
    · next inbound =>
      rw [State.ctx_turnBack, if_pos rfl, ctx, inbound]
      simp only [Option.map_some, Context.turnedBack, true_and]
      split <;> rfl
    · next outbound =>
      rw [if_neg fun h => outbound h.1]
      exact ctx

/-! ### The stop's record and the lane's lock -/

/-- Ending a stop closes its record: it holds no claim and no reservation (R117). -/
theorem State.stop_endStop {i : Nat} {st' : Stop} (held : (s.lift x).trip.bind (fun w => w.stop i) = some st')
    (o : StopOutcome) : ((s.endStop x i o).lift x).trip.bind (fun w => w.stop i) =
      some { st' with outcome := o, claim := none, reserved := false } := by
  rw [State.endStop, State.lift_updateLift_self]
  cases trip : (s.lift x).trip with
  | none => rw [trip] at held; cases held
  | some w =>
    rw [trip] at held
    have record : w.plan.stops[i]? = some st' := held
    simp [Lift.endStop, trip, Trip.endStop, Trip.stop, List.getElem?_modify, record]

/-- A head that leaves moves FOREIGN claims alone (R102). -/
theorem State.stop_depart {i : Nat} {st' : Stop} (held : (s.lift x).trip.bind (fun w => w.stop i) = some st') (p : Nat) :
    ∃ claim, ((s.depart p).lift x).trip.bind (fun w => w.stop i) = some { st' with claim := claim } := by
  have left (st : Stop) : ∃ claim, st.headLeft p = { st with claim := claim } := by
    unfold Stop.headLeft
    split
    · split
      · exact ⟨_, rfl⟩
      · exact ⟨_, rfl⟩
    · exact ⟨_, rfl⟩
  have kept : ∃ claim, (s.lift x).trip.bind (fun w => w.stop i) = some { st' with claim := claim } := ⟨_, held⟩
  unfold State.depart
  dsimp only
  split
  · by_cases own : placeSide p = x
    · subst own
      obtain ⟨claim, eq⟩ := left st'
      refine ⟨claim, ?_⟩
      rw [State.lift_updateLift_self, State.lift_tellAll, State.lift_congr (s := s) (by simp)]
      cases trip : (s.lift (placeSide p)).trip with
      | none => rw [trip] at held; cases held
      | some w =>
        rw [trip] at held
        have record : w.plan.stops[i]? = some st' := held
        simp [Lift.mapStops, Plan.mapStops, trip, Trip.stop, record, eq]
    · rw [State.lift_updateLift_ne _ _ _ _ own, State.lift_tellAll, State.lift_congr (s := s) (by simp)]
      exact kept
  · rw [State.lift_tellAll, State.lift_congr (s := s) (by simp)]
    exact kept

end

section
variable {s : State} {x : Side} {i stop : Nat} {st : Stop} {trip : Byte} {r : StopResult}

theorem Stop.load_or_unload (st : Stop) : st.action = .load ∨ st.action = .unload := by
  cases st.action with
  | load => exact .inl rfl
  | unload => exact .inr rfl

/-- The result of a stop leaves every lock, and the stop's record but for its claim (R117). -/
theorem State.stopEffect_stands (slot : st.place < 164) (held : (s.lift x).trip.bind (fun w => w.stop i) = some st) :
    (∀ q, ((s.stopEffect x st trip r).place q).lock = (s.place q).lock) ∧
      ∃ claim, ((s.stopEffect x st trip r).lift x).trip.bind (fun w => w.stop i) = some { st with claim := claim } := by
  have same {t : State} (lifts : t.lifts = s.lifts) :
      ∃ claim, (t.lift x).trip.bind (fun w => w.stop i) = some { st with claim := claim } :=
    ⟨st.claim, by rw [State.lift_congr lifts]; exact held⟩
  have frozen (f : Freeze) : (∀ q, ((s.freeze st.place f).place q).lock = (s.place q).lock) ∧
      ∃ claim, ((s.freeze st.place f).lift x).trip.bind (fun w => w.stop i) = some { st with claim := claim } :=
    ⟨fun q => State.lock_freeze _ _ _ _, same (by simp)⟩
  cases r with
  | ok =>
    rcases st.load_or_unload with action | action
    · rw [s.stopEffect_load_ok x st trip action]
      by_cases empty : s.deck x st.deck = none
      · cases claimed : s.claimHeads st with
        | false =>
          rw [s.loadOk_unclaimed x st trip empty claimed]
          exact ⟨fun q => lock_of_held (State.held_setEntries _ _ _ _), same (by simp)⟩
        | true => cases head : s.head st.place with
          | none =>
            have does : s.loadOk x st trip = s.setEntries (deckPlace x st.deck) [.foreign] := by
              simp only [State.loadOk, empty, claimed, head, Option.isSome_none, Bool.false_eq_true, if_false]
            rw [does]
            exact ⟨fun q => lock_of_held (State.held_setEntries _ _ _ _), same (by simp)⟩
          | some e =>
            obtain ⟨-, -, -, kept, lifts⟩ := s.loadOk_spec x st trip slot empty claimed head
            refine ⟨fun q => lock_of_held (kept q), ?_⟩
            rw [State.lift_congr lifts]
            exact s.stop_depart x held st.place
      · rw [s.loadOk_occupied x st trip empty]
        exact ⟨fun _ => rfl, same rfl⟩
    · rw [s.stopEffect_unload_ok x st trip action]
      cases deck : s.deck x st.deck with
      | none =>
        rw [s.unloadOk_empty x st trip deck]
        refine ⟨fun q => ?_, same (s.released_frame st).1⟩
        unfold State.released
        split
        · exact lock_of_held (State.held_unreserve _ _ _)
        · rfl
      | some e =>
        obtain ⟨-, -, -, -, kept, lifts⟩ := s.unloadOk_spec x st trip slot deck
        exact ⟨fun q => lock_of_held (kept q), same lifts⟩
  | empty =>
    rcases st.load_or_unload with action | action
    · rw [s.stopEffect_load_frozen x st trip (.inl rfl) action]; exact frozen .loadEmpty
    · rw [s.stopEffect_unload_empty x st trip action, State.released]
      obtain ⟨-, -, lifts, kept, -⟩ := s.deckLost_spec x st.deck
      split
      · exact ⟨fun q => lock_of_held ((State.held_unreserve _ _ _).trans (kept q)), same (by simp)⟩
      · exact ⟨fun q => lock_of_held (kept q), same lifts⟩
  | blocked =>
    rcases st.load_or_unload with action | action
    · rw [s.stopEffect_load_frozen x st trip (.inr rfl) action]; exact frozen .loadEmpty
    · rw [s.stopEffect_unload_blocked x st trip action]
      obtain ⟨-, -, -, kept, lifts, -⟩ := s.unloadBlocked_spec x st slot
      exact ⟨kept, same lifts⟩
  | jam => exact ⟨fun _ => rfl, same rfl⟩

theorem State.stopResult_mirrored (slot : st.place < 164) :
    (s.stopResult x st trip r).Mirrored st.place ∧ (s.stopResult x st trip r).Mirrored (deckPlace x st.deck) := by
  obtain ⟨low, high⟩ := deckPlace_range x st.deck
  refine ⟨State.writeMirror_mirrored _ (by omega), fun i hi => ?_⟩
  rw [State.stopResult, State.read_writeMirror_outside _ (.inr (by omega))]
  exact State.writeMirror_mirrored (s.stopEffect x st trip r) (by omega) i hi

/-! ### The lock released at a stop's end (R8, R117) -/

theorem State.unlockStop_spec (slot : st.place < 164) : (∀ q, (s.unlockStop st).entries q = s.entries q) ∧
    (∀ q, ((s.unlockStop st).place q).res = (s.place q).res) ∧
    (isLane st.place = true → (s.place st.place).lock = .lift → ((s.unlockStop st).place st.place).lock = .none) := by
  unfold State.unlockStop
  split
  · refine ⟨fun q => ?_, fun q => ?_, fun _ _ => ?_⟩
    · rw [State.entries, State.unlockLane, State.place_tellAll]
      exact s.entries_setPlace _ (by rfl) q
    · by_cases own : st.place = q
      · subst own; rw [State.place_unlockLane_self _ (by omega)]; simp
      · rw [State.place_unlockLane_ne _ own]
    · rw [State.place_unlockLane_self _ (by omega)]; simp
  · next not => exact ⟨fun _ => rfl, fun _ => rfl, fun lane lock => absurd ⟨lane, lock⟩ not⟩

end

/-! ### A plan discarded -/

section
variable (s : State) (x : Side)

@[simp] theorem State.entries_lock_releaseStops (stops : List Stop) (q : Nat) : (s.releaseStops stops).entries q = s.entries q ∧
    ((s.releaseStops stops).place q).lock = (s.place q).lock := by
  induction stops generalizing s with
  | nil => exact ⟨rfl, rfl⟩
  | cons st stops ih =>
    have eq : s.releaseStops (st :: stops) = (if st.reserved then s.unreserve st.place else s).releaseStops stops := rfl
    obtain ⟨entries, lock⟩ := ih (if st.reserved then s.unreserve st.place else s)
    rw [eq, entries, lock]
    split
    · exact ⟨State.entries_unreserve _ _ _, lock_of_held (State.held_unreserve _ _ _)⟩
    · exact ⟨rfl, rfl⟩

theorem State.entries_lock_discardPlan (q : Nat) : (s.discardPlan x).entries q = s.entries q ∧
    ((s.discardPlan x).place q).lock = (s.place q).lock := by
  unfold State.discardPlan
  split
  · exact ⟨rfl, rfl⟩
  · exact State.entries_lock_releaseStops _ _ q

theorem State.discardPlan_none (none : (s.lift x).pending = none) : s.discardPlan x = s := by
  simp only [State.discardPlan, none]

theorem srcLift_lt : srcLift x < 48 := by cases x <;> decide

/-- A fault: the lift is FAULTED, its queue empty, its plan gone and FAULT raised (R119). -/
theorem State.liftFaults_spec (code : Byte) :
    let u := s.liftFaults x code
    u.lift x = { (s.lift x).noQueue with
      state := .faulted, park := none, wake := none, ask := none, awaitReady := false, pending := none } ∧
      (∀ q, u.entries q = s.entries q) ∧ (∀ q, (u.place q).lock = (s.place q).lock) ∧ u.contexts = s.contexts ∧
      ((s.lift x).pending = none → u.places = s.places) ∧
      u.cond (srcLift x) = (s.cond (srcLift x)).raised .fault code (byteOf (s.lift x).stray) s.stamp := by
  intro u
  let v := s.updateLift x (fun l => { l.noQueue with state := .faulted, park := none, wake := none, ask := none, awaitReady := false })
  have own : v.lift x = { (s.lift x).noQueue with
      state := .faulted, park := none, wake := none, ask := none, awaitReady := false } := State.lift_updateLift_self _ _ _
  have lift : (v.discardPlan x).lift x = { (s.lift x).noQueue with
      state := .faulted, park := none, wake := none, ask := none, awaitReady := false, pending := none } := by
    rw [State.discardPlan_lift, own]
  have place (q : Nat) : u.place q = (v.discardPlan x).place q := State.place_eq_of_places (by simp [u, State.liftFaults]; rfl) q
  refine ⟨?_, fun q => ?_, fun q => ?_, by simp [u, State.liftFaults], fun none => ?_, ?_⟩
  · rw [← lift]
    exact State.lift_congr (by simp [u, State.liftFaults]; rfl) x
  · rw [State.entries, place]; exact (v.entries_lock_discardPlan x q).1
  · rw [place]; exact (v.entries_lock_discardPlan x q).2
  · have kept : v.discardPlan x = v := v.discardPlan_none x (by rw [own]; exact none)
    have does : u = v.raiseLift x .fault code := by
      simp only [u, State.liftFaults, State.enterFaulted]
      rw [show s.updateLift x _ = v from rfl, kept]
    rw [does]
    simp [v]
  · have eq : u = (v.discardPlan x).raise (srcLift x) .fault code (byteOf ((v.discardPlan x).lift x).stray) := rfl
    rw [eq, State.cond_raise_self _ (srcLift_lt x), lift, State.cond_congr (s := s) (by simp [v]),
      State.stamp_congr (s := s) (by simp [v])]
    rfl

end

/-! ### The frame STOP-DONE (R111, R117) -/

section
variable {s : State} {x : Side} {i stop : Nat} {st : Stop} {trip : Byte} {r : StopResult} {t : Trip}

theorem takesStopDone_iff (l : LiftState) : takesStopDone l = true ↔ l = .onTrip ∨ l = .syncing ∨ l = .faulted := by
  cases l <;> simp [takesStopDone]

theorem State.takeStopDone_current (takes : takesStopDone (s.lift x).state = true)
    (h : CurrentStop s x t i st .transferring trip stop) (notJam : r ≠ .jam) :
    s.takeStopDone x trip stop r = ((s.unlockStop st).stopResult x st trip r).endStop x i (.done r) := by
  cases r with
  | jam => exact absurd rfl notJam
  | _ => simp only [State.takeStopDone, takes, h.named]

theorem State.takeStopDone_jam (takes : takesStopDone (s.lift x).state = true)
    (h : CurrentStop s x t i st .transferring trip stop) :
    s.takeStopDone x trip stop .jam = ((s.unlockStop st).updateLift x (fun l => l.jam i)).liftFaults x 0x00 := by
  simp only [State.takeStopDone, takes, h.named]

theorem State.takeStopDone_stray
    (none : ¬∃ t i st, takesStopDone (s.lift x).state = true ∧ CurrentStop s x t i st .transferring trip stop) :
    s.takeStopDone x trip stop r = s.strayFrame x := by
  unfold State.takeStopDone
  split
  · next r' takes named =>
    obtain ⟨t, current⟩ := CurrentStop.of_named named
    exact absurd ⟨t, r'.1, r'.2, takes, current⟩ none
  · rfl

theorem CurrentStop.of_heard {ph : StopPhase} (h : CurrentStop (s.heard x) x t i st ph trip stop) :
    CurrentStop s x t i st ph trip stop := by
  obtain ⟨held, current, record, phase, number, index⟩ := h
  rw [State.lift_heard_self] at held
  exact ⟨held, current, record, phase, number, index⟩

end

/-- Settles O49, result by result, over the state in which the stop's lane is unlocked. -/
theorem stopDoneTaken : Obligations.StopDoneTaken := by
  refine ⟨fun s x trip stop r t i st up takes current notJam slot => ?done, takesStopDone_iff,
    fun s x trip stop r up quiet none => ?stray, fun s x trip stop t i st up takes current slot => ?jam⟩
  case done =>
    intro v u d freed
    let w := v.stopEffect x st trip r
    obtain ⟨low, high⟩ := deckPlace_range x st.deck
    have takes' : takesStopDone ((s.heard x).lift x).state = true := by rw [State.lift_heard_self]; exact takes
    have leads := exec_leads_frame (c := .stopDone x trip stop r) (f := fun u => u.takeStopDone x trip stop r) up rfl
    rw [State.takeStopDone_current takes' current.heard notJam] at leads
    obtain ⟨entries, res, unlocked⟩ := (s.heard x).unlockStop_spec (st := st) slot
    have heard := up.heard_eq
    have places (q : Nat) : (s.heard x).place q = s.place q := by rw [heard]; rfl
    have vEntries (q : Nat) : v.entries q = s.entries q := (entries q).trans (congrArg Place.entries (places q))
    have vRes (q : Nat) : (v.place q).res = (s.place q).res := (res q).trans (congrArg Place.res (places q))
    have vDeck : v.deck x st.deck = s.deck x st.deck := State.deck_congr _ (vEntries _)
    have vClaim : v.claimHeads st = s.claimHeads st := State.claimHeads_congr _ (vEntries _)
    have vHead : v.head st.place = s.head st.place := congrArg List.head? (vEntries _)
    have vContexts : v.contexts = s.contexts := by simp [v, heard]
    have vCtx (n : Nat) : v.ctx n = s.ctx n := State.ctx_congr _ vContexts n
    have vStamp : v.stamp = s.stamp := State.stamp_congr (by simp [v, heard])
    have vStop : (v.lift x).trip.bind (fun w => w.stop i) = some st := by
      rw [State.lift_congr (s := s.heard x) (by simp [v]), State.lift_heard_self]
      simp [current.held, current.record]
    obtain ⟨locks, claim, record⟩ := State.stopEffect_stands (r := r) (trip := trip) slot vStop
    have uPlace (q : Nat) : u.place q = w.place q := rfl
    have uEntries (q : Nat) : u.entries q = w.entries q := rfl
    have uCtx (n : Nat) : u.ctx n = w.ctx n := rfl
    have uContexts : u.contexts = w.contexts := rfl
    have mirrored := v.stopResult_mirrored (x := x) (st := st) (trip := trip) (r := r) slot
    refine ⟨leads, mirrored.1.congr rfl rfl rfl, mirrored.2.congr rfl rfl rfl, ?record, fun lane lock => ?lock,
      fun e ok load empty claimed head => ?loaded, fun ok load empty unclaimed => ?foreign, fun ok load occupied => ?full,
      fun ok unload empty => ?nothing, fun e ok unload deck => ?unloaded, fun frozen load => ?frozen,
      fun found unload => ?lost, fun blocked unload => ?blocked⟩
    case record => exact State.stop_endStop _ _ (st' := { st with claim := claim }) record (.done r)
    case lock =>
      rw [uPlace, locks]
      exact unlocked lane (by rw [places]; exact lock)
    case loaded =>
      have does : w = v.loadOk x st trip := by simp only [w, ok, v.stopEffect_load_ok x st trip load]
      obtain ⟨deck, place, card, -⟩ := v.loadOk_spec x st trip slot (vDeck.trans empty) (vClaim.trans claimed) (vHead.trans head)
      rw [uEntries, uEntries, does, deck, place, vEntries]
      refine ⟨rfl, rfl, fun n c own hc => ?_⟩
      rw [uCtx, does, card n c own ((vCtx n).trans hc), vStamp]
      rfl
    case foreign =>
      have does : w = v.setEntries d [.foreign] := by
        simp only [w, ok, v.stopEffect_load_ok x st trip load]
        exact v.loadOk_unclaimed x st trip (vDeck.trans empty) (vClaim.trans unclaimed)
      have other : w.entries st.place = v.entries st.place := by
        rw [does, State.entries, State.place_setEntries_ne _ (by omega : d ≠ st.place)]
        rfl
      rw [uEntries, uEntries, uContexts, other, vEntries, does]
      exact ⟨State.entries_setEntries_self _ (by omega) _, rfl, by simp [vContexts]⟩
    case full =>
      have does : w = v := by
        simp only [w, ok, v.stopEffect_load_ok x st trip load]
        exact v.loadOk_occupied x st trip (by rw [vDeck]; exact occupied)
      rw [uEntries, uEntries, uContexts, does, vEntries, vEntries]
      exact ⟨rfl, rfl, vContexts⟩
    case nothing =>
      have does : w = v.released st := by
        simp only [w, ok, v.stopEffect_unload_ok x st trip unload]
        exact v.unloadOk_empty x st trip (vDeck.trans empty)
      obtain ⟨ownRes, -, kept⟩ := v.released_place st slot
      rw [uEntries, uEntries, uPlace, uContexts, does, kept, kept, vEntries, vEntries, ownRes, vRes]
      exact ⟨rfl, rfl, rfl, (v.released_frame st).2.trans vContexts⟩
    case unloaded =>
      have does : w = v.unloadOk x st trip := by simp only [w, ok, v.stopEffect_unload_ok x st trip unload]
      obtain ⟨emptied, joined, ownRes, card, -⟩ := v.unloadOk_spec x st trip slot (vDeck.trans deck)
      rw [uEntries, uEntries, uPlace, does, emptied, joined, ownRes, vRes, vEntries]
      refine ⟨rfl, rfl, rfl, fun n c own hc => ?_⟩
      rw [uCtx, does, card n c own ((vCtx n).trans hc), vStamp]
      rfl
    case frozen =>
      have does : w = v.freeze st.place .loadEmpty := v.stopEffect_load_frozen x st trip frozen load
      rw [uPlace, uEntries, uEntries, does, State.entries_freeze, State.entries_freeze, vEntries, vEntries,
        State.place_freeze_self _ (by omega)]
      exact ⟨by simp, rfl, rfl⟩
    case lost =>
      have does : w = (v.deckLost x st.deck).released st := by
        simp only [w, found, v.stopEffect_unload_empty x st trip unload]
      obtain ⟨emptied, others, -, -, card⟩ := v.deckLost_spec x st.deck
      obtain ⟨ownRes, -, kept⟩ := (v.deckLost x st.deck).released_place st slot
      have own := others st.place (by omega)
      rw [uEntries, uEntries, uPlace, does, kept, kept, emptied, ownRes, own]
      refine ⟨rfl, ?_, by rw [vRes], fun n c deck hc => ?_⟩
      · exact (congrArg Place.entries own).trans (vEntries _)
      · obtain ⟨gone, state, reason, detail⟩ := card n c (vDeck.trans deck) ((vCtx n).trans hc)
        have slotN := s.ctx_lt n c hc
        have below (a : Nat) (ha : a < 0x3000) : Memory.read u.board.mem a = Memory.read (v.deckLost x st.deck).board.mem a := by
          have wrote : Memory.read u.board.mem a = Memory.read w.board.mem a :=
            (State.read_writeMirror_below _ ha).trans (State.read_writeMirror_below w ha)
          rw [wrote, does, State.released]
          split
          · exact State.read_unreserve_below _ ha
          · rfl
        have byte (j : Nat) (hj : j < 64) : u.cardByte n j = (v.deckLost x st.deck).cardByte n j :=
          State.cardByte_congr _ slotN hj below
        refine ⟨?_, (byte 0 (by decide)).trans state, (byte 32 (by decide)).trans reason, (byte 33 (by decide)).trans detail⟩
        rw [uCtx, does]
        exact (State.ctx_congr _ ((v.deckLost x st.deck).released_frame st).2 n).trans gone
    case blocked =>
      have does : w = v.unloadBlocked x st := by
        simp only [w, blocked, v.stopEffect_unload_blocked x st trip unload]
      obtain ⟨frozen, kept, ownRes, -, -, card⟩ := v.unloadBlocked_spec x st slot
      rw [uEntries, uEntries, uPlace, does, kept, kept, vEntries, vEntries, ownRes, vRes]
      refine ⟨frozen, rfl, rfl, rfl, fun n c deck hc => ?_⟩
      rw [uCtx, does, card n c (vDeck.trans deck) ((vCtx n).trans hc)]
  case stray =>
    have stray : (s.heard x).takeStopDone x trip stop r = (s.heard x).strayFrame x := by
      refine State.takeStopDone_stray fun ⟨t, i, st, takes, current⟩ => none ⟨t, i, st, ?_, current.of_heard⟩
      rw [State.lift_heard_self] at takes
      exact takes
    have does := stray.trans (State.strayFrame_heard up)
    rw [exec_of_frame (f := fun u => u.takeStopDone x trip stop r) up quiet rfl (by rw [does]), does]
  case jam =>
    intro u
    have takes' : takesStopDone ((s.heard x).lift x).state = true := by rw [State.lift_heard_self]; exact takes
    have leads := exec_leads_frame (c := .stopDone x trip stop .jam) (f := fun u => u.takeStopDone x trip stop .jam) up rfl
    rw [State.takeStopDone_jam takes' current.heard] at leads
    let v := ((s.heard x).unlockStop st).updateLift x (fun l => l.jam i)
    have heard := up.heard_eq
    have places (q : Nat) : (s.heard x).place q = s.place q := by rw [heard]; rfl
    obtain ⟨entries, res, unlocked⟩ := (s.heard x).unlockStop_spec (st := st) slot
    have own : v.lift x = ({ s.lift x with silence := some 300 } : Lift).jam i := by
      rw [State.lift_updateLift_self, State.lift_congr (s := s.heard x) (by simp), State.lift_heard_self]
    obtain ⟨lift, kept, locks, contexts, still, raised⟩ := v.liftFaults_spec x 0x00
    rw [own] at lift still raised
    refine ⟨leads, by rw [lift], by rw [lift]; rfl, ?_, fun lane lock => ?_, fun q => ?_, ?_, fun none q => ?_, ?_⟩
    · rw [lift]
      simp [Lift.noQueue, Lift.jam, current.held]
    · rw [locks]
      exact unlocked lane (by rw [places]; exact lock)
    · rw [kept]
      exact (entries q).trans (congrArg Place.entries (places q))
    · rw [contexts]
      simp [v, heard]
    · rw [State.place_eq_of_places (still none)]
      exact (res q).trans (congrArg Place.res (places q))
    · rw [raised, State.cond_congr (s := s) (by simp [v, heard]), State.stamp_congr (s := s) (by simp [v, heard])]
      rfl

end Sys2Proof.Machine
end

section
/-! PROOF. The frames by which a lift tells of its state: TRIP-END, READY and PARKED-ACK, and what the lift unit does then
(R112, R120–R123; the statement LiftStateFrames). -/

namespace Sys2Proof.Machine

/-! ### The lift unit's operations -/

section
variable (s : State) (x : Side)

theorem LinkUp.heard_liftOnly {s : State} {x : Side} (up : LinkUp s x) : s.LiftOnly (s.heard x) := by rw [up.heard_eq]; rfl

theorem State.lift_heard_other : (s.heard x).lift (otherSide x) = s.lift (otherSide x) := by
  rw [State.heard, State.lift_updateLift_ne _ _ _ _ (by cases x <;> decide), State.lift_begin]

theorem State.queueLift_liftOnly (c : LiftCmd) : s.LiftOnly (s.queueLift x c) :=
  (s.updateLift_liftOnly x _).trans (State.pump_liftOnly _ x)

theorem State.lift_queueLift_other (c : LiftCmd) : (s.queueLift x c).lift (otherSide x) = s.lift (otherSide x) :=
  State.lift_queueLift_ne _ _ (by cases x <;> decide)

theorem State.lift_updateLift_other (f : Lift → Lift) : (s.updateLift x f).lift (otherSide x) = s.lift (otherSide x) :=
  State.lift_updateLift_ne _ _ _ _ (by cases x <;> decide)

/-- A command queued behind no other is sent at once (R110). -/
theorem State.sent_queueLift (c : LiftCmd) (empty : (s.lift x).queue = []) (fresh : (s.lift x).sends = 0)
    (known : (s.lift x).needStatus = false) (locked : (s.lift x).state ≠ .offline) :
    (s.queueLift x c).sent = s.sent ++ [liftFrame x ((s.lift x).number + 1) c] := by
  have own : (s.updateLift x (fun l => { l with queue := l.queue ++ [c] })).lift x =
      { s.lift x with queue := (s.lift x).queue ++ [c] } := State.lift_updateLift_self _ _ _
  rw [State.queueLift, State.pump_sends _ x (c := c) (cs := []) (by rw [own, empty]; rfl) (by rw [own]; exact fresh)
    (by rw [own]; exact known) (by rw [own]; exact locked), own]
  rfl

theorem State.wakeLift_liftOnly : s.LiftOnly (s.wakeLift x) := (s.updateLift_liftOnly x _).trans (State.queueLift_liftOnly _ x _)

theorem State.wakeLift_spec :
    let u := s.wakeLift x
    (u.lift x).state = .waking ∧ (u.lift x).queue = (s.lift x).queue ++ [.wake] ∧ (u.lift x).wake = some 5000 ∧
      (u.lift x).park = none ∧ (u.lift x).pending = (s.lift x).pending ∧ (u.lift x).trip = (s.lift x).trip ∧
      u.lift (otherSide x) = s.lift (otherSide x) := by
  simp [State.wakeLift, wakeLimit, State.lift_queueLift_other, State.lift_updateLift_other]

/-- The lift's record after a plan has become its trip (R112). -/
def Lift.onTrip (l : Lift) (p : Plan) : Lift :=
  { l with
    state := .onTrip
    counter := nextTrip l.counter
    trip := some { number := nextTrip l.counter, plan := p.mapStops (fun st => { st with outcome := .stillOpen }), phase := .moving,
                   left := 10 * p.deadline, expired := false, jammed := none }
    pending := none
    park := none
    wake := none
    ask := none
    awaitReady := false }

/-- The command that carries a plan (6.2.1). -/
def tripCommand (n : Byte) (p : Plan) : LiftCmd := .trip n (p.stops.map (fun st => (st.level, stopFlags st)))

theorem State.sendTrip_eq (p : Plan) : s.sendTrip x p =
    (s.updateLift x (fun l => l.onTrip p)).queueLift x (tripCommand (nextTrip (s.lift x).counter) p) := rfl

theorem State.sendTrip_liftOnly (p : Plan) : s.LiftOnly (s.sendTrip x p) :=
  (s.updateLift_liftOnly x _).trans (State.queueLift_liftOnly _ x _)

theorem stopFlags_eq (st : Stop) : stopFlags st = (if st.action = .unload then 1 else 0) + (if st.deck = .rear then 2 else 0) +
    (if isInbound st.place = true ∨ isExitSpur st.place = true then 4 else 0) := by
  simp only [stopFlags, Bool.or_eq_true]

theorem State.becomeIdle_eq : s.becomeIdle x =
    if s.mode = .config ∧ (s.lift x).pending = none then
      ((s.updateLift x (fun l => { l with
        state := .idle
        wake := none
        ask := none
        awaitReady := false
        park := if (s.lift x).pending.isNone && (s.mode == .run || s.mode == .hold) && s.parkIdle != 0 then
          some (10000 * s.parkIdle) else none })).tell (.plan x)).parkLift x
    else (s.updateLift x (fun l => { l with
        state := .idle
        wake := none
        ask := none
        awaitReady := false
        park := if (s.lift x).pending.isNone && (s.mode == .run || s.mode == .hold) && s.parkIdle != 0 then
          some (10000 * s.parkIdle) else none })).tell (.plan x) := rfl

theorem State.tell_parts (r : Retry) : s.tell r = { s with wake := (s.tell r).wake } := by
  unfold State.tell
  split <;> rfl

/-- Only the lift units, the frames sent and the list of those told differ. -/
def State.LiftTold (s t : State) : Prop := t = { s with lifts := t.lifts, sent := t.sent, wake := t.wake }

variable {s x}

theorem State.LiftTold.trans {t u : State} (h : s.LiftTold t) (k : t.LiftTold u) : s.LiftTold u := by
  unfold State.LiftTold at h
  rw [h] at k
  exact k

theorem State.LiftOnly.told {t : State} (h : s.LiftOnly t) : s.LiftTold t := by
  unfold State.LiftTold
  rw [h]

theorem State.LiftTold.restored {t : State} (h : s.LiftTold t) :
    { t with lifts := s.lifts, sent := s.sent, wake := s.wake } = s := by rw [h]

variable (s x)

theorem State.tell_liftTold (r : Retry) : s.LiftTold (s.tell r) := by
  rw [State.LiftTold, s.tell_parts r]

theorem State.parkLift_liftTold : s.LiftTold (s.parkLift x) :=
  ((s.updateLift_liftOnly x _).trans (State.queueLift_liftOnly _ x _)).told.trans (State.tell_liftTold _ _)

theorem State.becomeIdle_liftTold : s.LiftTold (s.becomeIdle x) := by
  rw [State.becomeIdle_eq]
  split
  · exact ((s.updateLift_liftOnly x _).told.trans (State.tell_liftTold _ _)).trans (State.parkLift_liftTold _ x)
  · exact (s.updateLift_liftOnly x _).told.trans (State.tell_liftTold _ _)

theorem State.plan_mem_becomeIdle : Retry.plan x ∈ (s.becomeIdle x).wake := by
  rw [State.becomeIdle_eq]
  split
  · exact (State.mem_tell _ _ _).2 (.inr rfl)
  · exact (State.mem_tell _ _ _).2 (.inr rfl)

theorem State.lift_becomeIdle_other : (s.becomeIdle x).lift (otherSide x) = s.lift (otherSide x) := by
  rw [State.becomeIdle_eq]
  split
  · rw [State.parkLift_lift_ne _ (by cases x <;> decide), State.lift_tell, State.lift_updateLift_other]
  · rw [State.lift_tell, State.lift_updateLift_other]

/-- The record of a lift that becomes IDLE (R120, R122). -/
theorem State.lift_becomeIdle (live : s.mode ≠ .init) :
    let idle : Lift := { s.lift x with state := .idle, wake := none, ask := none, awaitReady := false, park := none }
    ((s.lift x).pending ≠ none → (s.becomeIdle x).lift x = idle) ∧
      ((s.lift x).pending = none → s.mode ≠ .config →
        (s.becomeIdle x).lift x = { idle with park := if s.parkIdle = 0 then none else some (10000 * s.parkIdle) }) ∧
      ((s.lift x).pending = none → s.mode = .config → ((s.becomeIdle x).lift x).state = .parking ∧
        ((s.becomeIdle x).lift x).queue = (s.lift x).queue ++ [.park] ∧ ((s.becomeIdle x).lift x).wake = some 5000 ∧
        ((s.becomeIdle x).lift x).park = none) := by
  intro idle
  rw [State.becomeIdle_eq]
  refine ⟨fun planned => ?_, fun none runs => ?_, fun none config => ?_⟩
  · rw [if_neg fun h => planned h.2, State.lift_tell, State.lift_updateLift_self]
    have some' : (s.lift x).pending.isNone = false := Bool.eq_false_iff.2 fun none => planned (Option.isNone_iff_eq_none.1 none)
    simp [some', idle]
  · rw [if_neg fun h => runs h.1, State.lift_tell, State.lift_updateLift_self]
    cases mode : s.mode <;> simp_all [idle]
    all_goals split <;> simp_all
  · rw [if_pos ⟨config, none⟩]
    simp [State.parkLift, wakeLimit]

/-! ### The frames (R120, R122, R123) -/

variable {s x}
variable {trip : Byte} {t : Trip}

theorem State.takeTripEnd_ended (onTrip : (s.lift x).state = .onTrip) (held : (s.lift x).trip = some t) (own : t.number = trip)
    (ended : t.current = none) :
    s.takeTripEnd x trip = (s.updateLift x (fun l => { l with trip := none })).becomeIdle x := by
  simp only [State.takeTripEnd, onTrip, held]
  rw [if_neg (not_not.2 own), if_pos (by rw [ended]; rfl)]

theorem State.takeTripEnd_early {i : Nat} (onTrip : (s.lift x).state = .onTrip) (held : (s.lift x).trip = some t)
    (own : t.number = trip) (current : t.current = some i) :
    s.takeTripEnd x trip = (s.enterSyncing x).queueLift x .stateAsk := by
  simp only [State.takeTripEnd, onTrip, held]
  rw [if_neg (not_not.2 own), if_neg (by simp [current])]

theorem State.takeTripEnd_stray (stray : (s.lift x).state ≠ .onTrip ∨ ∀ t, (s.lift x).trip = some t → t.number ≠ trip) :
    s.takeTripEnd x trip = s.strayFrame x := by
  unfold State.takeTripEnd
  split
  · next t onTrip held =>
    rcases stray with off | other
    · exact absurd onTrip off
    · exact if_pos (other t held)
  · rfl

theorem State.takeReady_waking (waking : (s.lift x).state = .waking) : s.takeReady x = match (s.lift x).pending with
    | some p => if s.mode = .run then s.sendTrip x p else s.becomeIdle x
    | none => s.becomeIdle x := by
  simp only [State.takeReady, waking] <;> rfl

theorem State.takeReady_faulted (faulted : (s.lift x).state = .faulted) :
    s.takeReady x = (s.enterSyncing x).queueLift x .stateAsk := by
  simp only [State.takeReady, faulted]

theorem State.takeReady_syncing (syncing : (s.lift x).state = .syncing) :
    s.takeReady x = if (s.lift x).awaitReady then s.becomeIdle x else s.strayFrame x := by
  simp only [State.takeReady, syncing]

theorem State.takeReady_stray (stray : (s.lift x).state = .idle ∨ (s.lift x).state = .parking ∨ (s.lift x).state = .parked ∨
    (s.lift x).state = .onTrip ∨ ((s.lift x).state = .syncing ∧ (s.lift x).awaitReady = false)) :
    s.takeReady x = s.strayFrame x := by
  rcases stray with h | h | h | h | ⟨h, none⟩
  case inr.inr.inr.inr =>
    rw [State.takeReady_syncing h]
    exact if_neg (by rw [none]; decide)
  all_goals simp only [State.takeReady, h]

theorem State.takeParkedAck_parking (parking : (s.lift x).state = .parking) : s.takeParkedAck x = match (s.lift x).pending with
    | none => (s.updateLift x (fun l => { l with state := .parked, wake := none })).tell (.plan x)
    | some _ => s.wakeLift x := by
  rw [State.takeParkedAck, if_pos parking] <;> rfl

theorem State.lift_enterSyncing : (s.enterSyncing x).lift x =
    { s.lift x with state := .syncing, park := none, wake := none, ask := some 300, awaitReady := false, pending := none } := by
  rw [State.enterSyncing, State.discardPlan_lift, State.lift_updateLift_self]

end

/-- Settles O50, frame by frame and operation by operation. -/
theorem liftStateFrames : Obligations.LiftStateFrames := by
  intro s x trip up h l
  have own : h.lift x = { l with silence := some 300 } := s.lift_heard_self x
  have other : h.lift (otherSide x) = s.lift (otherSide x) := s.lift_heard_other x
  have heard := up.heard_eq
  have mode : h.mode = s.mode := by simp only [h, heard] <;> rfl
  have tripEnd := exec_leads_frame (c := .tripEnd x trip) (f := fun u => u.takeTripEnd x trip) up rfl
  have ready := exec_leads_frame (c := .ready x) (f := fun u => u.takeReady x) up rfl
  have parkedAck := exec_leads_frame (c := .parkedAck x) (f := fun u => u.takeParkedAck x) up rfl
  have state {st : LiftState} (is : l.state = st) : (h.lift x).state = st := by rw [own]; exact is
  have held {t : Trip} (is : l.trip = some t) : (h.lift x).trip = some t := by rw [own]; exact is
  have restored {u : State} (only : h.LiftOnly u) : { u with lifts := s.lifts, sent := s.sent } = s :=
    (up.heard_liftOnly.trans only).restored rfl rfl
  refine ⟨fun t onTrip is number ended => ?_, fun t i onTrip is number current => ?_, fun waking none => ?_,
    fun p waking planned => ?_, fun faulted => ?_, fun syncing awaits => ?_, fun parking none => ?_, fun p parking planned => ?_,
    by rw [State.lift_enterSyncing], ?idle, fun c quiet strays => ?stray, fun p => ?trip, ?wake⟩
  · rw [State.takeTripEnd_ended (state onTrip) (held is) number ended] at tripEnd
    exact tripEnd
  · rw [State.takeTripEnd_early (state onTrip) (held is) number current] at tripEnd
    exact tripEnd
  · rw [State.takeReady_waking (state waking), own, none] at ready
    exact ready
  · rw [State.takeReady_waking (state waking), own, planned, mode] at ready
    exact ready
  · rw [State.takeReady_faulted (state faulted)] at ready
    exact ready
  · rw [State.takeReady_syncing (state syncing), own, if_pos awaits] at ready
    exact ready
  · rw [State.takeParkedAck_parking (state parking), own, none] at parkedAck
    exact parkedAck
  · rw [State.takeParkedAck_parking (state parking), own, planned] at parkedAck
    exact parkedAck
  case idle =>
    obtain ⟨planned, timed, parked⟩ := h.lift_becomeIdle x (by rw [mode]; exact up.mode)
    have parkIdle : h.parkIdle = s.parkIdle := by simp only [h, heard] <;> rfl
    rw [own, mode, parkIdle] at timed
    rw [own] at planned
    rw [own, mode] at parked
    exact ⟨h.plan_mem_becomeIdle x, (up.heard_liftOnly.told.trans (h.becomeIdle_liftTold x)).restored,
      (h.lift_becomeIdle_other x).trans other, planned, timed, parked⟩
  case stray =>
    have does (f : State → State) (e : exec c s = s.liftFrameIn x f) (strays : f h = h.strayFrame x) : exec c s = .next { s with
        sent := [], lifts := s.lifts.set x { l with silence := some 300, stray := min 255 (l.stray + 1) } } := by
      have eq := strays.trans (State.strayFrame_heard up)
      rw [exec_of_frame up quiet e (by rw [show f (s.heard x) = _ from eq]), show f (s.heard x) = _ from eq]
    rcases strays with ⟨rfl, strays⟩ | ⟨rfl, strays⟩ | ⟨rfl, strays⟩
    · refine does (fun u => u.takeTripEnd x trip) rfl (State.takeTripEnd_stray ?_)
      rw [own]; exact strays
    · refine does (fun u => u.takeParkedAck x) rfl (if_neg ?_)
      rw [own]; exact strays
    · refine does (fun u => u.takeReady x) rfl (State.takeReady_stray ?_)
      rw [own]; exact strays
  case trip =>
    intro u n flags cmd
    have flagsEq : stopFlags = flags := funext stopFlags_eq
    have cmdEq : tripCommand n p = cmd := by simp only [tripCommand, flagsEq, cmd]
    let v := h.updateLift x (fun l => l.onTrip p)
    have vOwn : v.lift x = ({ l with silence := some 300 } : Lift).onTrip p := by rw [State.lift_updateLift_self, own]
    have eq : u = v.queueLift x cmd := by
      rw [← cmdEq]
      simp only [u, State.sendTrip_eq, own] <;> rfl
    have queued := v.lift_queueLift_frame x x cmd
    rw [← eq, vOwn] at queued
    obtain ⟨state, counter, trip', pending, -, park, wake, -⟩ := queued
    refine ⟨state, counter, pending, park, wake, ?_, trip', fun empty fresh known => ?_, restored (h.sendTrip_liftOnly x p), ?_⟩
    · rw [eq, State.queue_queueLift, vOwn]; rfl
    · rw [eq, State.sent_queueLift _ _ _ (by rw [vOwn]; exact empty) (by rw [vOwn]; exact fresh) (by rw [vOwn]; exact known)
        (by rw [vOwn]; simp [Lift.onTrip]), vOwn]
      have none : v.sent = [] := by simp only [v, h, heard] <;> rfl
      rw [none]
      simp [liftFrame, liftCmdFrame, cmd, Lift.onTrip, List.flatMap_map]
    · rw [eq, State.lift_queueLift_other, State.lift_updateLift_other, other]
  case wake =>
    obtain ⟨state, queue, wake, park, pending, trip, others⟩ := h.wakeLift_spec x
    rw [own] at queue pending trip
    exact ⟨state, queue, wake, park, pending, trip, restored (h.wakeLift_liftOnly x), others.trans other⟩

end Sys2Proof.Machine
end

section
/-! PROOF. The lift's STATE and FAULT, the frames that bring a lost link back, and the bytes of the lifts' frames (R108, R109, R119,
R125; the statement LiftStateAndFault). -/

namespace Sys2Proof.Machine

/-! ### A link that is heard again (R109) -/

section
variable (s : State) (x : Side)

theorem PerSide.set_set {α : Type} (p : PerSide α) (v w : α) : (p.set x v).set x w = p.set x w := by cases x <;> rfl

theorem State.pump_unknown (unknown : (s.lift x).needStatus = true) : s.pump x = s := by
  unfold State.pump
  dsimp only
  split
  · rfl
  · refine if_neg ?_
    rintro ⟨-, known, -⟩
    rw [unknown] at known
    cases known

/-- The record of a lift whose lost link is heard again: SYNCING, and STATE-ASK queued (R109, R125). -/
def Lift.relocked (l : Lift) : Lift :=
  { l with
    state := .syncing
    silence := some 300
    needStatus := true
    park := none
    wake := none
    ask := some 300
    awaitReady := false
    queue := [.stateAsk] }

variable {s x}

theorem State.hear_offline (offline : (s.lift x).state = .offline) (unplanned : (s.lift x).pending = none)
    (empty : (s.lift x).queue = []) : s.hear x = s.setLift x (s.lift x).relocked := by
  let u := s.updateLift x (fun l => { l with silence := some silenceLimit, needStatus := true })
  let v := u.updateLift x (fun l => { l with state := .syncing, park := none, wake := none, ask := some 300, awaitReady := false })
  let w := v.updateLift x (fun l => { l with queue := l.queue ++ [.stateAsk] })
  have uOwn : u.lift x = { s.lift x with silence := some silenceLimit, needStatus := true } := State.lift_updateLift_self _ _ _
  have vOwn : v.lift x = { u.lift x with state := .syncing, park := none, wake := none, ask := some 300, awaitReady := false } :=
    State.lift_updateLift_self _ _ _
  have wOwn : w.lift x = { v.lift x with queue := (v.lift x).queue ++ [.stateAsk] } := State.lift_updateLift_self _ _ _
  have eq : s.hear x = ((v.discardPlan x).updateLift x (fun l => { l with queue := l.queue ++ [.stateAsk] })).pump x := by
    rw [State.hear, if_pos offline]
    rfl
  have kept : v.discardPlan x = v := v.discardPlan_none x (by rw [vOwn, uOwn]; exact unplanned)
  have known : w.pump x = w := State.pump_unknown _ x (by rw [wOwn, vOwn, uOwn])
  have own : { v.lift x with queue := (v.lift x).queue ++ [.stateAsk] } = (s.lift x).relocked := by
    rw [vOwn, uOwn]
    simp [Lift.relocked, empty, silenceLimit]
  rw [eq, kept, show v.updateLift x _ = w from rfl, known]
  have lifts : w.lifts = s.lifts.set x (s.lift x).relocked := by
    rw [← own]
    exact (PerSide.set_set x _ _ _).trans (PerSide.set_set x _ _ _)
  have only : s.LiftOnly w := rfl
  rw [only, lifts]
  rfl

/-- A valid frame on a lost link is taken in the state in which the lift is SYNCING. -/
theorem exec_leads_relocked {c : Instr} {f : State → State} (awake : Awake s) (offline : (s.lift x).state = .offline)
    (unplanned : (s.lift x).pending = none) (empty : (s.lift x).queue = []) (e : exec c s = s.liftFrameIn x f) :
    Leads c s (f (({ s with sent := [] } : State).setLift x (s.lift x).relocked)) := by
  have begun := s.begin_of_reported awake.reported
  have heard : s.begin.hear x = ({ s with sent := [] } : State).setLift x (s.lift x).relocked := by
    rw [begun]
    exact State.hear_offline (s := { s with sent := [] }) offline unplanned empty
  rw [← heard]
  exact exec_leads (f := fun t => f (t.hear x)) awake.mode e

theorem exec_of_relocked {c : Instr} {f : State → State} {t : State} (awake : Awake s) (offline : (s.lift x).state = .offline)
    (unplanned : (s.lift x).pending = none) (empty : (s.lift x).queue = []) (e : exec c s = s.liftFrameIn x f)
    (does : f (({ s with sent := [] } : State).setLift x (s.lift x).relocked) = t) (untold : t.wake = s.wake) :
    exec c s = .next t := by
  have leads := exec_leads_relocked awake offline unplanned empty e
  rw [Leads, does, State.resolved_quiet (untold.trans awake.quiet)] at leads
  exact leads

/-! ### STATE (R125) -/

theorem State.takeState_eq (level : Nat) (front rear : Bool) (trip : Byte) (last : Nat) (code : Byte) :
    s.takeState x level front rear trip last code =
      if code ≠ 0 then (if (s.lift x).state = .syncing then s else (s.enterSyncing x).queueLift x .stateAsk).liftFaults x code
      else (if (s.lift x).state = .syncing then s else (s.enterSyncing x).queueLift x .stateAsk).reconcile x level front rear trip last :=
  rfl

/-! ### The bytes of a lift's frame (R108, R154) -/

theorem linkCommand_lift_discarded {bs : List Byte} (discarded : BadFrame bs ∨ bs.getD 0 0x00 ≠ 0x00) :
    linkCommand (.lift x) bs = .liftFrameDiscard x := by
  by_cases bad : BadFrame bs
  · simp only [linkCommand, liftCommand, receivedFrame_bad bad]
  · simp only [linkCommand, liftCommand, receivedFrame_good bad, if_neg (discarded.resolve_left bad)]

/-- No kind outside 50h to 57h is in the table: by the value of the kind byte, whatever the payload is. -/
theorem liftKindCommand_unknown {f : Received} (outside : f.kind.toNat < 0x50 ∨ 0x57 < f.kind.toNat) : liftKindCommand x f = none := by
  obtain ⟨address, kind, number, payload⟩ := f
  have small : kind.toNat < 256 := kind.isLt
  have spelled (k : Nat) (h : kind.toNat = k) :
      liftKindCommand x ⟨address, kind, number, payload⟩ = liftKindCommand x ⟨address, BitVec.ofNat 8 k, number, payload⟩ := by
    rw [← h, BitVec.ofNat_toNat, BitVec.setWidth_eq]
  generalize value : kind.toNat = k at small outside
  rw [spelled k value]
  rcases (outside : k < 0x50 ∨ 0x57 < k) with low | high
  · interval_cases k <;> rfl
  · interval_cases k <;> rfl

theorem linkCommand_lift_unknown {bs : List Byte} (good : ¬BadFrame bs) (address : bs.getD 0 0x00 = 0x00)
    (outside : (bs.getD 1 0x00).toNat < 0x50 ∨ 0x57 < (bs.getD 1 0x00).toNat) :
    linkCommand (.lift x) bs = .unknownKindFrame x := by
  simp only [linkCommand, liftCommand, receivedFrame_good good, address, if_true]
  rw [liftKindCommand_unknown outside]
  rfl

theorem linkCommand_lift {kind : Byte} {number : BitVec 4} {payload : List Byte} {i : Instr} (short : payload.length ≤ 32)
    (spells : liftKindCommand x ⟨0x00, kind, number, payload⟩ = some i) :
    linkCommand (.lift x) (frameBytes ⟨.lift x, 0x00, kind, number, payload⟩) = i := by
  rw [linkCommand_lift_frameBytes x _ short rfl, spells, Option.getD_some]

theorem liftKindCommand_status (n accepted : BitVec 4) (level : Byte) :
    liftKindCommand x ⟨0x00, 0x50, n, [level, accepted.setWidth 8]⟩ = some (.status x level.toNat accepted) := by
  have eq : liftKindCommand x ⟨0x00, 0x50, n, [level, accepted.setWidth 8]⟩ =
      (numberOf (accepted.setWidth 8)).map (fun m => .status x level.toNat m) := rfl
  rw [eq, numberOf_setWidth]
  rfl

theorem liftKindCommand_state (n : BitVec 4) (level trip stop code : Byte) (front rear : Bool) :
    liftKindCommand x ⟨0x00, 0x56, n,
      [level, if front then 0x01 else 0x00, if rear then 0x01 else 0x00, trip, stop, code]⟩ =
      some (.state x level.toNat front rear trip stop.toNat code) := by
  cases front <;> cases rear <;> rfl

end

/-- Settles O51, over the state in which the lift is heard. -/
theorem liftStateAndFault : Obligations.LiftStateAndFault := by
  refine ⟨fun s x level front rear trip last code up => ?state, fun s x awake => ?discard,
    fun s x level front rear trip last code accepted awake offline unplanned empty fresh => ?relocked,
    fun s x bs => ⟨rfl, linkCommand_lift_discarded, linkCommand_lift_unknown⟩,
    fun x n accepted level trip stop code front rear => ?spells⟩
  case state =>
    intro h v
    have own : h.lift x = { s.lift x with silence := some 300 } := s.lift_heard_self x
    have heard := up.heard_eq
    have leads := exec_leads_frame (c := .state x level front rear trip last code)
      (f := fun u => u.takeState x level front rear trip last code) up rfl
    have vEq : v = if (h.lift x).state = .syncing then h else (h.enterSyncing x).queueLift x .stateAsk := by rw [own]
    have taken : h.takeState x level front rear trip last code =
        if code ≠ 0 then v.liftFaults x code else v.reconcile x level front rear trip last := by
      rw [State.takeState_eq, ← vEq]
    rw [taken] at leads
    obtain ⟨lift, -, -, -, -, raised⟩ := h.liftFaults_spec x code
    rw [own] at lift raised
    refine ⟨?_, fun other => ?_, fun zero => ?_, fun fault => ?_, exec_leads_frame (f := fun u => u.liftFaults x code) up rfl,
      ⟨by rw [lift], by rw [lift]; rfl, by rw [lift], by rw [lift]; rfl, ?_⟩, fun quiet => ?_⟩
    · by_cases syncing : (s.lift x).state = .syncing
      · rw [show v = h from if_pos syncing, own]; exact syncing
      · rw [show v = (h.enterSyncing x).queueLift x .stateAsk from if_neg syncing]
        simp [State.lift_enterSyncing]
    · rw [show v = (h.enterSyncing x).queueLift x .stateAsk from if_neg other]
      simp [State.lift_enterSyncing, own]
    · rw [if_neg (not_not.2 zero)] at leads; exact leads
    · rw [if_pos fault] at leads; exact leads
    · rw [raised, State.cond_congr (s := s) (by simp [h, heard]), State.stamp_congr (s := s) (by simp [h, heard])]
    · rw [exec_of_frame (f := fun u => u.strayFrame x) up quiet rfl (by rw [State.strayFrame_heard up]), State.strayFrame_heard up]
  case discard => exact exec_of_idle (f := fun t => t) awake rfl rfl
  case relocked =>
    intro g v
    have vOwn : v.lift x = g := State.lift_setLift_self ({ s with sent := [] } : State) x g
    have syncing : (v.lift x).state = .syncing := by rw [vOwn]
    have trip' : (v.lift x).trip = (s.lift x).trip := by rw [vOwn]
    have leads {c : Instr} {f : State → State} (e : exec c s = s.liftFrameIn x f) : Leads c s (f v) :=
      exec_leads_relocked awake offline unplanned empty e
    have state (code : Byte) := leads (c := .state x level front rear trip last code)
      (f := fun u => u.takeState x level front rear trip last code) rfl
    simp only [State.takeState_eq, if_pos syncing] at state
    have current {t : Trip} {i : Nat} {st : Stop} {ph : StopPhase} {stop : Nat} :
        CurrentStop v x t i st ph trip stop ↔ CurrentStop s x t i st ph trip stop :=
      ⟨fun ⟨held, rest, r, p, n, k⟩ => ⟨trip' ▸ held, rest, r, p, n, k⟩, fun ⟨held, rest, r, p, n, k⟩ => ⟨trip'.trans held, rest, r, p, n, k⟩⟩
    have takes : takesStopDone (v.lift x).state = true := by rw [syncing]; rfl
    have strays {c : Instr} {f : State → State} (e : exec c s = s.liftFrameIn x f) (stray : f v = v.strayFrame x) :
        exec c s = .next { v with lifts := s.lifts.set x { g with stray := min 255 (g.stray + 1) } } := by
      have eq : v.strayFrame x = { v with lifts := s.lifts.set x { g with stray := min 255 (g.stray + 1) } } := by
        rw [State.strayFrame, State.updateLift, vOwn, State.setLift]
        exact congrArg (fun l => { v with lifts := l }) (PerSide.set_set x _ _ _)
      exact exec_of_relocked awake offline unplanned empty e (stray.trans eq) rfl
    refine ⟨state 0x00, fun fault => ?_, fun stop r t i st held => ⟨fun notJam => ?_, ?_⟩, fun stop r none => ?_,
      leads (f := fun u => u.liftFaults x code) rfl, ?_, fun c stop which => ?_⟩
    · have taken := state code
      rw [if_pos fault] at taken
      exact taken
    · have taken := leads (c := .stopDone x trip stop r) (f := fun u => u.takeStopDone x trip stop r) rfl
      rw [State.takeStopDone_current takes (current.2 held) notJam] at taken
      exact taken
    · have taken := leads (c := .stopDone x trip stop .jam) (f := fun u => u.takeStopDone x trip stop .jam) rfl
      rw [State.takeStopDone_jam takes (current.2 held)] at taken
      exact taken
    · refine strays (f := fun u => u.takeStopDone x trip stop r) rfl (State.takeStopDone_stray ?_)
      rintro ⟨t, i, st, -, held⟩
      exact none ⟨t, i, st, current.1 held⟩
    · let w := v.setLift x { g with number := accepted, needStatus := false }
      have wOwn : w.lift x = { g with number := accepted, needStatus := false } := State.lift_setLift_self _ _ _
      have does : v.takeStatus x accepted =
          (w.setLift x { g with needStatus := false, number := accepted + 1, sends := 1, echo := some 250 }).transmit
            (liftFrame x (accepted + 1) .stateAsk) := by
        rw [State.takeStatus_unknown _ _ _ (by rw [vOwn]), vOwn]
        refine (State.pump_sends w x (c := .stateAsk) (cs := []) ?_ ?_ ?_ ?_).trans ?_
        all_goals rw [wOwn]
        · exact fresh
        · simp [g]
      refine ⟨_, exec_of_relocked (f := fun u => u.takeStatus x accepted) awake offline unplanned empty rfl does rfl, rfl, ?_, rfl⟩
      exact State.lift_setLift_self _ _ _
    · rcases which with rfl | rfl | rfl | rfl | rfl
      · refine strays (f := fun u => u.takeArrived x trip stop) rfl (State.takeArrived_stray ?_)
        rintro ⟨t, i, st, onTrip, -⟩
        rw [syncing] at onTrip
        cases onTrip
      · exact strays (f := fun u => u.takeTripEnd x trip) rfl (State.takeTripEnd_stray (.inl (by rw [syncing]; decide)))
      · exact strays (f := fun u => u.takeReady x) rfl
          (State.takeReady_stray (.inr (.inr (.inr (.inr ⟨syncing, by rw [vOwn]⟩)))))
      · exact strays (f := fun u => u.takeParkedAck x) rfl (if_neg (by rw [syncing]; decide))
      · exact strays (f := fun u => u.strayFrame x) rfl rfl
  case spells =>
    intro spells present
    exact ⟨linkCommand_lift (by simp) (liftKindCommand_status n accepted level), linkCommand_lift (by simp) rfl,
      linkCommand_lift (by simp) rfl, linkCommand_lift (by simp) rfl, linkCommand_lift (by simp) rfl, linkCommand_lift (by simp) rfl,
      linkCommand_lift (by simp) rfl, linkCommand_lift (by simp) rfl, linkCommand_lift (by simp) rfl,
      linkCommand_lift (by simp) (liftKindCommand_state n level trip stop code front rear), linkCommand_lift (by simp) rfl⟩

end Sys2Proof.Machine
end

section
/-! PROOF. The reconciliation of a lift with its STATE (R126–R128; the statement Reconciled). -/

namespace Sys2Proof.Machine

/-! ### The stops that are settled (R126) -/

section
variable (s : State) (x : Side)

theorem State.mem_settled (trip : Byte) (last i : Nat) : i ∈ s.settled x trip last ↔ i < last ∧ ∃ t st,
    (s.lift x).trip = some t ∧ t.number = trip ∧ t.stop i = some st ∧ st.outcome = .stillOpen := by
  unfold State.settled
  cases trip' : (s.lift x).trip with
  | none => simp
  | some t =>
    by_cases own : t.number = trip
    · cases record : t.stop i <;> simp [own, record]
    · simp [own]

theorem State.settled_sorted (trip : Byte) (last : Nat) : (s.settled x trip last).Pairwise (· < ·) := by
  unfold State.settled
  split
  · exact List.Pairwise.nil
  · split
    · exact List.Pairwise.filter _ List.pairwise_lt_range
    · exact List.Pairwise.nil

/-- A stop settled by its deck's presence takes the effects of the result it stands for (R126). -/
theorem State.settleStop_spec {i : Nat} {st : Stop} {t : Trip} (trip : Byte) (occupied : Bool) (held : (s.lift x).trip = some t)
    (record : t.stop i = some st) (slot : st.place < 164) :
    let u := s.settleStop x i st trip occupied
    let w := s.stopEffect x st trip (settledAs st.action occupied)
    (u.lift x).trip.bind (fun v => v.stop i) = some { st with outcome := .settled, claim := none, reserved := false } ∧
      u.Mirrored st.place ∧ u.Mirrored (deckPlace x st.deck) ∧ ∀ q, u.place q = w.place q := by
  intro u w
  have stop : (s.lift x).trip.bind (fun v => v.stop i) = some st := by simp [held, record]
  obtain ⟨-, claim, kept⟩ := State.stopEffect_stands (r := settledAs st.action occupied) (trip := trip) slot stop
  obtain ⟨place, deck⟩ := s.stopResult_mirrored (x := x) (st := st) (trip := trip) (r := settledAs st.action occupied) slot
  exact ⟨State.stop_endStop _ _ (st' := { st with claim := claim }) kept .settled, place.congr rfl rfl rfl, deck.congr rfl rfl rfl,
    fun _ => rfl⟩

/-! ### The locks released (R126) -/

theorem State.lock_unlockStop {p : Nat} (hp : p < 164) (st : Stop) :
    ((s.unlockStop st).place p).lock = (s.place p).lock ∨ ((s.unlockStop st).place p).lock = .none := by
  unfold State.unlockStop
  split
  · by_cases own : st.place = p
    · subst own
      rw [State.place_unlockLane_self _ (by omega)]
      simp
    · rw [State.place_unlockLane_ne _ own]
      exact .inl rfl
  · exact .inl rfl

theorem State.unlocked_unlockStops {p : Nat} (hp : p < 164) (stops : List Stop) (free : (s.place p).lock ≠ .lift) :
    ((stops.foldl (fun u st => u.unlockStop st) s).place p).lock ≠ .lift := by
  induction stops generalizing s with
  | nil => exact free
  | cons st stops ih =>
    refine ih _ ?_
    rcases s.lock_unlockStop hp st with same | none
    · rw [same]; exact free
    · rw [none]; decide

theorem State.unlocked_of_mem (stops : List Stop) {st : Stop} (member : st ∈ stops) (lane : isLane st.place = true) :
    ((stops.foldl (fun u st => u.unlockStop st) s).place st.place).lock ≠ .lift := by
  have hp : st.place < 164 := by
    simp only [isLane, decide_eq_true_eq] at lane
    omega
  induction stops generalizing s with
  | nil => cases member
  | cons first rest ih =>
    rcases List.mem_cons.1 member with rfl | later
    · refine State.unlocked_unlockStops _ hp rest ?_
      by_cases lock : (s.place st.place).lock = .lift
      · rw [(State.unlockStop_spec hp).2.2 lane lock]; decide
      · rcases s.lock_unlockStop hp st with same | none
        · rw [same]; exact lock
        · rw [none]; decide
    · exact ih _ later

/-! ### The deck check (R127) -/

theorem State.checkDeck_spec (d : Deck) (occupied : Bool) :
    let u := s.checkDeck x d occupied
    let p := deckPlace x d
    u.Mirrored p ∧ (∀ q, q ≠ p → u.place q = s.place q) ∧
      (∀ n c, s.deck x d = some (.card n) → s.ctx n = some c → occupied = false →
        u.entries p = [] ∧ u.ctx n = none ∧ u.cardState n = cardFailed ∧ u.cardByte n 32 = 0x12 ∧ u.cardByte n 33 = byteOf p) ∧
      (s.deck x d = some .foreign → occupied = false → u.entries p = []) ∧
      (s.deck x d = none → occupied = true → u.entries p = [.foreign]) ∧
      ((s.deck x d).isSome = occupied → u.entries p = s.entries p ∧ u.contexts = s.contexts) := by
  intro u p
  obtain ⟨low, high⟩ := deckPlace_range x d
  obtain ⟨emptied, others, -, -, card⟩ := s.deckLost_spec x d
  have mirrored (t : State) : (t.writeMirror p).Mirrored p := t.writeMirror_mirrored (by omega)
  cases deck : s.deck x d with
  | none => cases occupied with
    | false =>
      have does : u = s.writeMirror p := by simp only [u, State.checkDeck, deck] <;> rfl
      rw [does]
      exact ⟨mirrored _, fun _ _ => rfl, by simp, by simp, by simp, fun _ => ⟨rfl, rfl⟩⟩
    | true =>
      have does : u = (s.setEntries p [.foreign]).writeMirror p := by simp only [u, State.checkDeck, deck] <;> rfl
      rw [does]
      exact ⟨mirrored _, fun q ne => State.place_setEntries_ne _ (Ne.symm ne) _, by simp, by simp,
        fun _ _ => State.entries_setEntries_self _ (by omega) _, by simp⟩
  | some e => cases occupied with
    | false =>
      have does : u = (s.deckLost x d).writeMirror p := by simp only [u, State.checkDeck, deck] <;> rfl
      rw [does]
      refine ⟨mirrored _, others, fun n c own hc _ => ?_, fun _ _ => emptied, by simp, by simp⟩
      obtain ⟨gone, state, reason, detail⟩ := card n c (deck.trans own) hc
      have byte (j : Nat) (hj : j < 64) : ((s.deckLost x d).writeMirror p).cardByte n j = (s.deckLost x d).cardByte n j :=
        State.cardByte_congr _ (s.ctx_lt n c hc) hj fun a ha => State.read_writeMirror_below _ ha
      exact ⟨emptied, gone, (byte 0 (by decide)).trans state, (byte 32 (by decide)).trans reason,
        (byte 33 (by decide)).trans detail⟩
    | true =>
      have does : u = s.writeMirror p := by simp only [u, State.checkDeck, deck] <;> rfl
      rw [does]
      exact ⟨mirrored _, fun _ _ => rfl, by simp, by simp, by simp, fun _ => ⟨rfl, rfl⟩⟩

/-! ### The stops that are passed (R128) -/

/-- What a passed stop held ends: its reservation, and a STORE card on its way there turns back (R115). -/
theorem State.passHoldings_stands (st : Stop) :
    let u := s.passHoldings x st
    u.lifts = s.lifts ∧ (∀ q, u.entries q = s.entries q) ∧ u.mode = s.mode ∧ u.store = s.store ∧
      (∀ p, p < 169 → (u.place p).res =
        (s.place p).res - if st.action == .unload && st.reserved && st.place == p then 1 else 0) ∧
      (∀ m, u.ctx m = if st.action = .unload ∧ st.expected = .card m ∧ isInbound st.place = true ∧ s.deck x st.deck = some (.card m)
        then (s.ctx m).map (fun c => c.turnedBack st.place .levelClosed) else s.ctx m) := by
  intro u
  rcases st.load_or_unload with load | unload
  · have does : u = s := by simp only [u, State.passHoldings, load]
    rw [does]
    refine ⟨rfl, fun _ => rfl, rfl, rfl, fun p _ => by simp [load], fun m => ?_⟩
    rw [if_neg (by simp [load])]
  · obtain ⟨lifts, contexts⟩ := s.released_frame st
    have ctx (m : Nat) : (s.released st).ctx m = s.ctx m := State.ctx_congr _ contexts m
    have eq := s.passHoldings_eq x st unload
    have frame : u.lifts = s.lifts ∧ u.places = (s.released st).places ∧ u.mode = s.mode ∧ u.store = s.store := by
      have kept : (s.released st).mode = s.mode ∧ (s.released st).store = s.store := by
        unfold State.released
        split <;> simp
      simp only [u, eq]
      split
      · exact ⟨lifts, rfl, kept⟩
      · split
        · simp [lifts, kept]
        · exact ⟨lifts, rfl, kept⟩
    obtain ⟨uLifts, places, mode, store⟩ := frame
    have place (q : Nat) : u.place q = (s.released st).place q := State.place_eq_of_places places q
    refine ⟨uLifts, fun q => ?_, mode, store, fun p hp => ?_, fun m => ?_⟩
    · rw [State.entries, place, State.released]
      split
      · exact State.entries_unreserve _ _ _
      · rfl
    · rw [place, State.released]
      split
      · next reserved =>
        by_cases own : st.place = p
        · subst own; rw [State.place_unreserve_self _ hp]; simp [unload, reserved]
        · rw [State.place_unreserve_ne _ own]; simp [own]
      · next free => simp [free]
    · cases expected : st.expected with
      | foreign =>
        rw [expected] at eq
        rw [show u = s.released st from eq, ctx, if_neg (by simp)]
      | card n =>
        rw [expected] at eq
        by_cases turns : (isInbound st.place && s.deck x st.deck == some (.card n)) = true
        · rw [show u = (s.released st).turnBack n st.place .levelClosed from eq.trans (if_pos turns), State.ctx_turnBack, ctx, ctx]
          simp only [Bool.and_eq_true, beq_iff_eq] at turns
          by_cases own : m = n
          · subst own; rw [if_pos rfl, if_pos ⟨unload, rfl, turns⟩]
          · rw [if_neg own, if_neg fun h => own (Entry.card.inj h.2.1).symm]
        · rw [show u = s.released st from eq.trans (if_neg turns), ctx, if_neg]
          rintro ⟨-, card, inbound, deck⟩
          cases card
          exact turns (by simp [inbound, deck])

/-- The stops of the numbered list `l` whose index is not kept. -/
def passedOf (kept : List Nat) (l : List (Nat × Stop)) : List (Nat × Stop) := l.filter (fun p => !kept.contains p.1)

theorem passedOf_cons (kept : List Nat) (i : Nat) (st : Stop) (l : List (Nat × Stop)) :
    passedOf kept ((i, st) :: l) = if i ∈ kept then passedOf kept l else (i, st) :: passedOf kept l := by
  by_cases h : i ∈ kept <;> simp [passedOf, h]

/-- The lift's record after the stops of a list of indexes have ended as passed. -/
def Lift.endStops (l : Lift) (is : List Nat) : Lift := is.foldl (fun l i => l.endStop i .passed) l

/-- One stop passed, without its frame. -/
theorem State.passQuiet_spec (i : Nat) (st : Stop) :
    let u := s.passQuiet x i st
    u.lift x = (s.lift x).endStop i .passed ∧ (∀ q, u.entries q = s.entries q) ∧ u.mode = s.mode ∧ u.store = s.store ∧
      (∀ p, p < 169 → (u.place p).res =
        (s.place p).res - if st.action == .unload && st.reserved && st.place == p then 1 else 0) ∧
      (∀ m, u.ctx m = if st.action = .unload ∧ st.expected = .card m ∧ isInbound st.place = true ∧ s.deck x st.deck = some (.card m)
        then (s.ctx m).map (fun c => c.turnedBack st.place .levelClosed) else s.ctx m) := by
  obtain ⟨lifts, rest⟩ := s.passHoldings_stands x st
  refine ⟨?_, rest⟩
  rw [State.passQuiet, State.endStop, State.lift_updateLift_self, State.lift_congr lifts]

theorem State.passOthers_cons (kept : List Nat) (i : Nat) (st : Stop) (l : List (Nat × Stop)) :
    s.passOthers x kept ((i, st) :: l) = if i ∈ kept then s.passOthers x kept l else (s.passQuiet x i st).passOthers x kept l := by
  rw [State.passOthers]
  split <;> rfl

/-- The passed stops' records are closed and their reservations released; nothing else of the place map changes. -/
theorem State.passOthers_spec (kept : List Nat) (l : List (Nat × Stop)) :
    let u := s.passOthers x kept l
    u.lift x = (s.lift x).endStops ((passedOf kept l).map (·.1)) ∧ (∀ q, u.entries q = s.entries q) ∧ u.mode = s.mode ∧
      u.store = s.store ∧
      (∀ p, p < 169 → (u.place p).res = (s.place p).res -
        (((passedOf kept l).map (·.2)).filter (fun w => w.action == .unload && w.reserved && w.place == p)).length) := by
  induction l generalizing s with
  | nil => exact ⟨rfl, fun _ => rfl, rfl, rfl, fun _ _ => rfl⟩
  | cons head l ih =>
    obtain ⟨i, st⟩ := head
    rw [State.passOthers_cons, passedOf_cons]
    split
    · exact ih s
    · obtain ⟨lift, entries, mode, store, res, -⟩ := s.passQuiet_spec x i st
      obtain ⟨lift', entries', mode', store', res'⟩ := ih (s.passQuiet x i st)
      refine ⟨?_, fun q => (entries' q).trans (entries q), mode'.trans mode, store'.trans store, fun p hp => ?_⟩
      · rw [lift', lift]; rfl
      · rw [res' p hp, res p hp, List.map_cons, List.filter_cons]
        split <;> simp <;> omega

theorem Context.turnedBack_twice (c : Context) (p : Nat) (r : ReasonCode) :
    (c.turnedBack p r).turnedBack p r = c.turnedBack p r := by
  unfold Context.turnedBack
  split
  · exact if_neg (by simp)
  · rfl

variable {s x}
variable {st : Stop} {n : Nat}

/-- A passed stop leaves a card as it is or turns it back, where only the stop `st` unloads the card. -/
theorem State.ctx_passQuiet {c : Context} (hc : s.ctx n = some c) (i : Nat) (w : Stop)
    (only : w.expected = .card n → w.action = .unload → w = st) :
    (s.passQuiet x i w).ctx n = some c ∨ (s.passQuiet x i w).ctx n = some (c.turnedBack st.place .levelClosed) := by
  obtain ⟨-, -, -, -, -, ctx⟩ := s.passQuiet_spec x i w
  rw [ctx, hc]
  split
  · next turns =>
    obtain ⟨unload, card, -, -⟩ := turns
    rw [only card unload]
    exact .inr rfl
  · exact .inl rfl

theorem State.ctx_passOthers_or {c : Context} (hc : s.ctx n = some c) (kept : List Nat) (l : List (Nat × Stop))
    (only : ∀ w ∈ (passedOf kept l).map (·.2), w.expected = .card n → w.action = .unload → w = st) :
    (s.passOthers x kept l).ctx n = some c ∨ (s.passOthers x kept l).ctx n = some (c.turnedBack st.place .levelClosed) := by
  induction l generalizing s c with
  | nil => exact .inl hc
  | cons head l ih =>
    obtain ⟨i, w⟩ := head
    rw [passedOf_cons] at only
    rw [State.passOthers_cons]
    split
    · next own => rw [if_pos own] at only; exact ih hc only
    · next own =>
      rw [if_neg own, List.map_cons, List.forall_mem_cons] at only
      rcases State.ctx_passQuiet (x := x) hc i w only.1 with same | turned
      · exact ih same only.2
      · refine .inr ?_
        rcases ih turned only.2 with same | twice
        · exact same
        · rw [twice, Context.turnedBack_twice]

theorem State.ctx_passOthers {c : Context} (hc : s.ctx n = some c) (kept : List Nat) (l : List (Nat × Stop))
    (only : ∀ w ∈ (passedOf kept l).map (·.2), w.expected = .card n → w.action = .unload → w = st)
    (member : st ∈ (passedOf kept l).map (·.2)) (unload : st.action = .unload) (inbound : isInbound st.place = true)
    (card : st.expected = .card n) (deck : s.deck x st.deck = some (.card n)) :
    (s.passOthers x kept l).ctx n = some (c.turnedBack st.place .levelClosed) := by
  induction l generalizing s c with
  | nil => cases member
  | cons head l ih =>
    obtain ⟨i, w⟩ := head
    rw [passedOf_cons] at only member
    rw [State.passOthers_cons]
    split
    · next own =>
      rw [if_pos own] at only member
      exact ih hc only member deck
    · next own =>
      rw [if_neg own, List.map_cons] at only member
      rw [List.forall_mem_cons] at only
      have deck' : (s.passQuiet x i w).deck x st.deck = some (.card n) := by
        rw [State.deck_congr s ((s.passQuiet_spec x i w).2.1 _)]; exact deck
      rcases List.mem_cons.1 member with rfl | later
      · obtain ⟨-, -, -, -, -, ctx⟩ := s.passQuiet_spec x i st
        have turned : (s.passQuiet x i st).ctx n = some (c.turnedBack st.place .levelClosed) := by
          rw [ctx, if_pos ⟨unload, card, inbound, deck⟩, hc]; rfl
        rcases State.ctx_passOthers_or (x := x) turned kept l only.2 with same | twice
        · exact same
        · rw [twice, Context.turnedBack_twice]
      · rcases State.ctx_passQuiet (x := x) hc i w only.1 with same | turned
        · exact ih same only.2 later deck'
        · rw [ih turned only.2 later deck', Context.turnedBack_twice]

end

/-! ### The trip's record after the passed stops (R128) -/

/-- The record of a stop that has ended as passed. -/
def Stop.passedBy (st : Stop) : Stop := { st with outcome := .passed, claim := none, reserved := false }

theorem modify_each {α : Type} {g : α → α} (twice : ∀ a, g (g a) = g a) (is : List Nat) (l : List α) :
    is.foldl (fun l i => l.modify i g) l = l.zipIdx.map (fun p => if p.2 ∈ is then g p.1 else p.1) := by
  refine List.ext_getElem? fun j => ?_
  have at' : (is.foldl (fun l i => l.modify i g) l)[j]? = (l[j]?).map (fun a => if j ∈ is then g a else a) := by
    induction is generalizing l with
    | nil => simp
    | cons i is ih =>
      rw [List.foldl_cons, ih, List.getElem?_modify]
      cases l[j]? with
      | none => rfl
      | some a =>
        by_cases own : i = j
        · subst own
          simp [twice]
        · have apart : ¬j = i := fun h => own h.symm
          simp [own, apart]
  rw [at', List.getElem?_map, List.getElem?_zipIdx]
  cases l[j]? <;> simp

section
variable (t : Trip) (kept : List Nat)

/-- The trip's record after the stops of a list of indexes have ended as passed. -/
def Trip.endStops (is : List Nat) : Trip := is.foldl (fun t i => t.endStop i .passed) t

theorem Trip.stops_endStops (is : List Nat) :
    (t.endStops is).plan.stops = t.plan.stops.zipIdx.map (fun p => if p.2 ∈ is then p.1.passedBy else p.1) := by
  rw [← modify_each (g := Stop.passedBy) (fun _ => rfl)]
  unfold Trip.endStops
  induction is generalizing t with
  | nil => rfl
  | cons i is ih => exact ih (t.endStop i .passed)

theorem Trip.kind_endStops (is : List Nat) : (t.endStops is).plan.kind = t.plan.kind := by
  unfold Trip.endStops
  induction is generalizing t with
  | nil => rfl
  | cons i is ih => exact ih (t.endStop i .passed)

theorem Lift.endStops_eq (l : Lift) (is : List Nat) : l.endStops is = { l with trip := l.trip.map (fun t => t.endStops is) } := by
  unfold Lift.endStops
  induction is generalizing l with
  | nil => cases l with | mk state counter trip => cases trip <;> rfl
  | cons i is ih =>
    refine (ih (l.endStop i .passed)).trans ?_
    cases trip : l.trip <;> simp [Lift.endStop, trip, Trip.endStops]

theorem Trip.passedOf_openStops : passedOf kept t.openStops =
    (t.plan.stops.zipIdx.filter (fun p => p.1.outcome == .stillOpen && !kept.contains p.2)).map (fun p => (p.2, p.1)) := by
  rw [passedOf, Trip.openStops, List.filter_map, List.filter_filter]
  refine congrArg (List.map _) (List.filter_congr fun p _ => ?_)
  simp [Bool.and_comm]

theorem Trip.mem_passed_index {p : Stop × Nat} (member : p ∈ t.plan.stops.zipIdx) :
    p.2 ∈ (passedOf kept t.openStops).map (·.1) ↔ p.1.outcome = .stillOpen ∧ p.2 ∉ kept := by
  have at' : t.plan.stops[p.2]? = some p.1 := List.mem_zipIdx_iff_getElem?.1 member
  rw [t.passedOf_openStops kept]
  simp only [List.map_map, List.mem_map, List.mem_filter, Function.comp, Bool.and_eq_true, beq_iff_eq, Bool.not_eq_true',
    List.contains_eq_mem, decide_eq_false_iff_not]
  constructor
  · rintro ⟨q, ⟨qMem, qOpen, qKept⟩, same⟩
    have atQ : t.plan.stops[q.2]? = some q.1 := List.mem_zipIdx_iff_getElem?.1 qMem
    rw [same] at atQ qKept
    rw [atQ] at at'
    exact ⟨Option.some.inj at' ▸ qOpen, qKept⟩
  · exact fun ⟨opened, out⟩ => ⟨p, ⟨member, opened, out⟩, rfl⟩

/-- The stops left OPEN are the OPEN stops that are kept. -/
theorem Trip.left_endStops :
    (t.endStops ((passedOf kept t.openStops).map (·.1))).plan.stops.filter (fun st => st.outcome == .stillOpen) =
      (t.plan.stops.zipIdx.filter (fun q => q.1.outcome == .stillOpen && kept.contains q.2)).map (fun q => q.1) := by
  rw [Trip.stops_endStops, List.filter_map]
  have stays (p : Stop × Nat) (member : p ∈ t.plan.stops.zipIdx) :
      ((fun st : Stop => st.outcome == .stillOpen) ∘
        (fun p : Stop × Nat => if p.2 ∈ (passedOf kept t.openStops).map (·.1) then p.1.passedBy else p.1)) p =
        (p.1.outcome == .stillOpen && kept.contains p.2) := by
    simp only [Function.comp, t.mem_passed_index kept member, List.contains_eq_mem]
    by_cases opened : p.1.outcome = .stillOpen
    · by_cases own : p.2 ∈ kept <;> simp [opened, own, Stop.passedBy]
    · simp [opened]
  rw [List.filter_congr stays]
  refine List.map_congr_left fun p member => ?_
  obtain ⟨member, stands⟩ := List.mem_filter.1 member
  refine if_neg fun passed => ?_
  have out := ((t.mem_passed_index kept member).1 passed).2
  simp [List.contains_eq_mem, out] at stands

theorem Trip.passed_eq (run : Bool) : ((passedOf (if run then kept else []) t.openStops).map (·.2)) =
    (t.plan.stops.zipIdx.filter (fun q => q.1.outcome == .stillOpen && !(run && kept.contains q.2))).map (fun q => q.1) := by
  rw [t.passedOf_openStops, List.map_map]
  cases run <;> rfl

end

/-! ### What follows the deck check (R128) -/

section
variable (s : State) (x : Side) (level : Nat) (trip : Byte)

theorem State.afterCheck_none (none : (s.lift x).trip = none) : s.afterCheck x level trip =
    if trip ≠ 0 ∨ level ≠ 0 then ((s.endTripAwaitReady x).queueLift x (.clear trip), false) else (s.becomeIdle x, false) := by
  simp only [State.afterCheck, none]

/-- The stops that the reconciliation keeps. -/
def State.keptOf (t : Trip) : List Nat :=
  if s.mode = .run then s.keptStops x level t.openStops (s.deck x .front) (s.deck x .rear) [] else []

/-- The state in which the stops that are not kept have passed. -/
def State.afterPassed (t : Trip) : State := s.passOthers x (s.keptOf x level t) t.openStops

/-- The trip number a CLEAR names. -/
def Trip.named (t : Trip) (trip : Byte) : Byte := if trip = 0 then t.number else trip

/-- The kept stops of the trip. -/
def State.remainder (t : Trip) : List Stop :=
  (t.plan.stops.zipIdx.filter (fun q => q.1.outcome == .stillOpen && (s.keptOf x level t).contains q.2)).map (fun q => q.1)

variable {t : Trip}

theorem State.lift_afterPassed : (s.afterPassed x level t).lift x =
    { s.lift x with
      trip := (s.lift x).trip.map (fun w => w.endStops ((passedOf (s.keptOf x level t) t.openStops).map (·.1))) } := by
  rw [State.afterPassed, (s.passOthers_spec x (s.keptOf x level t) t.openStops).1, Lift.endStops_eq]

theorem State.afterCheck_some (held : (s.lift x).trip = some t) : s.afterCheck x level trip =
    if s.mode = .run ∧ s.remainder x level t ≠ [] then
      (((s.afterPassed x level t).queueLift x (.clear (t.named trip))).sendTrip x
        (((s.afterPassed x level t).queueLift x (.clear (t.named trip))).planOf t.plan.kind level (s.remainder x level t)), true)
    else if s.mode = .run then
      (((s.afterPassed x level t).queueLift x (.clear (t.named trip))).endTripAwaitReady x, false)
    else (((s.afterPassed x level t).endTripAwaitReady x).queueLift x (.clear (t.named trip)), false) := by
  by_cases run : s.mode = .run
  · have keptEq : s.keptOf x level t = s.keptStops x level t.openStops (s.deck x .front) (s.deck x .rear) [] := if_pos run
    have left : (((((s.afterPassed x level t).queueLift x (.clear (t.named trip))).lift x).trip.map (·.plan.stops)).getD []).filter
        (fun (st : Stop) => st.outcome == .stillOpen) = s.remainder x level t := by
      have own : (((s.afterPassed x level t).queueLift x (.clear (t.named trip))).lift x).trip =
          ((s.afterPassed x level t).lift x).trip := by simp
      rw [own, s.lift_afterPassed x level, held]
      exact t.left_endStops _
    have eq : s.afterCheck x level trip =
        if (s.remainder x level t).isEmpty then
          (((s.afterPassed x level t).queueLift x (.clear (t.named trip))).endTripAwaitReady x, false)
        else (((s.afterPassed x level t).queueLift x (.clear (t.named trip))).sendTrip x
          (((s.afterPassed x level t).queueLift x (.clear (t.named trip))).planOf t.plan.kind level (s.remainder x level t)), true) := by
      rw [← left]
      simp only [State.afterCheck, held, run, if_true, State.afterPassed, keptEq, Trip.named]
    rw [eq]
    cases rest : s.remainder x level t <;> simp [run]
  · have keptEq : s.keptOf x level t = [] := if_neg run
    simp only [State.afterCheck, held, if_neg run, State.afterPassed, keptEq, Trip.named, run, false_and, if_false]

theorem State.pathTime_congr {u : State} (store : u.store = s.store) (path : List Nat) : u.pathTime path = s.pathTime path := by
  have travel (d : Nat) : u.travel d = s.travel d := by simp [State.travel, State.profileByte, store]
  induction path with
  | nil => rfl
  | cons a path ih => cases path with
    | nil => rfl
    | cons b path => simp only [State.pathTime, travel, ih]

/-- Estimates and deadlines follow the profile alone (R100, R101). -/
theorem State.planOf_congr {u : State} (store : u.store = s.store) (k : PlanKind) (start : Nat) (stops : List Stop) :
    u.planOf k start stops = s.planOf k start stops := by
  have transfer : u.transferTime = s.transferTime := by
    funext st
    simp only [State.transferTime, State.tLoad, State.tUnload, State.profileByte, store]
  have estimate : u.estimate start stops = s.estimate start stops := by
    simp only [State.estimate, s.pathTime_congr store, transfer]
  have deadline (e : Nat) : u.deadlineOf e = s.deadlineOf e := by
    simp only [State.deadlineOf, State.marginM, State.marginF, State.profileByte, State.profileHalf, store]
  simp only [State.planOf, estimate, deadline]

/-- The lift's record when the trip has ended and READY is awaited (R128). -/
theorem State.cleared_spec (named : Byte) :
    let u := (s.endTripAwaitReady x).queueLift x (.clear named)
    (u.lift x).state = (s.lift x).state ∧ (u.lift x).trip = none ∧ (u.lift x).awaitReady = true ∧
      (u.lift x).queue = (s.lift x).queue ++ [.clear named] := by
  simp [State.endTripAwaitReady]

theorem State.afterCheck_liftOnly (held : (s.lift x).trip = some t) :
    (s.afterPassed x level t).LiftOnly (s.afterCheck x level trip).1 := by
  rw [s.afterCheck_some x level trip held]
  have ended (u : State) : u.LiftOnly (u.endTripAwaitReady x) := u.updateLift_liftOnly x _
  split
  · exact (State.queueLift_liftOnly _ x _).trans (State.sendTrip_liftOnly _ x _)
  · split
    · exact (State.queueLift_liftOnly _ x _).trans (ended _)
    · exact (ended _).trans (State.queueLift_liftOnly _ x _)

/-- Without a remainder the trip ends and READY is awaited (R128). -/
theorem State.afterCheck_ends (held : (s.lift x).trip = some t) (ends : ¬(s.mode = .run ∧ s.remainder x level t ≠ [])) :
    let r := s.afterCheck x level trip
    r.2 = false ∧ (r.1.lift x).trip = none ∧ (r.1.lift x).awaitReady = true ∧ (r.1.lift x).state = (s.lift x).state ∧
      (r.1.lift x).queue = (s.lift x).queue ++ [.clear (t.named trip)] := by
  intro r
  have eq := s.afterCheck_some x level trip held
  rw [if_neg ends] at eq
  have own := s.lift_afterPassed x level (t := t)
  by_cases run : s.mode = .run
  · rw [if_pos run] at eq
    simp only [r, eq]
    simp [State.endTripAwaitReady, own]
  · rw [if_neg run] at eq
    simp only [r, eq]
    simp [State.endTripAwaitReady, own]

/-- A remainder is issued as a new trip of the same kind (R128). -/
theorem State.afterCheck_remainder (held : (s.lift x).trip = some t) (run : s.mode = .run) (some' : s.remainder x level t ≠ []) :
    let r := s.afterCheck x level trip
    let rest := s.remainder x level t
    r.2 = true ∧ (r.1.lift x).state = .onTrip ∧
      (r.1.lift x).trip = some { number := nextTrip (s.lift x).counter, plan := s.planOf t.plan.kind level rest, phase := .moving,
                                 left := 10 * (s.planOf t.plan.kind level rest).deadline, expired := false, jammed := none } ∧
      (r.1.lift x).queue = (s.lift x).queue ++
        [.clear (t.named trip), tripCommand (nextTrip (s.lift x).counter) (s.planOf t.plan.kind level rest)] := by
  intro r rest
  have eq := s.afterCheck_some x level trip held
  rw [if_pos ⟨run, some'⟩] at eq
  let v := (s.afterPassed x level t).queueLift x (.clear (t.named trip))
  have store : v.store = s.store := by
    have passed := (s.passOthers_spec x (s.keptOf x level t) t.openStops).2.2.2.1
    have only : (s.afterPassed x level t).LiftOnly v := State.queueLift_liftOnly _ x _
    rw [only]
    exact passed
  have own := s.lift_afterPassed x level (t := t)
  have counter : (v.lift x).counter = (s.lift x).counter := by simp [v, own]
  have queue : (v.lift x).queue = (s.lift x).queue ++ [.clear (t.named trip)] := by simp [v, own]
  let p := s.planOf t.plan.kind level rest
  have plan : v.planOf t.plan.kind level rest = p := s.planOf_congr store _ _ _
  have does : r.1 = v.sendTrip x p := by
    simp only [r, eq]
    exact congrArg (fun q => v.sendTrip x q) plan
  have reopened : p.mapStops (fun st => { st with outcome := .stillOpen }) = p := by
    have each (st : Stop) (member : st ∈ rest) : ({ st with outcome := .stillOpen } : Stop) = st := by
      obtain ⟨q, hq, rfl⟩ := List.mem_map.1 member
      have stands := (List.mem_filter.1 hq).2
      rw [Bool.and_eq_true, beq_iff_eq] at stands
      rw [← stands.1]
    have stops : rest.map (fun st => { st with outcome := .stillOpen }) = rest := by
      conv_rhs => rw [← List.map_id rest]
      exact List.map_congr_left each
    simp only [Plan.mapStops, p, State.planOf, stops]
  let w := v.updateLift x (fun l => l.onTrip p)
  have wOwn : w.lift x = (v.lift x).onTrip p := State.lift_updateLift_self _ _ _
  rw [State.sendTrip_eq, counter] at does
  refine ⟨by simp only [r, eq], ?_, ?_, ?_⟩
  · rw [does]
    simp [wOwn, Lift.onTrip]
  · rw [does]
    simp [Lift.onTrip, reopened, counter, p]
  · rw [does]
    simp [Lift.onTrip, queue, p]

/-- A stop is kept where it is possible (R105, R128). -/
theorem State.keptStops_cons (i : Nat) (st : Stop) (more : List (Nat × Stop)) (front rear : Option Entry) (taken : List Nat) :
    let left := match st.deck with | .front => front | .rear => rear
    let next (e : Option Entry) (taken : List Nat) : List Nat := match st.deck with
      | .front => s.keptStops x level more e rear taken
      | .rear => s.keptStops x level more front e taken
    let nth := (taken.filter (fun p => p == st.place)).length
    let possible := match st.action with
      | .load => s.deck x st.deck = none ∧ s.claimAt st.place nth st.claim = true ∧ (isEntrySpur st.place = true → level = 0)
      | .unload => left = some st.expected
    (¬possible → s.keptStops x level ((i, st) :: more) front rear taken = s.keptStops x level more front rear taken) ∧
      (possible → s.keptStops x level ((i, st) :: more) front rear taken = i :: (match st.action with
        | .load => next (some st.expected) (st.place :: taken)
        | .unload => next none taken)) := by
  intro left next nth possible
  rcases st.load_or_unload with load | unload
  · have possibleEq : possible ↔
        s.deck x st.deck = none ∧ s.claimAt st.place nth st.claim = true ∧ (isEntrySpur st.place = true → level = 0) := by
      simp only [possible, load]
    have eq : s.keptStops x level ((i, st) :: more) front rear taken =
        if (s.deck x st.deck).isSome || !s.claimAt st.place nth st.claim || (isEntrySpur st.place && level != 0) then
          s.keptStops x level more front rear taken
        else i :: next (some st.expected) (st.place :: taken) := by
      rw [State.keptStops, load]
      simp only [next, nth]
      cases st.deck <;> rfl
    have test : ((s.deck x st.deck).isSome || !s.claimAt st.place nth st.claim || (isEntrySpur st.place && level != 0)) = true ↔
        ¬possible := by
      rw [possibleEq]
      cases s.deck x st.deck <;> cases s.claimAt st.place nth st.claim <;> cases isEntrySpur st.place <;> simp
    refine ⟨fun not => eq.trans (if_pos (test.2 not)), fun is => ?_⟩
    rw [eq, if_neg fun h => test.1 h is, load]
  · have possibleEq : possible ↔ left = some st.expected := by simp only [possible, unload]
    have eq : s.keptStops x level ((i, st) :: more) front rear taken =
        if left ≠ some st.expected then s.keptStops x level more front rear taken else i :: next none taken := by
      rw [State.keptStops, unload]
      simp only [left, next]
      cases st.deck <;> rfl
    rw [possibleEq, eq]
    refine ⟨fun not => if_pos not, fun is => ?_⟩
    rw [if_neg (not_not.2 is), unload]

end

/-- Settles O52, part by part: the stops settled, the locks, the deck check, the passed stops and the remainder, and the bits. -/
theorem reconciled : Obligations.Reconciled := by
  refine ⟨fun s x trip last i => ⟨s.mem_settled x trip last i, s.settled_sorted x trip last⟩,
    fun s x front rear t i st is held record => ⟨rfl, ?settles⟩,
    fun s x t i st trip occupied held record slot => ?settle,
    fun s x t held st member lane => ?locks, State.checkDeck_spec,
    fun s x level trip => ⟨fun none some' => ?cleared, fun none zero ground => ?idle, fun t held => ?trip,
      fun i st more front rear taken => s.keptStops_cons x level i st more front rear taken⟩,
    fun s x level front rear trip last => ?bits⟩
  case settles =>
    have found : ((s.lift x).trip.bind (fun t => (t.stop i).map (fun st => (t.number, st)))) = some (t.number, st) := by
      simp [held, record]
    have each : (s.settleStops x front rear (i :: is)).1 =
        ((s.settleStop x i st t.number (presence front rear st.deck)).settleStops x front rear is).1 := by
      simp only [State.settleStops, found]
    refine each.trans ?_
    cases st.deck <;> rfl
  case settle =>
    intro u d freed
    obtain ⟨stop, place, deck, same⟩ := s.settleStop_spec x trip occupied held record slot
    have entries (q : Nat) : u.entries q = (s.stopEffect x st trip (settledAs st.action occupied)).entries q :=
      congrArg Place.entries (same q)
    obtain ⟨low, high⟩ := deckPlace_range x st.deck
    refine ⟨stop, place, deck, ?_, ?_, ?_, ?_, ?_, ?_⟩
    all_goals simp only [entries]
    · rintro e load rfl empty claimed head
      rw [show settledAs st.action true = .ok by rw [load]; rfl, s.stopEffect_load_ok x st trip load]
      obtain ⟨taken, left, -⟩ := s.loadOk_spec x st trip slot empty claimed head
      exact ⟨taken, left⟩
    · rintro load rfl empty unclaimed
      rw [show settledAs st.action true = .ok by rw [load]; rfl, s.stopEffect_load_ok x st trip load,
        s.loadOk_unclaimed x st trip empty unclaimed]
      refine ⟨State.entries_setEntries_self _ (by omega) _, ?_⟩
      rw [State.entries, State.place_setEntries_ne _ (by omega : d ≠ st.place)]
      rfl
    · rintro load rfl
      rw [same, show settledAs st.action false = .empty by rw [load]; rfl, s.stopEffect_load_frozen x st trip (.inl rfl) load,
        State.place_freeze_self _ (by omega)]
      simp
    · rintro e unload rfl deck
      rw [same, show settledAs st.action false = .ok by rw [unload]; rfl, s.stopEffect_unload_ok x st trip unload]
      obtain ⟨emptied, joined, res, -⟩ := s.unloadOk_spec x st trip slot deck
      exact ⟨emptied, joined, res⟩
    · rintro unload rfl deck
      obtain ⟨res, -, kept⟩ := s.released_place st slot
      rw [same, show settledAs st.action false = .ok by rw [unload]; rfl, s.stopEffect_unload_ok x st trip unload,
        s.unloadOk_empty x st trip deck]
      exact ⟨kept d, kept st.place, res⟩
    · rintro unload rfl
      rw [same, show settledAs st.action true = .blocked by rw [unload]; rfl, s.stopEffect_unload_blocked x st trip unload]
      obtain ⟨frozen, kept, res, -⟩ := s.unloadBlocked_spec x st slot
      exact ⟨frozen, kept st.place, kept d, res⟩
  case locks =>
    simp only [State.unlockTrip, held]
    exact s.unlocked_of_mem t.plan.stops member lane
  case cleared =>
    have eq := (s.afterCheck_none x level trip none).trans (if_pos some')
    rw [eq]
    obtain ⟨state, -, awaits, queue⟩ := s.cleared_spec x trip
    exact ⟨rfl, state, awaits, queue⟩
  case idle => exact (s.afterCheck_none x level trip none).trans (if_neg fun h => h.elim (absurd zero) (absurd ground))
  case trip =>
    intro named kept rest passed
    have keptEq : s.keptOf x level t = if (s.mode == .run) = true then kept else [] := by
      rw [State.keptOf]
      by_cases run : s.mode = .run <;> simp [run, kept]
    have passedEq : passed = (passedOf (s.keptOf x level t) t.openStops).map (·.2) := by
      rw [keptEq]
      exact (t.passed_eq kept (s.mode == .run)).symm
    have restEq (run : s.mode = .run) : s.remainder x level t = rest := by
      rw [State.remainder, keptEq, if_pos (by simpa using run)]
    have only := s.afterCheck_liftOnly x level trip held
    have places : (s.afterCheck x level trip).1.places = (s.afterPassed x level t).places := by rw [only]
    have contexts : (s.afterCheck x level trip).1.contexts = (s.afterPassed x level t).contexts := by rw [only]
    obtain ⟨-, -, -, -, res⟩ := s.passOthers_spec x (s.keptOf x level t) t.openStops
    refine ⟨fun ends => ?_, fun p hp => ?_, fun st n c member unload inbound card deck hc kind phase alone => ?_,
      fun run some' => ?_⟩
    · refine s.afterCheck_ends x level trip held ?_
      rintro ⟨run, some'⟩
      exact ends.elim (absurd run) fun none => some' ((restEq run).trans none)
    · rw [State.place_eq_of_places places, passedEq]
      exact res p (by omega)
    · rw [passedEq] at member alone
      refine (State.ctx_congr _ contexts n).trans ?_
      refine (State.ctx_passOthers hc (s.keptOf x level t) t.openStops alone member unload inbound card deck).trans ?_
      rw [Context.turnedBack, if_pos ⟨kind, phase⟩]
    · have issued := s.afterCheck_remainder x level trip held run (by rw [restEq run]; exact some')
      rw [restEq run] at issued
      obtain ⟨mark, onTrip, trip', queue⟩ := issued
      exact ⟨mark, onTrip, ⟨_, trip', rfl, rfl, rfl, rfl, rfl, rfl, rfl, rfl⟩, _, queue⟩
  case bits =>
    intro idx w v r lost found
    have fails (d : Deck) (here : Bool) : v.checkFails x d here = true ↔ lost d here := by
      simp only [State.checkFails, lost]
      cases v.deck x d with
      | none => simp
      | some e => cases e <;> simp
    have adds (d : Deck) (here : Bool) : v.checkAdds x d here = true ↔ found d here := by
      simp only [State.checkAdds, found, Bool.and_eq_true, Option.isNone_iff_eq_none]
      exact and_comm
    have bits : ∀ a b c e : Bool, let d := bit a 0x01 ||| bit b 0x02 ||| bit c 0x04 ||| bit e 0x08
        d.toNat < 16 ∧ d.getLsbD 0 = a ∧ d.getLsbD 1 = b ∧ d.getLsbD 2 = c ∧ d.getLsbD 3 = e := by decide
    obtain ⟨small, b0, b1, b2, b3⟩ := bits (!idx.isEmpty) (v.checkFails x .front front || v.checkFails x .rear rear)
      (w.2 || v.checkAdds x .front front || v.checkAdds x .rear rear) r.2
    refine ⟨_, rfl, small, ?_, ?_, ?_, by rw [b3]⟩
    · rw [b0]; simp
    · rw [b1, Bool.or_eq_true, fails, fails]
    · rw [b2, Bool.or_eq_true, Bool.or_eq_true, adds, adds, or_assoc]

end Sys2Proof.Machine
end

section
/-! PROOF. The trip planner's choices (R92–R99): the decks, the carried-back totes, the outbound choice and the inbound set. -/

namespace Sys2Proof.Machine

/-! ### Terms (R92) -/

section
variable (s : State) (x : Side)

theorem State.mem_freeDecks (d : Deck) : d ∈ s.freeDecks x ↔ s.deck x d = none := by
  cases d <;> simp [State.freeDecks]

theorem State.freeDecks_eq : s.freeDecks x =
    (if s.deck x .front = none then [.front] else []) ++ (if s.deck x .rear = none then [.rear] else []) := by
  cases front : s.deck x .front <;> cases rear : s.deck x .rear <;> simp [State.freeDecks, front, rear]

theorem State.length_freeDecks : (s.freeDecks x).length =
    (if s.deck x .front = none then 1 else 0) + (if s.deck x .rear = none then 1 else 0) := by
  rw [State.freeDecks_eq]
  split <;> split <;> rfl

/-- A deck's entry waits for a card ahead of it in the bound list (R92). -/
def State.Held (d : Deck) : Prop := ∃ n, s.deck x d = some (.card n) ∧ s.sequenced n = true ∧
  ∃ m ∈ s.aheadInBound x n, s.inPhase m .inSpur = false ∧ s.deck x (otherDeck d) ≠ some (.card m)

theorem State.orderHeld_iff (d : Deck) : s.orderHeld x d = true ↔ s.Held x d := by
  unfold State.orderHeld State.Held
  cases deck : s.deck x d with
  | none => simp
  | some e => cases e with
    | foreign => simp
    | card n => simp [List.any_eq_true]

theorem State.mem_carried (d : Deck) (e : Entry) : (d, e) ∈ s.carried x ↔ s.deck x d = some e ∧ ¬s.Held x d := by
  have each (d' : Deck) : (match s.deck x d' with
      | none => none
      | some e => if s.orderHeld x d' then none else some (d', e)) = some (d, e) ↔ d' = d ∧ s.deck x d' = some e ∧ ¬s.Held x d' := by
    rw [← s.orderHeld_iff x d']
    cases s.deck x d' with
    | none => simp
    | some e' =>
      by_cases held : s.orderHeld x d' = true
      · simp [held]
      · simp [held]
  rw [State.carried, List.mem_filterMap]
  constructor
  · rintro ⟨d', -, picked⟩
    obtain ⟨rfl, rest⟩ := (each d').1 picked
    exact rest
  · exact fun rest => ⟨d, by cases d <;> simp, (each d).2 ⟨rfl, rest⟩⟩

theorem State.claimed_idle (untripped : (s.lift x).trip = none) (unplanned : (s.lift x).pending = none) (p k : Nat) (e : Entry) :
    s.claimed x p k e = false := by
  cases e <;> simp [State.claimed, Lift.claims, untripped, unplanned]

theorem State.offeredHead_iff (p : Nat) (e : Entry) : s.offeredHead x p = some e ↔
    s.admitsDepartures p = true ∧ s.head p = some e ∧ s.claimed x p 0 e = false := by
  unfold State.offeredHead
  cases head : s.head p with
  | none => simp
  | some h =>
    by_cases own : h = e
    · subst own
      simp [Bool.and_eq_true]
    · have apart : ¬some h = some e := fun same => own (Option.some.inj same)
      simp only [apart, false_and, and_false, iff_false]
      split <;> simp [own]

theorem State.laneOfCard_iff (n p : Nat) : s.laneOfCard n = some p ↔ ∃ c, s.ctx n = some c ∧ c.phase = .inLane ∧ c.place = some p := by
  unfold State.laneOfCard
  cases hc : s.ctx n with
  | none => simp
  | some c => by_cases inLane : c.phase = .inLane <;> simp [State.inPhase, hc, inLane]

/-! ### Second rule (R94) -/

theorem State.turnBackHead_iff (e : Entry) : s.turnBackHead x = some e ↔
    s.admitsDepartures (entrySpur x) = true ∧ s.head (entrySpur x) = some e ∧ (e = .foreign ∨ ∃ n c,
      e = .card n ∧ s.ctx n = some c ∧ c.kind = .store ∧ c.phase = .inSpur ∧ s.admitsArrivals (inLaneOf c.level x) = false) := by
  have turns : s.turnsBack x e = true ↔ (e = .foreign ∨ ∃ n c,
      e = .card n ∧ s.ctx n = some c ∧ c.kind = .store ∧ c.phase = .inSpur ∧ s.admitsArrivals (inLaneOf c.level x) = false) := by
    cases e with
    | foreign => simp [State.turnsBack]
    | card n => cases hc : s.ctx n <;> simp [State.turnsBack, hc, destination, and_assoc]
  rw [← turns]
  unfold State.turnBackHead
  cases head : s.head (entrySpur x) with
  | none => simp
  | some h =>
    by_cases own : h = e
    · subst own
      simp
    · have apart : ¬some h = some e := fun same => own (Option.some.inj same)
      simp only [apart, false_and, and_false, iff_false]
      split <;> simp [own]

/-! ### The sequenced part of the outbound choice (R95, R96 step 1) -/

/-- A pick names the entry at its position (R96). -/
def State.Shown (k : Pick) : Prop := (s.entries k.place)[k.position]? = some k.entry

/-- The second sequenced pick (R96 step 1). -/
def State.secondPick (n p : Nat) : List Pick :=
  match s.nextBound x n with
  | none => []
  | some m =>
    match s.laneOfCard m with
    | none => []
    | some q =>
      if s.offeredHead x q = some (.card m) then [⟨q, 0, .card m⟩]
      else if q = p ∧ (s.entries p)[1]? = some (.card m) ∧ s.claimed x p 1 (.card m) = false then [⟨p, 1, .card m⟩]
      else []

theorem State.sequencedPicks_unoffered (room : Nat)
    (none : ∀ n p h, s.n1 x = some n → s.laneOfCard n = some p → s.offeredHead x p = some h →
      h ≠ .card n ∧ ¬((s.entries p)[1]? = some (.card n) ∧ s.seqEntry h = false)) : s.sequencedPicks x room = [] := by
  unfold State.sequencedPicks
  split
  · rfl
  · next n first =>
    split
    · rfl
    · next p lane =>
      split
      · rfl
      · next h offered =>
        obtain ⟨other, behind⟩ := none n p h first lane offered
        rw [if_neg other, if_neg behind]

theorem State.sequencedPicks_head {n p room : Nat} (first : s.n1 x = some n) (lane : s.laneOfCard n = some p)
    (offered : s.offeredHead x p = some (.card n)) :
    s.sequencedPicks x room = (⟨p, 0, .card n⟩ :: s.secondPick x n p).take room := by
  simp only [State.sequencedPicks, first, lane, offered, if_true]
  rfl

theorem State.sequencedPicks_behind {n p room : Nat} {h : Entry} (first : s.n1 x = some n) (lane : s.laneOfCard n = some p)
    (offered : s.offeredHead x p = some h) (other : h ≠ .card n) (behind : (s.entries p)[1]? = some (.card n))
    (unsequenced : s.seqEntry h = false) :
    s.sequencedPicks x room = ([⟨p, 0, h⟩, ⟨p, 1, .card n⟩] : List Pick).take room := by
  simp only [State.sequencedPicks, first, lane, offered]
  rw [if_neg other, if_pos ⟨behind, unsequenced⟩]

theorem State.shown_head {p : Nat} {e : Entry} (head : s.head p = some e) : (s.entries p)[0]? = some e := by
  rw [← List.head?_eq_getElem?]; exact head

/-- What the sequenced picks are: none, or the first bound card at its lane's head, or that card behind an unsequenced head. -/
theorem State.sequencedPicks_cases (room : Nat) : s.sequencedPicks x room = [] ∨
    (∃ n p, s.head p = some (.card n) ∧ s.sequencedPicks x room = (⟨p, 0, .card n⟩ :: s.secondPick x n p).take room) ∨
    ∃ n p h, s.head p = some h ∧ (s.entries p)[1]? = some (.card n) ∧
      s.sequencedPicks x room = ([⟨p, 0, h⟩, ⟨p, 1, .card n⟩] : List Pick).take room := by
  by_cases some' : ∃ n p h, s.n1 x = some n ∧ s.laneOfCard n = some p ∧ s.offeredHead x p = some h ∧
      (h = .card n ∨ ((s.entries p)[1]? = some (.card n) ∧ s.seqEntry h = false))
  · obtain ⟨n, p, h, first, lane, offered, which⟩ := some'
    have head := ((s.offeredHead_iff x p h).1 offered).2.1
    by_cases own : h = .card n
    · subst own
      exact .inr (.inl ⟨n, p, head, s.sequencedPicks_head x first lane offered⟩)
    · obtain ⟨behind, unsequenced⟩ := which.resolve_left own
      exact .inr (.inr ⟨n, p, h, head, behind, s.sequencedPicks_behind x first lane offered own behind unsequenced⟩)
  · refine .inl (s.sequencedPicks_unoffered x room fun n p h first lane offered => ⟨fun own => ?_, fun behind => ?_⟩)
    · exact some' ⟨n, p, h, first, lane, offered, .inl own⟩
    · exact some' ⟨n, p, h, first, lane, offered, .inr behind⟩

theorem State.shown_secondPick {n p : Nat} {k : Pick} (member : k ∈ s.secondPick x n p) : s.Shown k := by
  unfold State.secondPick at member
  split at member
  · cases member
  · split at member
    · cases member
    · next m _ q _ =>
      split at member
      · next offered =>
        rw [List.mem_singleton.1 member]
        exact s.shown_head ((s.offeredHead_iff x q _).1 offered).2.1
      · split at member
        · next behind =>
          rw [List.mem_singleton.1 member]
          exact behind.2.1
        · cases member

theorem State.shown_sequencedPicks {room : Nat} {k : Pick} (member : k ∈ s.sequencedPicks x room) : s.Shown k := by
  rcases s.sequencedPicks_cases x room with none | ⟨n, p, head, eq⟩ | ⟨n, p, h, head, behind, eq⟩
  · rw [none] at member; cases member
  · rw [eq] at member
    rcases List.mem_cons.1 (List.mem_of_mem_take member) with rfl | second
    · exact s.shown_head head
    · exact s.shown_secondPick x second
  · rw [eq] at member
    rcases List.mem_pair.1 (List.mem_of_mem_take member) with rfl | rfl
    · exact s.shown_head head
    · exact behind

theorem State.length_sequencedPicks (room : Nat) : (s.sequencedPicks x room).length ≤ room := by
  rcases s.sequencedPicks_cases x room with none | ⟨n, p, -, eq⟩ | ⟨n, p, h, -, -, eq⟩
  · rw [none]; exact Nat.zero_le _
  · rw [eq]; exact List.length_take_le _ _
  · rw [eq]; exact List.length_take_le _ _

/-! ### The unsequenced candidates (R96 step 2) -/

/-- What the third rule may choose beside the entries chosen (R96 step 2). -/
def State.Candidate (chosen : List Pick) (k : Pick) : Prop := (∃ level, 1 ≤ level ∧ level ≤ 40 ∧ k.place = outLane level x) ∧
  s.admitsDepartures k.place = true ∧ (s.entries k.place)[k.position]? = some k.entry ∧ s.seqEntry k.entry = false ∧
  s.claimed x k.place k.position k.entry = false ∧
  if ∃ j ∈ chosen, j.place = k.place ∧ j.position = 0 then k.position = 1 ∧ ∀ j ∈ chosen, j.place = k.place → j.position ≠ 1
  else k.position = 0

/-- The candidates of all the side's outbound lanes, in ascending level. -/
def State.laneChoices (chosen : List Pick) : List Pick :=
  (List.range 40).flatMap (fun l => s.laneCandidates x chosen (outLane (l + 1) x))

theorem mem_ite_singleton {α : Type} {p : Prop} [Decidable p] (a b : α) : a ∈ (if p then [b] else []) ↔ p ∧ a = b := by
  by_cases h : p <;> simp [h]

theorem State.mem_laneCandidates (chosen : List Pick) (p : Nat) (k : Pick) : k ∈ s.laneCandidates x chosen p ↔ k.place = p ∧
    s.admitsDepartures p = true ∧ (s.entries p)[k.position]? = some k.entry ∧ s.seqEntry k.entry = false ∧
    s.claimed x p k.position k.entry = false ∧
    if ∃ j ∈ chosen, j.place = p ∧ j.position = 0 then k.position = 1 ∧ ∀ j ∈ chosen, j.place = p → j.position ≠ 1
    else k.position = 0 := by
  have first : chosen.any (fun j => j.place == p && j.position == 0) = true ↔ ∃ j ∈ chosen, j.place = p ∧ j.position = 0 := by
    simp
  have second : chosen.any (fun j => j.place == p && j.position == 1) = true ↔ ¬∀ j ∈ chosen, j.place = p → j.position ≠ 1 := by
    simp
  obtain ⟨place, position, entry⟩ := k
  dsimp only
  by_cases admits : s.admitsDepartures p = true
  · by_cases taken : ∃ j ∈ chosen, j.place = p ∧ j.position = 0
    · rw [if_pos taken]
      cases entries : s.entries p with
      | nil => simp [State.laneCandidates, entries]
      | cons e0 es => cases es with
        | nil =>
          simp only [State.laneCandidates, entries, first.2 taken, if_true, ite_self, List.not_mem_nil, false_iff]
          rintro ⟨-, -, shown, -, -, rfl, -⟩
          simp at shown
        | cons e1 es =>
          simp only [State.laneCandidates, entries, admits, first.2 taken, if_true, true_and]
          by_cases again : ∀ j ∈ chosen, j.place = p → j.position ≠ 1
          · have anyAgain : chosen.any (fun j => j.place == p && j.position == 1) = false :=
              Bool.eq_false_iff.2 fun h => second.1 h again
            rw [anyAgain, Bool.false_or]
            have eq : (if s.claimed x p 1 e1 = true then [] else if s.unsequenced e1 = true then ([⟨p, 1, e1⟩] : List Pick) else []) =
                if s.seqEntry e1 = false ∧ s.claimed x p 1 e1 = false then [⟨p, 1, e1⟩] else [] := by
              cases s.claimed x p 1 e1 <;> cases sequenced : s.seqEntry e1 <;> simp [State.unsequenced, sequenced]
            rw [eq, mem_ite_singleton]
            constructor
            · rintro ⟨⟨unsequenced, free⟩, own⟩
              cases own
              exact ⟨rfl, rfl, unsequenced, free, rfl, again⟩
            · rintro ⟨rfl, shown, unsequenced, free, rfl, -⟩
              cases Option.some.inj shown
              exact ⟨⟨unsequenced, free⟩, rfl⟩
          · simp [second.2 again, again]
    · rw [if_neg taken]
      have none := Bool.eq_false_iff.2 (mt first.1 taken)
      cases entries : s.entries p with
      | nil => simp [State.laneCandidates, entries]
      | cons e0 es =>
        simp only [State.laneCandidates, entries, admits, none, if_true, true_and, Bool.false_eq_true, if_false]
        have eq : (if (s.unsequenced e0 && !s.claimed x p 0 e0) = true then ([⟨p, 0, e0⟩] : List Pick) else []) =
            if s.seqEntry e0 = false ∧ s.claimed x p 0 e0 = false then [⟨p, 0, e0⟩] else [] := by
          cases s.claimed x p 0 e0 <;> cases sequenced : s.seqEntry e0 <;> simp [State.unsequenced, sequenced]
        rw [eq, mem_ite_singleton]
        constructor
        · rintro ⟨⟨unsequenced, free⟩, own⟩
          cases own
          exact ⟨rfl, rfl, unsequenced, free, rfl⟩
        · rintro ⟨rfl, shown, unsequenced, free, rfl⟩
          cases Option.some.inj shown
          exact ⟨⟨unsequenced, free⟩, rfl⟩
  · simp [State.laneCandidates, admits]

theorem outLane_range {level : Nat} (low : 1 ≤ level) : laneLevel (outLane level x) = level := by
  cases x <;> simp only [outLane, laneOf, laneLevel] <;> simp <;> omega

theorem State.mem_laneChoices (chosen : List Pick) (k : Pick) : k ∈ s.laneChoices x chosen ↔ s.Candidate x chosen k := by
  simp only [State.laneChoices, List.mem_flatMap, List.mem_range, State.mem_laneCandidates, State.Candidate]
  constructor
  · rintro ⟨l, small, own, rest⟩
    rw [← own] at rest
    exact ⟨⟨l + 1, by omega, by omega, own⟩, rest⟩
  · rintro ⟨⟨level, low, high, own⟩, rest⟩
    refine ⟨level - 1, by omega, ?_⟩
    rw [Nat.sub_add_cancel low, ← own]
    exact ⟨rfl, rest⟩

theorem State.laneChoices_sorted (chosen : List Pick) :
    (s.laneChoices x chosen).Pairwise (fun k j => laneLevel k.place ≤ laneLevel j.place) := by
  have level {l : Nat} {k : Pick} (member : k ∈ s.laneCandidates x chosen (outLane (l + 1) x)) : laneLevel k.place = l + 1 := by
    rw [((s.mem_laneCandidates x chosen _ k).1 member).1]
    exact outLane_range x (by omega)
  refine List.pairwise_flatMap.2 ⟨fun l _ => ?_, ?_⟩
  · exact List.pairwise_iff_forall_sublist.2 fun {k j} sub => by
      rw [level (sub.subset (by simp)), level (sub.subset (by simp))]
  · refine List.pairwise_lt_range.imp fun {l m} less k hk j hj => ?_
    rw [level hk, level hj]
    omega

/-- Pick `k` is taken before pick `j` or with it (R96 step 2): FOREIGN first, then the oldest, then the lower level. -/
def State.Sooner (k j : Pick) : Prop := match k.entry, j.entry with
  | .foreign, .foreign => laneLevel k.place ≤ laneLevel j.place
  | .foreign, .card _ => True
  | .card _, .foreign => False
  | .card m, .card n => s.age n < s.age m ∨ (s.age n = s.age m ∧ laneLevel k.place ≤ laneLevel j.place)

theorem State.sooner_refl (k : Pick) : s.Sooner k k := by
  unfold State.Sooner
  cases k.entry <;> simp

/-- A pick taken before the best of those behind it is the soonest. -/
theorem State.sooner_of_before {p q j : Pick} (before : s.before p q = true) (least : s.Sooner q j)
    (lower : laneLevel p.place ≤ laneLevel j.place) : s.Sooner p j := by
  obtain ⟨pPlace, pPosition, pEntry⟩ := p
  obtain ⟨qPlace, qPosition, qEntry⟩ := q
  obtain ⟨jPlace, jPosition, jEntry⟩ := j
  cases pEntry with
  | foreign => cases jEntry <;> simp_all [State.Sooner]
  | card m => cases qEntry with
    | foreign => simp [State.before] at before
    | card n => cases jEntry with
      | foreign => simp [State.Sooner] at least
      | card k =>
        simp only [State.Sooner, State.before, decide_eq_true_eq] at *
        omega

theorem State.sooner_of_not_before {p q : Pick} (not : ¬s.before p q = true) : s.Sooner q p := by
  obtain ⟨pPlace, pPosition, pEntry⟩ := p
  obtain ⟨qPlace, qPosition, qEntry⟩ := q
  cases pEntry with
  | foreign => simp [State.before] at not
  | card m => cases qEntry with
    | foreign => simp [State.Sooner]
    | card n =>
      simp only [State.Sooner, State.before, decide_eq_true_eq] at *
      omega

theorem State.bestPick_eq_none (l : List Pick) : s.bestPick l = none ↔ l = [] := by
  cases l with
  | nil => simp [State.bestPick]
  | cons p ps =>
    simp only [State.bestPick, List.cons_ne_nil, iff_false]
    split
    · simp
    · split <;> simp

/-- The best pick of a list in ascending level is a member and the soonest (R96 step 2). -/
theorem State.bestPick_spec {l : List Pick} (sorted : l.Pairwise (fun k j => laneLevel k.place ≤ laneLevel j.place)) {b : Pick}
    (best : s.bestPick l = some b) : b ∈ l ∧ ∀ j ∈ l, s.Sooner b j := by
  induction l generalizing b with
  | nil => cases best
  | cons p ps ih =>
    obtain ⟨lower, sorted⟩ := List.pairwise_cons.1 sorted
    simp only [State.bestPick] at best
    cases rest : s.bestPick ps with
    | none =>
      rw [rest] at best
      have none := (s.bestPick_eq_none ps).1 rest
      cases Option.some.inj best
      subst none
      simp [s.sooner_refl]
    | some q =>
      rw [rest] at best
      dsimp only at best
      obtain ⟨member, least⟩ := ih sorted rest
      by_cases before : s.before p q = true
      · rw [if_pos before] at best
        cases Option.some.inj best
        refine ⟨List.mem_cons_self, List.forall_mem_cons.2 ⟨s.sooner_refl p, fun j hj => ?_⟩⟩
        exact s.sooner_of_before before (least j hj) (lower j hj)
      · rw [if_neg before] at best
        cases Option.some.inj best
        exact ⟨List.mem_cons_of_mem _ member, List.forall_mem_cons.2 ⟨s.sooner_of_not_before before, least⟩⟩

/-! ### The outbound choice (R95, R96) -/

theorem State.fillPicks_succ (k : Nat) (chosen : List Pick) : s.fillPicks x (k + 1) chosen =
    match s.bestPick (s.laneChoices x chosen) with
    | none => chosen
    | some p => s.fillPicks x k (chosen ++ [p]) := rfl

/-- The choices are filled one by one, each the soonest candidate; they stop early only where no candidate is left. -/
theorem State.fillPicks_spec (k : Nat) (chosen : List Pick) : ∃ more, s.fillPicks x k chosen = chosen ++ more ∧ more.length ≤ k ∧
    (∀ i p, more[i]? = some p → s.Candidate x (chosen ++ more.take i) p ∧
      ∀ j, s.Candidate x (chosen ++ more.take i) j → s.Sooner p j) ∧
    (more.length < k → ∀ p, ¬s.Candidate x (chosen ++ more) p) := by
  induction k generalizing chosen with
  | zero => exact ⟨[], (List.append_nil _).symm, Nat.le_refl _, by simp, by simp⟩
  | succ k ih =>
    rw [State.fillPicks_succ]
    cases best : s.bestPick (s.laneChoices x chosen) with
    | none =>
      have empty := (s.bestPick_eq_none _).1 best
      refine ⟨[], (List.append_nil _).symm, Nat.zero_le _, by simp, fun _ p candidate => ?_⟩
      rw [List.append_nil, ← s.mem_laneChoices, empty] at candidate
      cases candidate
    | some p =>
      obtain ⟨member, least⟩ := s.bestPick_spec (s.laneChoices_sorted x chosen) best
      obtain ⟨more, eq, short, each, full⟩ := ih (chosen ++ [p])
      refine ⟨p :: more, by simpa using eq, by simpa using short, fun i q at' => ?_, fun less r => ?_⟩
      · cases i with
        | zero =>
          cases Option.some.inj at'
          rw [List.take_zero, List.append_nil]
          exact ⟨(s.mem_laneChoices x chosen p).1 member, fun j candidate => least j ((s.mem_laneChoices x chosen j).2 candidate)⟩
        | succ i => simpa using each i q at'
      · have := full (by simpa using less) r
        simpa using this

/-- The most totes a trip may take out. -/
def State.most : Nat := min (s.freeDecks x).length (s.exitRoom x)

/-- The outbound choice (R95, R96). -/
theorem State.outboundChoice_spec :
    let picks := s.outboundChoice x
    let first := s.sequencedPicks x (s.most x)
    picks.take first.length = first ∧ picks.length ≤ s.most x ∧
      (∀ i k, first.length ≤ i → picks[i]? = some k →
        s.Candidate x (picks.take i) k ∧ ∀ j, s.Candidate x (picks.take i) j → s.Sooner k j) ∧
      (picks.length < s.most x → ∀ k, ¬s.Candidate x picks k) := by
  intro picks first
  obtain ⟨more, eq, short, each, full⟩ := s.fillPicks_spec x (s.most x - first.length) first
  have does : picks = first ++ more := eq
  have fits := s.length_sequencedPicks x (s.most x)
  rw [does]
  refine ⟨by simp, ?_, fun i k late at' => ?_, fun less => ?_⟩
  · rw [List.length_append]
    simp only [first] at *
    omega
  · rw [List.getElem?_append_right late] at at'
    rw [List.take_append, List.take_of_length_le late]
    exact each (i - first.length) k at'
  · refine full ?_
    rw [List.length_append] at less
    omega

theorem State.shown_outboundChoice {k : Pick} (member : k ∈ s.outboundChoice x) : s.Shown k := by
  obtain ⟨start, -, each, -⟩ := s.outboundChoice_spec x
  obtain ⟨i, at'⟩ := List.mem_iff_getElem?.1 member
  by_cases late : (s.sequencedPicks x (s.most x)).length ≤ i
  · exact (each i k late at').1.2.2.1
  · refine s.shown_sequencedPicks x (room := s.most x) ?_
    rw [← start]
    exact List.mem_iff_getElem?.2 ⟨i, by rw [List.getElem?_take_of_lt (by omega)]; exact at'⟩

/-! ### The inbound choice (R97, R98) -/

/-- Entry `i` of the entry spur is a STORE card bound for lane `p`, which admits it (R97). -/
def State.Fits (i n p : Nat) : Prop := s.admitsDepartures (entrySpur x) = true ∧ (s.entries (entrySpur x))[i]? = some (.card n) ∧
  s.claimed x (entrySpur x) i (.card n) = false ∧ s.admitsArrivals p = true ∧
  ∃ c, s.ctx n = some c ∧ c.kind = .store ∧ c.phase = .inSpur ∧ p = inLaneOf c.level x

/-- The first inbound candidate (R97). -/
def State.FirstIn (n p : Nat) : Prop := (∃ d, s.deck x d = none) ∧ s.Fits x 0 n p ∧ s.hasRoom p = true

/-- The second inbound candidate, behind one bound for lane `p` (R97). -/
def State.SecondIn (p m q : Nat) : Prop := s.deck x .front = none ∧ s.deck x .rear = none ∧ s.Fits x 1 m q ∧
  (s.entries q).length + (s.place q).res + (if q = p then 1 else 0) < capacity q

theorem State.inboundCard_iff (e : Option Entry) (n p : Nat) : s.inboundCard x e = some (n, p) ↔ e = some (.card n) ∧
    s.admitsArrivals p = true ∧ ∃ c, s.ctx n = some c ∧ c.kind = .store ∧ c.phase = .inSpur ∧ p = inLaneOf c.level x := by
  cases e with
  | none => simp [State.inboundCard]
  | some e => cases e with
    | foreign => simp [State.inboundCard]
    | card m =>
      cases hc : s.ctx m with
      | none =>
        simp only [State.inboundCard, hc, reduceCtorEq, false_iff]
        rintro ⟨own, -, c, hn, -⟩
        cases own
        rw [hc] at hn
        cases hn
      | some c =>
        have eq : s.inboundCard x (some (.card m)) =
            if c.kind = .store ∧ c.phase = .inSpur ∧ s.admitsArrivals (inLaneOf c.level x) = true then
              some (m, inLaneOf c.level x) else none := by
          simp only [State.inboundCard, hc, destination] <;> rfl
        rw [eq]
        constructor
        · intro picked
          by_cases goes : c.kind = .store ∧ c.phase = .inSpur ∧ s.admitsArrivals (inLaneOf c.level x) = true
          · rw [if_pos goes] at picked
            obtain ⟨kind, phase, admits⟩ := goes
            cases picked
            exact ⟨rfl, admits, c, hc, kind, phase, rfl⟩
          · rw [if_neg goes] at picked
            cases picked
        · rintro ⟨own, admits, d, hd, kind, phase, rfl⟩
          cases own
          rw [hc] at hd
          cases hd
          rw [if_pos ⟨kind, phase, admits⟩]

theorem State.free_iff : (s.freeDecks x).isEmpty = false ↔ ∃ d, s.deck x d = none := by
  rw [List.isEmpty_eq_false_iff_exists_mem]
  simp only [s.mem_freeDecks x]

theorem State.both_free_iff : (s.freeDecks x).length = 2 ↔ s.deck x .front = none ∧ s.deck x .rear = none := by
  rw [State.length_freeDecks]
  by_cases front : s.deck x .front = none <;> by_cases rear : s.deck x .rear = none <;> simp [front, rear]

/-- The cards the head of the entry spur offers, and what each test asks (R97). -/
theorem State.inboundCandidates_first {n p : Nat} (first : s.FirstIn x n p) : s.inboundCandidates x =
    match s.inboundCard x ((s.entries (entrySpur x))[1]?) with
    | none => [(n, p)]
    | some (m, q) =>
      if (s.freeDecks x).length = 2 ∧ s.claimed x (entrySpur x) 1 (.card m) = false ∧
          (s.entries q).length + (s.place q).res + (if q = p then 1 else 0) < capacity q then [(n, p), (m, q)]
      else [(n, p)] := by
  obtain ⟨free, ⟨admits, shown, unclaimed, arrives, card⟩, room⟩ := first
  have head : s.head (entrySpur x) = some (.card n) := by rw [State.head, List.head?_eq_getElem?]; exact shown
  have own := (s.inboundCard_iff x (s.head (entrySpur x)) n p).2 ⟨head, arrives, card⟩
  simp only [State.inboundCandidates, admits, (s.free_iff x).2 free, own, room, unclaimed, Bool.not_false, Bool.and_self, if_true]
    <;> rfl

theorem State.inboundCandidates_none (none : ∀ n p, ¬s.FirstIn x n p) : s.inboundCandidates x = [] := by
  unfold State.inboundCandidates
  split
  · next opened =>
    simp only [Bool.and_eq_true, Bool.not_eq_true', s.free_iff x] at opened
    obtain ⟨admits, free⟩ := opened
    split
    · rfl
    · next n p own =>
      obtain ⟨head, arrives, card⟩ := (s.inboundCard_iff x _ n p).1 own
      refine if_neg fun passes => none n p ?_
      simp only [Bool.and_eq_true, Bool.not_eq_true'] at passes
      exact ⟨free, ⟨admits, s.shown_head head, passes.2, arrives, card⟩, passes.1⟩
  · rfl

theorem State.inboundCandidates_one {n p : Nat} (first : s.FirstIn x n p) (alone : ∀ m q, ¬s.SecondIn x p m q) :
    s.inboundCandidates x = [(n, p)] := by
  rw [s.inboundCandidates_first x first]
  obtain ⟨-, ⟨admits, -⟩, -⟩ := first
  cases own : s.inboundCard x ((s.entries (entrySpur x))[1]?) with
  | none => rfl
  | some r =>
    obtain ⟨m, q⟩ := r
    obtain ⟨shown, arrives, card⟩ := (s.inboundCard_iff x _ m q).1 own
    refine if_neg fun ⟨both, unclaimed, room⟩ => alone m q ?_
    obtain ⟨front, rear⟩ := (s.both_free_iff x).1 both
    exact ⟨front, rear, ⟨admits, shown, unclaimed, arrives, card⟩, room⟩

theorem State.inboundCandidates_two {n p m q : Nat} (first : s.FirstIn x n p) (second : s.SecondIn x p m q) :
    s.inboundCandidates x = [(n, p), (m, q)] := by
  obtain ⟨front, rear, ⟨admits, shown, unclaimed, arrives, card⟩, room⟩ := second
  have own := (s.inboundCard_iff x ((s.entries (entrySpur x))[1]?) m q).2 ⟨shown, arrives, card⟩
  rw [s.inboundCandidates_first x first, own]
  exact if_pos ⟨(s.both_free_iff x).2 ⟨front, rear⟩, unclaimed, room⟩

/-- The inbound candidates, case by case (R97). -/
theorem State.inboundCandidates_cases : s.inboundCandidates x = [] ∨
    (∃ n p, s.FirstIn x n p ∧ s.inboundCandidates x = [(n, p)]) ∨
    ∃ n p m q, s.FirstIn x n p ∧ s.SecondIn x p m q ∧ s.inboundCandidates x = [(n, p), (m, q)] := by
  by_cases first : ∃ n p, s.FirstIn x n p
  · obtain ⟨n, p, first⟩ := first
    by_cases second : ∃ m q, s.SecondIn x p m q
    · obtain ⟨m, q, second⟩ := second
      exact .inr (.inr ⟨n, p, m, q, first, second, s.inboundCandidates_two x first second⟩)
    · exact .inr (.inl ⟨n, p, first, s.inboundCandidates_one x first fun m q h => second ⟨m, q, h⟩⟩)
  · exact .inl (s.inboundCandidates_none x fun n p h => first ⟨n, p, h⟩)

theorem State.detourPasses_iff (picks : List Pick) (inb : List (Nat × Nat)) : s.detourPasses x picks inb = true ↔
    s.estimate 0 (s.normalStops x picks inb) ≤ s.estimate 0 (s.normalStops x picks []) + s.detour := decide_eq_true_iff

/-- The inbound set is a start of the candidates (R98). -/
theorem State.inboundSet_take (picks : List Pick) (inb : List (Nat × Nat)) :
    ∃ k, s.inboundSet x picks inb = inb.take k := by
  unfold State.inboundSet
  split
  · exact ⟨inb.length, (List.take_length).symm⟩
  · split
    · exact ⟨1, rfl⟩
    · exact ⟨0, rfl⟩

/-- Every start of the candidates is one of three lists. -/
theorem State.inboundSet_cases (picks : List Pick) : s.inboundSet x picks (s.inboundCandidates x) = [] ∨
    (∃ n p, s.FirstIn x n p ∧ s.inboundSet x picks (s.inboundCandidates x) = [(n, p)]) ∨
    ∃ n p m q, s.FirstIn x n p ∧ s.SecondIn x p m q ∧ s.inboundSet x picks (s.inboundCandidates x) = [(n, p), (m, q)] := by
  obtain ⟨k, eq⟩ := s.inboundSet_take x picks (s.inboundCandidates x)
  rw [eq]
  rcases s.inboundCandidates_cases x with none | ⟨n, p, first, one⟩ | ⟨n, p, m, q, first, second, two⟩
  · rw [none, List.take_nil]; exact .inl rfl
  · rw [one]
    cases k with
    | zero => exact .inl rfl
    | succ k => exact .inr (.inl ⟨n, p, first, by simp⟩)
  · rw [two]
    match k with
    | 0 => exact .inl rfl
    | 1 => exact .inr (.inl ⟨n, p, first, rfl⟩)
    | k + 2 => exact .inr (.inr ⟨n, p, m, q, first, second, by simp⟩)

/-! ### The order-held totes (R98) -/

/-- A tote on its deck that the trip may take out with its choices (R98). -/
theorem State.mem_heldOut (picks : List Pick) (d : Deck) (e : Entry) : (d, e) ∈ s.heldOut x picks ↔ s.deck x d = some e ∧ s.Held x d ∧
    picks.length < s.exitRoom x ∧
    ∃ n, e = .card n ∧ ∀ m ∈ s.aheadInBound x n, s.inPhase m .inSpur = true ∨ ∃ k ∈ picks, k.entry = .card m := by
  have each (d' : Deck) : (match s.deck x d' with
      | some (.card n) =>
        if s.orderHeld x d' && decide (picks.length < s.exitRoom x) &&
            (s.aheadInBound x n).all (fun m => s.inPhase m .inSpur || picks.any (fun k => k.entry == .card m)) then
          some (d', .card n)
        else none
      | _ => none) = some (d, e) ↔ d' = d ∧ s.deck x d' = some e ∧ s.Held x d' ∧ picks.length < s.exitRoom x ∧
        ∃ n, e = .card n ∧ ∀ m ∈ s.aheadInBound x n, s.inPhase m .inSpur = true ∨ ∃ k ∈ picks, k.entry = .card m := by
    rw [← s.orderHeld_iff x d']
    cases s.deck x d' with
    | none => simp
    | some h => cases h with
      | foreign =>
        simp only [reduceCtorEq, false_iff]
        rintro ⟨-, own, -, -, n, card, -⟩
        rw [card] at own
        cases own
      | card n =>
        have test : (s.orderHeld x d' && decide (picks.length < s.exitRoom x) &&
            (s.aheadInBound x n).all (fun m => s.inPhase m .inSpur || picks.any (fun k => k.entry == .card m))) = true ↔
            s.orderHeld x d' = true ∧ picks.length < s.exitRoom x ∧
              ∀ m ∈ s.aheadInBound x n, s.inPhase m .inSpur = true ∨ ∃ k ∈ picks, k.entry = .card m := by
          simp [and_assoc]
        constructor
        · intro picked
          dsimp only at picked
          split at picked
          · next passes =>
            obtain ⟨held, room, ahead⟩ := test.1 passes
            cases picked
            exact ⟨rfl, rfl, held, room, n, rfl, ahead⟩
          · cases picked
        · rintro ⟨rfl, own, held, room, m, rfl, ahead⟩
          cases own
          exact if_pos (test.2 ⟨held, room, ahead⟩)
  rw [State.heldOut, List.mem_filterMap]
  constructor
  · rintro ⟨d', -, picked⟩
    obtain ⟨rfl, rest⟩ := (each d').1 picked
    exact rest
  · exact fun rest => ⟨d, by cases d <;> simp, (each d).2 ⟨rfl, rest⟩⟩

end

end Sys2Proof.Machine
end

section
/-! PROOF. A plan that is made: its deadline, its stops, what it reserves and how it is handed over (R91, R100–R102; the statement
TripDeadline). -/

namespace Sys2Proof.Machine

/-! ### The deadline (R100, R101) -/

theorem ceiling_div (n : Nat) : 16 * ((n + 15) / 16) < n + 16 ∧ n ≤ 16 * ((n + 15) / 16) := by omega

section
variable (s : State) (x : Side)

theorem State.planOf_deadline (k : PlanKind) (start : Nat) (stops : List Stop) :
    let p := s.planOf k start stops
    p.estimate + s.marginF ≤ p.deadline ∧ 16 * (p.deadline - p.estimate - s.marginF) < p.estimate * s.marginM + 16 ∧
      p.estimate * s.marginM ≤ 16 * (p.deadline - p.estimate - s.marginF) := by
  intro p
  have deadline : p.deadline = p.estimate + (p.estimate * s.marginM + 15) / 16 + s.marginF := rfl
  have gap : p.deadline - p.estimate - s.marginF = (p.estimate * s.marginM + 15) / 16 := by omega
  rw [gap]
  exact ⟨by omega, ceiling_div _⟩

theorem State.planOf_stops (k : PlanKind) (start : Nat) (stops : List Stop) : (s.planOf k start stops).stops = stops := rfl

theorem levelDist_eq (a b : Nat) : levelDist a b = if a ≤ b then b - a else a - b := by
  unfold levelDist
  split <;> omega

/-! ### Which plan is made (R91, R93, R94) -/

theorem State.planFor_cases {p : Plan} (planned : s.planFor x = some p) :
    (s.carried x ≠ [] ∧ (s.carried x).length ≤ s.exitRoom x ∧
      p = s.planOf .carryBack 0 ((s.carriedOrder x (s.carried x)).map (fun q => s.exitUnload x q.1 q.2))) ∨
    (∃ d e, s.head (entrySpur x) = some e ∧ s.exitRoom x ≠ 0 ∧
      p = s.planOf .turnBack 0 [loadStop 0 (entrySpur x) d 0 e, s.exitUnload x d e]) ∨
    p = s.planOf .normal 0 (s.normalStops x (s.outboundChoice x)
      (s.inboundSet x (s.outboundChoice x) (s.inboundCandidates x))) := by
  unfold State.planFor at planned
  split at planned
  · next some' =>
    refine .inl ⟨by simpa using some', ?_⟩
    unfold State.carryBackPlan at planned
    split at planned
    · next fits => exact ⟨fits, (Option.some.inj planned).symm⟩
    · cases planned
  · split at planned
    · next e back =>
      unfold State.turnBackPlan at planned
      split at planned
      · cases planned
      · next d _ _ =>
        split at planned
        · cases planned
        · next room =>
          exact .inr (.inl ⟨d, e, ((s.turnBackHead_iff x e).1 back).2.1, room, (Option.some.inj planned).symm⟩)
    · refine .inr (.inr ?_)
      unfold State.normalPlan at planned
      dsimp only at planned
      split at planned
      · cases planned
      · exact (Option.some.inj planned).symm

theorem State.mem_carriedOrder {l : List (Deck × Entry)} {q : Deck × Entry} (member : q ∈ s.carriedOrder x l) : q ∈ l := by
  unfold State.carriedOrder at member
  split at member
  · split at member
    · simpa [or_comm] using member
    · exact member
  · exact member

theorem State.length_carriedOrder (l : List (Deck × Entry)) : (s.carriedOrder x l).length = l.length := by
  unfold State.carriedOrder
  split
  · split <;> rfl
  · rfl

/-! ### The stops of a plan (R102) -/

/-- A stop as the planner makes it: a load claims the entry at its position, an unload holds a reservation (R102). -/
def State.Planned (st : Stop) : Prop := st.outcome = .stillOpen ∧
  (st.action = .load → st.reserved = false ∧ ∃ k, (s.entries st.place)[k]? = some st.expected ∧
    st.claim = some (match st.expected with | .card n => .card n | .foreign => .foreign k)) ∧
  (st.action = .unload → st.reserved = true ∧ st.claim = none ∧ st.place < 164)

theorem State.planned_load {p k : Nat} {e : Entry} (shown : (s.entries p)[k]? = some e) (level : Nat) (d : Deck) :
    s.Planned (loadStop level p d k e) := by
  refine ⟨rfl, fun _ => ⟨rfl, k, shown, ?_⟩, fun unload => by cases unload⟩
  cases e <;> rfl

theorem State.planned_unload {p : Nat} (slot : p < 164) (level : Nat) (d : Deck) (e : Entry) (guarded : Bool) :
    s.Planned (unloadStop level p d e guarded) := by
  refine ⟨rfl, fun load => ?_, fun _ => ⟨rfl, rfl, slot⟩⟩
  cases load

theorem exitSpur_range : 160 ≤ exitSpur x ∧ exitSpur x < 164 ∧ capacity (exitSpur x) = 3 := by cases x <;> decide

theorem State.planned_exit (d : Deck) (e : Entry) : s.Planned (s.exitUnload x d e) := s.planned_unload (exitSpur_range x).2.1 _ _ _ _

theorem State.slot_of_admitsArrivals {p : Nat} (admits : s.admitsArrivals p = true) : p < 164 := by
  simp only [State.admitsArrivals, Bool.and_eq_true] at admits
  by_contra far
  have lane : isLane p = false := by simp only [isLane, decide_eq_false_iff_not]; omega
  have spur : isSpur p = false := by simp only [isSpur, decide_eq_false_iff_not]; omega
  simp [State.admitsDepartures, lane, spur] at admits

/-- What the stops of a plan come from. -/
theorem State.mem_normalStops {picks : List Pick} {inb : List (Nat × Nat)} {st : Stop} (member : st ∈ s.normalStops x picks inb) :
    (∃ i r d, inb[i]? = some r ∧ st = loadStop 0 (entrySpur x) d i (.card r.1)) ∨
    (∃ r d, r ∈ inb ∧ st = unloadStop (laneLevel r.2) r.2 d (.card r.1) false) ∨
    (∃ k d, k ∈ picks ∧ st = loadStop (laneLevel k.place) k.place d k.position k.entry) ∨
    ∃ d e, st = s.exitUnload x d e := by
  have order2 {l : List (Nat × (Nat × Nat))} {q : Nat × (Nat × Nat)} (h : q ∈ inboundOrder l) : q ∈ l := by
    unfold inboundOrder at h
    split at h
    · split at h
      · simpa [or_comm] using h
      · exact h
    · exact h
  have order3 {l : List (Nat × Pick)} {q : Nat × Pick} (h : q ∈ outboundOrder l) : q ∈ l := by
    unfold outboundOrder at h
    split at h
    · split at h
      · simpa [or_comm] using h
      · exact h
    · exact h
  have numberedAt {α : Type} {l : List α} {q : Nat × α} (h : q ∈ numbered l) : l[q.1]? = some q.2 := by
    obtain ⟨p, hp, rfl⟩ := List.mem_map.1 h
    exact List.mem_zipIdx_iff_getElem?.1 hp
  simp only [State.normalStops, List.mem_append, List.mem_map] at member
  rcases member with (((⟨q, hq, rfl⟩ | ⟨q, hq, rfl⟩) | ⟨q, hq, rfl⟩) | ⟨q, hq, rfl⟩) | ⟨q, hq, rfl⟩
  · exact .inl ⟨q.1, q.2, _, numberedAt hq, rfl⟩
  · exact .inr (.inl ⟨q.2, _, List.mem_iff_getElem?.2 ⟨_, numberedAt (order2 hq)⟩, rfl⟩)
  · exact .inr (.inr (.inl ⟨q.2, _, List.mem_iff_getElem?.2 ⟨_, numberedAt (order3 hq)⟩, rfl⟩))
  · exact .inr (.inr (.inr ⟨_, _, rfl⟩))
  · exact .inr (.inr (.inr ⟨_, _, rfl⟩))

/-- Every inbound card stands in the entry spur and has a lane that admits it (R97). -/
theorem State.fits_of_inboundSet {picks : List Pick} {i : Nat} {r : Nat × Nat}
    (at' : (s.inboundSet x picks (s.inboundCandidates x))[i]? = some r) : s.Fits x i r.1 r.2 := by
  rcases s.inboundSet_cases x picks with none | ⟨n, p, first, one⟩ | ⟨n, p, m, q, first, second, two⟩
  · rw [none] at at'; cases at'
  · rw [one] at at'
    match i with
    | 0 => cases Option.some.inj at'; exact first.2.1
    | i + 1 => cases at'
  · rw [two] at at'
    match i with
    | 0 => cases Option.some.inj at'; exact first.2.1
    | 1 => cases Option.some.inj at'; exact second.2.2.1
    | i + 2 => cases at'

theorem State.planned_planFor {p : Plan} (planned : s.planFor x = some p) : ∀ st ∈ p.stops, s.Planned st := by
  intro st member
  rcases s.planFor_cases x planned with ⟨-, -, rfl⟩ | ⟨d, e, head, -, rfl⟩ | rfl
  · obtain ⟨q, -, rfl⟩ := List.mem_map.1 member
    exact s.planned_exit x q.1 q.2
  · rcases List.mem_pair.1 member with rfl | rfl
    · exact s.planned_load (s.shown_head head) _ _
    · exact s.planned_exit x d e
  · rcases s.mem_normalStops x member with ⟨i, r, d, at', rfl⟩ | ⟨r, d, mem, rfl⟩ | ⟨k, d, mem, rfl⟩ | ⟨d, e, rfl⟩
    · exact s.planned_load (s.fits_of_inboundSet x at').2.1 _ _
    · obtain ⟨i, at'⟩ := List.mem_iff_getElem?.1 mem
      exact s.planned_unload (s.slot_of_admitsArrivals (s.fits_of_inboundSet x at').2.2.2.1) _ _ _ _
    · exact s.planned_load (s.shown_outboundChoice x mem) _ _
    · exact s.planned_exit x d e

/-! ### What a plan reserves fits (R4, R102) -/

/-- The unloads of a list of stops at one place. -/
def unloadsAt (q : Nat) (stops : List Stop) : Nat := stops.countP (fun st => st.action == .unload && st.place == q)

theorem unloadsAt_exits {α : Type} (q : Nat) (l : List α) (d : α → Deck) (e : α → Entry) :
    unloadsAt q (l.map (fun a => s.exitUnload x (d a) (e a))) = if q = exitSpur x then l.length else 0 := by
  have each (a : α) : ((s.exitUnload x (d a) (e a)).action == .unload && (s.exitUnload x (d a) (e a)).place == q) =
      decide (q = exitSpur x) := by
    simp [State.exitUnload, unloadStop, Bool.beq_eq_decide_eq, eq_comm]
  unfold unloadsAt
  rw [List.countP_map]
  by_cases own : q = exitSpur x
  · rw [if_pos own]
    exact List.countP_eq_length.2 fun a _ => (each a).trans (decide_eq_true own)
  · rw [if_neg own]
    refine List.countP_eq_zero.2 fun a _ => ?_
    rw [Function.comp, each a]
    simpa using own

theorem length_filterMap_decks {α : Type} (f : Deck → Option α) :
    ([Deck.front, Deck.rear].filterMap f).length = (if f .front = none then 0 else 1) + (if f .rear = none then 0 else 1) := by
  cases front : f .front <;> cases rear : f .rear <;> simp [front, rear]

/-- Totes that are held on their decks are taken out only where a deck is free. -/
theorem State.length_heldOut (picks : List Pick) : (s.heldOut x picks).length + (s.freeDecks x).length ≤ 2 := by
  rw [State.length_freeDecks, State.heldOut, length_filterMap_decks]
  have either {a c : Prop} [Decidable a] [Decidable c] (h : c → a) : (if a then 0 else 1) + (if c then 1 else 0) ≤ 1 := by
    by_cases hc : c
    · simp [hc, h hc]
    · split <;> simp [hc]
  have sum (a b c d : Nat) (ac : a + c ≤ 1) (bd : b + d ≤ 1) : a + b + (c + d) ≤ 2 := by omega
  exact sum _ _ _ _ (either fun free => by rw [free]) (either fun free => by rw [free])

theorem State.exits_fit : (s.outboundChoice x).length + (s.heldOut x (s.outboundChoice x)).length ≤ s.exitRoom x := by
  obtain ⟨-, short, -⟩ := s.outboundChoice_spec x
  have room : s.most x ≤ s.exitRoom x := Nat.min_le_right _ _
  have decks : s.most x ≤ (s.freeDecks x).length := Nat.min_le_left _ _
  have total := s.length_heldOut x (s.outboundChoice x)
  cases held : s.heldOut x (s.outboundChoice x) with
  | nil => simp only [List.length_nil]; omega
  | cons h hs =>
    have member : (h.1, h.2) ∈ s.heldOut x (s.outboundChoice x) := by rw [held]; exact List.mem_cons_self
    obtain ⟨deck, ⟨n, own, -, m, ahead, late, -⟩, less, k, card, passed⟩ := (s.mem_heldOut x _ h.1 h.2).1 member
    have same : n = k := by
      rw [own, card] at deck
      exact Entry.card.inj (Option.some.inj deck)
    subst same
    obtain ⟨pick, chosen, -⟩ := (passed m ahead).resolve_left (by rw [late]; decide)
    have some' := List.length_pos_of_mem chosen
    rw [held] at total
    omega

theorem countP_inboundOrder (f : Nat × (Nat × Nat) → Bool) (l : List (Nat × (Nat × Nat))) : (inboundOrder l).countP f = l.countP f := by
  unfold inboundOrder
  split
  · split
    · exact (List.Perm.swap _ _ _).countP_eq f
    · rfl
  · rfl

theorem countP_numbered {α : Type} (f : α → Bool) (l : List α) : (numbered l).countP (fun p => f p.2) = l.countP f := by
  have values : (numbered l).map (·.2) = l := by
    rw [numbered, List.map_map]
    exact List.zipIdx_map_fst 0 l
  conv_rhs => rw [← values]
  rw [List.countP_map]
  rfl

/-- The unloads of a NORMAL trip: the inbound cards at their lanes, the others at the exit spur (R99). -/
theorem State.unloadsAt_normalStops (q : Nat) (picks : List Pick) (inb : List (Nat × Nat)) :
    unloadsAt q (s.normalStops x picks inb) = inb.countP (fun r => r.2 == q) +
      (if q = exitSpur x then picks.length + (s.heldOut x picks).length else 0) := by
  have loads {α : Type} (l : List α) (f : α → Stop) (load : ∀ a, (f a).action = .load) : unloadsAt q (l.map f) = 0 := by
    refine List.countP_eq_zero.2 fun st member => ?_
    obtain ⟨a, -, rfl⟩ := List.mem_map.1 member
    simp [load a]
  have inbound : unloadsAt q ((inboundOrder (numbered inb)).map (fun p =>
      unloadStop (laneLevel p.2.2) p.2.2 (deckFor (s.freeDecks x) p.1) (.card p.2.1) false)) = inb.countP (fun r => r.2 == q) := by
    rw [unloadsAt, List.countP_map, countP_inboundOrder]
    exact countP_numbered (fun r : Nat × Nat => r.2 == q) inb
  have outbound : unloadsAt q ((numbered picks).map (fun p => s.exitUnload x (deckFor (s.freeDecks x) p.1) p.2.entry)) =
      if q = exitSpur x then picks.length else 0 := by
    rw [unloadsAt_exits s x q (numbered picks) (fun p => deckFor (s.freeDecks x) p.1) (fun p => p.2.entry)]
    simp [numbered]
  have held := unloadsAt_exits s x q (s.heldOut x picks) (fun p => p.1) (fun p => p.2)
  have appended (a b : List Stop) : unloadsAt q (a ++ b) = unloadsAt q a + unloadsAt q b := List.countP_append
  simp only [State.normalStops, appended, inbound, outbound, held]
  rw [loads _ _ (fun _ => rfl), loads _ _ (fun _ => rfl)]
  split <;> omega

/-- A card of the aisle has its inbound lane among the lanes. -/
theorem State.lane_of_fits (r : Roster s) {i n p : Nat} (fits : s.Fits x i n p) : p < 160 := by
  obtain ⟨-, -, -, -, c, hc, -, -, rfl⟩ := fits
  exact inLaneOf_lt (r.levels n c hc).2 x

/-- A plan's reservations fit in every place (R4, R93, R94, R97, R98). -/
theorem State.plan_fits (r : Roster s) {p : Plan} (planned : s.planFor x = some p) {q : Nat} (within : s.Within q) :
    (s.entries q).length + (s.place q).res + unloadsAt q p.stops ≤ capacity q := by
  obtain ⟨low, -, three⟩ := exitSpur_range x
  unfold State.Within at within
  have room {k : Nat} (fits : k ≤ s.exitRoom x) (some' : k ≠ 0) :
      (s.entries (exitSpur x)).length + (s.place (exitSpur x)).res + k ≤ 3 := by
    unfold State.exitRoom at fits
    split at fits <;> omega
  have exits {k : Nat} (fits : k ≤ s.exitRoom x) :
      (s.entries q).length + (s.place q).res + (if q = exitSpur x then k else 0) ≤ capacity q := by
    by_cases own : q = exitSpur x
    · subst own
      rw [if_pos rfl]
      by_cases none : k = 0
      · rw [none]; exact within
      · rw [three]; exact room fits none
    · rw [if_neg own]; exact within
  rcases s.planFor_cases x planned with ⟨-, fits, rfl⟩ | ⟨d, e, -, some', rfl⟩ | rfl
  · have stops := unloadsAt_exits s x q (s.carriedOrder x (s.carried x)) (fun p => p.1) (fun p => p.2)
    rw [s.length_carriedOrder x] at stops
    rw [State.planOf_stops, stops]
    exact exits fits
  · have stops : unloadsAt q [loadStop 0 (entrySpur x) d 0 e, s.exitUnload x d e] = if q = exitSpur x then 1 else 0 := by
      have one := unloadsAt_exits s x q [()] (fun _ => d) (fun _ => e)
      exact one
    rw [State.planOf_stops, stops]
    exact exits (Nat.one_le_iff_ne_zero.2 some')
  · rw [State.planOf_stops, s.unloadsAt_normalStops x]
    have out := exits (s.exits_fit x)
    by_cases own : q = exitSpur x
    · have none : (s.inboundSet x (s.outboundChoice x) (s.inboundCandidates x)).countP (fun r => r.2 == q) = 0 := by
        refine List.countP_eq_zero.2 fun t member => ?_
        obtain ⟨i, at'⟩ := List.mem_iff_getElem?.1 member
        have lane := s.lane_of_fits x r (s.fits_of_inboundSet x at')
        simp only [beq_iff_eq]
        omega
      rw [none]
      omega
    · rw [if_neg own]
      rcases s.inboundSet_cases x (s.outboundChoice x) with none | ⟨n, p, first, one⟩ | ⟨n, p, m, p', first, second, two⟩
      · rw [none]; exact within
      · rw [one]
        obtain ⟨-, -, hasRoom⟩ := first
        simp only [State.hasRoom, decide_eq_true_eq] at hasRoom
        by_cases here : p = q
        · subst here; simp; omega
        · simp [here]; omega
      · rw [two]
        obtain ⟨-, -, hasRoom⟩ := first
        obtain ⟨-, -, -, hasRoom'⟩ := second
        simp only [State.hasRoom, decide_eq_true_eq] at hasRoom
        by_cases here : p = q
        · subst here
          by_cases also : p' = p
          · subst also; simp at hasRoom' ⊢; omega
          · simp [also]; omega
        · by_cases there : p' = q
          · subst there
            simp [here]
            split at hasRoom' <;> omega
          · simp [here, there]; omega

end

/-! ### The try (R91, R102) -/

section
variable (s : State) (x : Side)

/-- The reservations of a list of stops, place by place (R102). -/
theorem State.reserved_stops (stops : List Stop) (planned : ∀ st ∈ stops, (st.action = .load → st.reserved = false) ∧
    (st.action = .unload → st.reserved = true ∧ st.place < 164)) (q : Nat) :
    let u := stops.foldl (fun t st => if st.reserved then t.reserve st.place else t) s
    u.entries q = s.entries q ∧ (u.place q).res = (s.place q).res + unloadsAt q stops := by
  induction stops generalizing s with
  | nil => exact ⟨rfl, rfl⟩
  | cons st stops ih =>
    obtain ⟨⟨loads, unloads⟩, rest⟩ := List.forall_mem_cons.1 planned
    have count : unloadsAt q (st :: stops) = unloadsAt q stops + if st.action == .unload && st.place == q then 1 else 0 :=
      List.countP_cons
    rcases st.load_or_unload with load | unload
    · rw [List.foldl_cons, if_neg (by simp [loads load])]
      obtain ⟨entries, res⟩ := ih s rest
      exact ⟨entries, by rw [res, count]; simp [load]⟩
    · obtain ⟨reserved, slot⟩ := unloads unload
      rw [List.foldl_cons, if_pos reserved]
      obtain ⟨entries, res⟩ := ih (s.reserve st.place) rest
      refine ⟨entries.trans (s.entries_setPlace _ (by rfl) q), ?_⟩
      rw [res, count]
      by_cases own : st.place = q
      · subst own
        rw [State.place_reserve_self _ (by omega)]
        simp [unload]
        omega
      · rw [State.place_reserve_ne _ own]
        simp [own]

theorem Plan.reopened {p : Plan} (opened : ∀ st ∈ p.stops, st.outcome = .stillOpen) :
    p.mapStops (fun st => { st with outcome := .stillOpen }) = p := by
  have stops : p.stops.map (fun st => { st with outcome := .stillOpen }) = p.stops := by
    conv_rhs => rw [← List.map_id p.stops]
    refine List.map_congr_left fun st member => ?_
    rw [← opened st member]
    rfl
  simp only [Plan.mapStops, stops]

theorem Lift.plannable_iff (l : Lift) : l.plannable = true ↔
    (l.state = .idle ∨ l.state = .parking ∨ l.state = .parked) ∧ l.pending = none ∧ l.trip = none := by
  simp [Lift.plannable, and_assoc, or_assoc]

/-- A plan handed to its lift (R112, R122, R123). -/
theorem State.handPlan_spec (p : Plan) (opened : ∀ st ∈ p.stops, st.outcome = .stillOpen) :
    let t := s.handPlan x p
    s.LiftOnly t ∧ t.lift (otherSide x) = s.lift (otherSide x) ∧
      ((s.lift x).state = .idle → (t.lift x).state = .onTrip ∧ (t.lift x).pending = none ∧ (t.lift x).trip =
        some { number := nextTrip (s.lift x).counter, plan := p, phase := .moving, left := 10 * p.deadline, expired := false,
               jammed := none }) ∧
      ((s.lift x).state = .parked → (t.lift x).state = .waking ∧ (t.lift x).pending = some p) ∧
      ((s.lift x).state = .parking → (t.lift x).state = .parking ∧ (t.lift x).pending = some p) := by
  intro t
  have planned : s.LiftOnly (s.updateLift x (fun l => { l with pending := some p })) := s.updateLift_liftOnly x _
  cases state : (s.lift x).state with
  | idle =>
    have does : t = s.sendTrip x p := by simp only [t, State.handPlan, state]
    rw [does]
    refine ⟨s.sendTrip_liftOnly x p, ?_, fun _ => ?_, by simp, by simp⟩
    · rw [State.sendTrip_eq, State.lift_queueLift_other, State.lift_updateLift_other]
    · rw [State.sendTrip_eq]
      simp [Lift.onTrip, Plan.reopened opened]
  | parked =>
    have does : t = (s.updateLift x (fun l => { l with pending := some p })).wakeLift x := by simp only [t, State.handPlan, state]
    rw [does]
    obtain ⟨waking, -, -, -, pending, -, other⟩ := (s.updateLift x (fun l => { l with pending := some p })).wakeLift_spec x
    refine ⟨planned.trans (State.wakeLift_liftOnly _ x), other.trans (State.lift_updateLift_other _ _ _), by simp,
      fun _ => ⟨waking, ?_⟩, by simp⟩
    rw [pending, State.lift_updateLift_self]
  | _ =>
    have does : t = s.updateLift x (fun l => { l with pending := some p }) := by simp only [t, State.handPlan, state]
    rw [does]
    refine ⟨planned, State.lift_updateLift_other _ _ _, by simp, by simp, ?_⟩
    simp [state]

/-- What a plan alters of the cards: the card it turns back (R94). -/
theorem State.planReturns_spec (p : Plan) : (∃ contexts, s.planReturns x p = { s with contexts := contexts }) ∧
    ∀ n c, s.ctx n = some c → (s.planReturns x p).ctx n =
      if p.kind = .turnBack ∧ (p.stops.head?.map (·.expected)) = some (.card n) then
        some { c with phase := .returning, failure := some (.levelClosed, byteOf (inLaneOf c.level x)) }
      else some c := by
  unfold State.planReturns
  split
  · next st more kind stops =>
    rw [kind, stops]
    split
    · next foreign => exact ⟨⟨s.contexts, rfl⟩, fun n c hc => by simpa [foreign] using hc⟩
    · next m card =>
      refine ⟨?_, fun n c hc => ?_⟩
      · unfold State.updateContext
        split
        · exact ⟨s.contexts, rfl⟩
        · exact ⟨_, rfl⟩
      · rw [State.ctx_updateContext]
        by_cases own : n = m
        · subst own
          rw [if_pos rfl, if_pos ⟨rfl, by simp [card]⟩, hc]
          rfl
        · rw [if_neg own, hc, if_neg]
          rintro ⟨-, same⟩
          simp only [List.head?_cons, Option.map_some, card, Option.some.injEq, Entry.card.injEq] at same
          exact own same.symm
  · next other =>
    refine ⟨⟨s.contexts, rfl⟩, fun n c hc => ?_⟩
    rw [hc, if_neg]
    rintro ⟨kind, head⟩
    cases stops : p.stops with
    | nil => rw [stops] at head; cases head
    | cons st more => exact other st more kind stops

end

/-- Settles O54, from the stops the planner makes, what they reserve, and the hand-over of the plan. -/
theorem tripDeadline : Obligations.TripDeadline := by
  refine ⟨fun s k start stops => ⟨rfl, rfl, rfl, ?_, s.planOf_deadline k start stops⟩, fun s a b path => ⟨?_, rfl⟩,
    fun s x p run profile plannable planned => ?_⟩
  · have transfer : s.transferTime = fun st => match st.action with | .load => s.tLoad | .unload => s.tUnload := by
      funext st
      unfold State.transferTime
      cases st.action <;> rfl
    have estimate : (s.planOf k start stops).estimate =
        s.pathTime (start :: stops.map (·.level) ++ [0]) + (stops.map s.transferTime).sum := rfl
    exact estimate.trans (congrArg (fun f => s.pathTime (start :: stops.map (·.level) ++ [0]) + (stops.map f).sum) transfer)
  · rw [← levelDist_eq]; rfl
  · have stops := s.planned_planFor x planned
    let v := (s.planReturns x p).reservePlan p
    let t := v.handPlan x p
    obtain ⟨⟨contexts, only⟩, ctx⟩ := s.planReturns_spec x p
    have places (q : Nat) : (s.planReturns x p).place q = s.place q := by rw [only]; rfl
    have reserved (q : Nat) := State.reserved_stops (s.planReturns x p) p.stops
      (fun st member => ⟨fun load => ((stops st member).2.1 load).1, fun unload =>
        ⟨((stops st member).2.2 unload).1, ((stops st member).2.2 unload).2.2⟩⟩) q
    obtain ⟨handed, other, idle, parked, parking⟩ := v.handPlan_spec x p fun st member => (stops st member).1
    have lift (y : Side) : v.lift y = s.lift y := State.lift_congr (by simp [v, only]) y
    rw [lift] at other idle parked parking
    have tPlaces : t.places = v.places := by rw [show t = _ from handed]
    have entries (q : Nat) : t.entries q = s.entries q := by
      rw [State.entries, State.place_eq_of_places tPlaces]
      exact (reserved q).1.trans (congrArg Place.entries (places q))
    have res (q : Nat) : (t.place q).res = (s.place q).res + unloadsAt q p.stops := by
      rw [State.place_eq_of_places tPlaces]
      exact (reserved q).2.trans (by rw [places])
    refine ⟨t, ?_, fun st member => ⟨(stops st member).1, (stops st member).2.1, fun unload => ?_⟩, fun q => ⟨entries q, ?_⟩,
      fun r q hq within => ?_, idle, parked, parking, other, fun n c hc => ?_⟩
    · simp only [State.tryPlan, planned]
      exact if_pos ⟨run, profile, plannable⟩
    · obtain ⟨kept, unclaimed, -⟩ := (stops st member).2.2 unload
      exact ⟨kept, unclaimed⟩
    · rw [res, unloadsAt, List.countP_eq_length_filter]
    · rw [State.Within, entries, res, ← Nat.add_assoc]
      exact s.plan_fits x r planned within
    · have same : t.contexts = (s.planReturns x p).contexts := by
        rw [show t = _ from handed]
        simp [v]
      exact (State.ctx_congr _ same n).trans (ctx n c hc)

end Sys2Proof.Machine
end

section
/-! PROOF. The trip planner's three rules (R91–R99; the statement PlannerRules). -/

namespace Sys2Proof.Machine

section
variable (s : State) (x : Side)

theorem State.exitRoom_eq : s.exitRoom x =
    if s.admitsArrivals (exitSpur x) = true then 3 - (s.entries (exitSpur x)).length - (s.place (exitSpur x)).res else 0 := rfl

/-! ### The try and the first two rules (R91, R93, R94) -/

theorem State.tryPlan_eq_none : s.tryPlan x = none ↔ s.planFor x = none ∨ ¬(s.mode = .run ∧ s.hasProfile = true ∧
    ((s.lift x).state = .idle ∨ (s.lift x).state = .parking ∨ (s.lift x).state = .parked) ∧ (s.lift x).pending = none ∧
      (s.lift x).trip = none) := by
  rw [← Lift.plannable_iff]
  unfold State.tryPlan
  by_cases ready : s.mode = .run ∧ s.hasProfile = true ∧ (s.lift x).plannable = true
  · rw [if_pos ready]
    cases s.planFor x <;> simp [ready]
  · rw [if_neg ready]
    simp [ready]

theorem State.planFor_carried (some' : s.carried x ≠ []) : s.planFor x = s.carryBackPlan x :=
  if_pos (by simpa using some')

theorem State.planFor_turnBack (none : s.carried x = []) {e : Entry} (back : s.turnBackHead x = some e) :
    s.planFor x = s.turnBackPlan x e := by
  rw [State.planFor, if_neg (by simp [none]), back]

theorem State.planFor_normal (none : s.carried x = []) (noBack : s.turnBackHead x = .none) : s.planFor x = s.normalPlan x := by
  rw [State.planFor, if_neg (by simp [none]), noBack]

/-- Two carried-back totes stand on the two decks, the front one first. -/
theorem State.carried_decks {d₁ d₂ : Deck} {e₁ e₂ : Entry} (two : s.carried x = [(d₁, e₁), (d₂, e₂)]) : d₁ = .front ∧ d₂ = .rear := by
  unfold State.carried at two
  simp only [List.filterMap_cons, List.filterMap_nil] at two
  cases front : s.deck x .front with
  | none =>
    cases rear : s.deck x .rear with
    | none => simp [front, rear] at two
    | some r => cases held : s.orderHeld x .rear <;> simp [front, rear, held] at two
  | some f =>
    cases rear : s.deck x .rear with
    | none => cases held : s.orderHeld x .front <;> simp [front, rear, held] at two
    | some r =>
      cases held : s.orderHeld x .front <;> cases held' : s.orderHeld x .rear <;> simp [front, rear, held, held'] at two
      exact ⟨two.1.1.symm, two.2.1.symm⟩

/-- The order of the unloads: turned round where the rear card stands before the front one in the bound list (R93). -/
theorem State.carriedOrder_swapped {m n : Nat} (two : s.carried x = [(.front, .card m), (.rear, .card n)])
    (first : s.sequenced m = true) (second : s.sequenced n = true) (ahead : n ∈ s.aheadInBound x m) :
    s.carriedOrder x (s.carried x) = (s.carried x).reverse := by
  have before : s.boundBefore x n m = true := by simpa [State.boundBefore] using ahead
  simp only [two, State.carriedOrder, first, second, before, Bool.and_self, if_true]
  rfl

theorem State.carriedOrder_straight (straight : ¬∃ m n, s.carried x = [(.front, .card m), (.rear, .card n)] ∧
    s.sequenced m = true ∧ s.sequenced n = true ∧ n ∈ s.aheadInBound x m) :
    s.carriedOrder x (s.carried x) = s.carried x := by
  by_cases cards : ∃ d₁ m d₂ n, s.carried x = [(d₁, .card m), (d₂, .card n)]
  · obtain ⟨d₁, m, d₂, n, two⟩ := cards
    obtain ⟨rfl, rfl⟩ := s.carried_decks x two
    have stays : ¬(s.sequenced m && s.sequenced n && s.boundBefore x n m) = true := fun swapped =>
      straight ⟨m, n, two, by simpa [State.boundBefore, and_assoc] using swapped⟩
    rw [two]
    exact if_neg stays
  · unfold State.carriedOrder
    split
    · next d₁ m d₂ n two => exact absurd ⟨d₁, m, d₂, n, two⟩ cards
    · rfl

/-- The first rule's plan: every carried-back tote goes to the exit spur, or none does (R93). -/
theorem State.carryBackPlan_roomless (full : s.exitRoom x < (s.carried x).length) : s.carryBackPlan x = none :=
  if_neg (by omega)

theorem State.carryBackPlan_fits (fits : (s.carried x).length ≤ s.exitRoom x) : s.carryBackPlan x =
    some (s.planOf .carryBack 0 ((s.carriedOrder x (s.carried x)).map (fun p => s.exitUnload x p.1 p.2))) := if_pos fits

/-- The first free deck, front first. -/
theorem State.head_freeDecks {d : Deck} (free : s.deck x d = none) (first : d = .rear → ¬s.deck x .front = none) :
    ∃ more, s.freeDecks x = d :: more := by
  rw [State.freeDecks_eq]
  cases d with
  | front => exact ⟨_, by rw [if_pos free]; rfl⟩
  | rear => exact ⟨[], by rw [if_neg (first rfl), if_pos free]; rfl⟩

theorem State.freeDecks_nil (full : ∀ d, ¬s.deck x d = none) : s.freeDecks x = [] := by
  rw [State.freeDecks_eq, if_neg (full .front), if_neg (full .rear)]
  rfl

theorem State.turnBackPlan_fits {d : Deck} (e : Entry) (room : s.exitRoom x ≠ 0) (free : s.deck x d = none)
    (first : d = .rear → ¬s.deck x .front = none) :
    s.turnBackPlan x e = some (s.planOf .turnBack 0 [loadStop 0 (entrySpur x) d 0 e, s.exitUnload x d e]) := by
  obtain ⟨more, decks⟩ := s.head_freeDecks x free first
  rw [State.turnBackPlan, decks]
  exact if_neg room

theorem State.turnBackPlan_roomless (e : Entry) (full : s.exitRoom x = 0 ∨ ∀ d, ¬s.deck x d = none) : s.turnBackPlan x e = none := by
  rcases full with full | full
  · unfold State.turnBackPlan
    split
    · rfl
    · exact if_pos full
  · rw [State.turnBackPlan, s.freeDecks_nil x full]

/-! ### The first bound card and the one after it (R95) -/

theorem State.n1_none (none : ∀ n ∈ s.release.bound.get x, ¬(s.inPhase n .granted = true ∨ s.inPhase n .inLane = true)) :
    s.n1 x = .none := by
  rw [State.n1, List.find?_eq_none]
  intro n member
  simpa [not_or] using none n member

section
variable {pre post : List Nat} {n : Nat} (bound : s.release.bound.get x = pre ++ n :: post)
  (waiting : ∀ m ∈ pre, ¬(s.inPhase m .granted = true ∨ s.inPhase m .inLane = true))
  (ready : s.inPhase n .granted = true ∨ s.inPhase n .inLane = true)
include bound waiting ready

theorem State.n1_eq : s.n1 x = some n := by
  rw [State.n1, bound, List.find?_append, List.find?_eq_none.2 fun m member => by simpa [not_or] using waiting m member]
  simp only [Option.none_or, List.find?_cons]
  rw [show (s.inPhase n .granted || s.inPhase n .inLane) = true by simpa using ready]

theorem State.nextBound_eq : s.nextBound x n = post.head? := by
  have past : ∀ m ∈ pre, (m != n) = true := fun m member => by
    refine bne_iff_ne.2 fun same => ?_
    subst same
    exact waiting m member ready
  rw [State.nextBound, bound, List.dropWhile_append_of_pos past]
  simp

end

/-! ### The sequenced picks, case by case (R95, R96) -/

theorem State.secondPick_head {n p m q : Nat} (next : s.nextBound x n = some m) (lane : s.laneOfCard m = some q)
    (offered : s.offeredHead x q = some (.card m)) : s.secondPick x n p = [⟨q, 0, .card m⟩] := by
  simp only [State.secondPick, next, lane, offered, if_true]

theorem State.secondPick_behind {n p m : Nat} (next : s.nextBound x n = some m) (lane : s.laneOfCard m = some p)
    (not : ¬s.offeredHead x p = some (.card m)) (behind : (s.entries p)[1]? = some (.card m))
    (free : s.claimed x p 1 (.card m) = false) : s.secondPick x n p = [⟨p, 1, .card m⟩] := by
  simp only [State.secondPick, next, lane, not, behind, free, and_self, if_true, if_false]

theorem State.secondPick_nil {n p : Nat} (none : ∀ m q, s.nextBound x n = some m → s.laneOfCard m = some q →
    ¬s.offeredHead x q = some (.card m) ∧
      (q = p → ¬((s.entries p)[1]? = some (.card m) ∧ s.claimed x p 1 (.card m) = false))) : s.secondPick x n p = [] := by
  unfold State.secondPick
  split
  · rfl
  · next m next =>
    split
    · rfl
    · next q lane =>
      obtain ⟨head, behind⟩ := none m q next lane
      rw [if_neg head, if_neg fun own => behind own.1 own.2]

/-- A card stands in a lane (R95). -/
def State.Stands (n p : Nat) : Prop := ∃ c, s.ctx n = some c ∧ c.phase = .inLane ∧ c.place = some p

/-- A lane offers an entry at its head (R95). -/
def State.Offered (p : Nat) (e : Entry) : Prop :=
  s.admitsDepartures p = true ∧ s.head p = some e ∧ s.claimed x p 0 e = false

/-- An entry stands unclaimed second in a lane (R96). -/
def State.BehindHead (p : Nat) (e : Entry) : Prop := (s.entries p)[1]? = some e ∧ s.claimed x p 1 e = false

section
variable {n p room : Nat} (first : s.n1 x = some n)
include first

/-- The first bound card stands at the head of its lane: it is picked, and the next bound card with it where that one is
offered, or stands right behind (R95 step 1, R96 step 1). -/
theorem State.sequencedPicks_standing (stands : s.Stands n p) (offered : s.Offered x p (.card n)) :
    (∀ m q, s.nextBound x n = some m → s.Stands m q → s.Offered x q (.card m) →
      s.sequencedPicks x room = ([⟨p, 0, .card n⟩, ⟨q, 0, .card m⟩] : List Pick).take room) ∧
    (∀ m, s.nextBound x n = some m → s.Stands m p → ¬s.Offered x p (.card m) → s.BehindHead x p (.card m) →
      s.sequencedPicks x room = ([⟨p, 0, .card n⟩, ⟨p, 1, .card m⟩] : List Pick).take room) ∧
    ((∀ m q, s.nextBound x n = some m → s.Stands m q → ¬s.Offered x q (.card m) ∧ (q = p → ¬s.BehindHead x p (.card m))) →
      s.sequencedPicks x room = ([⟨p, 0, .card n⟩] : List Pick).take room) := by
  rw [s.sequencedPicks_head x first ((s.laneOfCard_iff n p).2 stands) ((s.offeredHead_iff x p _).2 offered)]
  refine ⟨fun m q next lane own => ?_, fun m next lane not behind => ?_, fun none => ?_⟩
  · rw [s.secondPick_head x next ((s.laneOfCard_iff m q).2 lane) ((s.offeredHead_iff x q _).2 own)]
  · rw [s.secondPick_behind x next ((s.laneOfCard_iff m p).2 lane) (mt (s.offeredHead_iff x p _).1 not) behind.1 behind.2]
  · rw [s.secondPick_nil x fun m q next lane => ?_]
    obtain ⟨head, behind⟩ := none m q next ((s.laneOfCard_iff m q).1 lane)
    exact ⟨mt (s.offeredHead_iff x q _).1 head, behind⟩

/-- The first bound card stands behind an unsequenced head, which is picked before it (R95 step 2). -/
theorem State.sequencedPicks_led {h : Entry} (stands : s.Stands n p) (offered : s.Offered x p h) (other : h ≠ .card n)
    (behind : (s.entries p)[1]? = some (.card n)) (unsequenced : s.seqEntry h = false) :
    s.sequencedPicks x room = ([⟨p, 0, h⟩, ⟨p, 1, .card n⟩] : List Pick).take room :=
  s.sequencedPicks_behind x first ((s.laneOfCard_iff n p).2 stands) ((s.offeredHead_iff x p h).2 offered) other behind unsequenced

theorem State.sequencedPicks_out_of_reach (none : ∀ p h, s.Stands n p → s.Offered x p h →
    h ≠ .card n ∧ ¬((s.entries p)[1]? = some (.card n) ∧ s.seqEntry h = false)) : s.sequencedPicks x room = [] := by
  refine s.sequencedPicks_unoffered x room fun m p h own lane offered => ?_
  cases Option.some.inj (first.symm.trans own)
  exact none p h ((s.laneOfCard_iff n p).1 lane) ((s.offeredHead_iff x p h).1 offered)

end

theorem State.sequencedPicks_unbound {room : Nat} (none : s.n1 x = none) : s.sequencedPicks x room = [] :=
  s.sequencedPicks_unoffered x room fun n p h first => by rw [none] at first; cases first

theorem State.age_eq {n : Nat} {c : Context} (hc : s.ctx n = some c) : s.age n = (s.board.clock - c.loaded).toNat := by
  rw [State.age, hc]
  rfl

/-! ### The inbound set and the plan (R98, R99) -/

theorem State.inboundSet_free {picks : List Pick} (none : picks = []) (inb : List (Nat × Nat)) : s.inboundSet x picks inb = inb :=
  if_pos (by simp [none])

theorem State.inboundSet_detour {picks : List Pick} (some' : picks ≠ []) (inb : List (Nat × Nat)) :
    (s.detourPasses x picks inb = true → s.inboundSet x picks inb = inb) ∧
    (¬s.detourPasses x picks inb = true → s.detourPasses x picks (inb.take 1) = true → s.inboundSet x picks inb = inb.take 1) ∧
    (¬s.detourPasses x picks inb = true → ¬s.detourPasses x picks (inb.take 1) = true → s.inboundSet x picks inb = []) := by
  have chosen : picks.isEmpty = false := by simpa using some'
  unfold State.inboundSet
  rw [chosen, Bool.false_or]
  refine ⟨fun all => if_pos all, fun all one => ?_, fun all one => ?_⟩
  · rw [if_neg all, if_pos one]
  · rw [if_neg all, if_neg one]

theorem State.normalPlan_none (noPicks : s.outboundChoice x = [])
    (noInbound : s.inboundSet x (s.outboundChoice x) (s.inboundCandidates x) = []) : s.normalPlan x = none :=
  if_pos (by rw [Bool.and_eq_true, List.isEmpty_iff, List.isEmpty_iff]; exact ⟨noPicks, noInbound⟩)

theorem State.normalPlan_some
    (some' : s.outboundChoice x ≠ [] ∨ s.inboundSet x (s.outboundChoice x) (s.inboundCandidates x) ≠ []) :
    s.normalPlan x = some (s.planOf .normal 0
      (s.normalStops x (s.outboundChoice x) (s.inboundSet x (s.outboundChoice x) (s.inboundCandidates x)))) := by
  refine if_neg ?_
  rw [Bool.and_eq_true, List.isEmpty_iff, List.isEmpty_iff]
  rintro ⟨noPicks, noInbound⟩
  rcases some' with h | h
  · exact h noPicks
  · exact h noInbound

/-! ### The stops of a normal trip (R99) -/

/-- The stops of the inbound totes, the first of them on deck `d` (R99 groups 1 and 2). -/
def inboundStops (x : Side) (d : Deck) : List (Nat × Nat) → List Stop
  | [] => []
  | [(n, p)] => [loadStop 0 (entrySpur x) d 0 (.card n), unloadStop (laneLevel p) p d (.card n) false]
  | (n, p) :: (m, q) :: _ =>
    let one := unloadStop (laneLevel p) p d (.card n) false
    let two := unloadStop (laneLevel q) q .rear (.card m) false
    [loadStop 0 (entrySpur x) d 0 (.card n), loadStop 0 (entrySpur x) .rear 1 (.card m)] ++
      (if laneLevel q < laneLevel p then [two, one] else [one, two])

/-- The stops of the outbound totes, the first of them on deck `d` (R99 groups 3 and 4). -/
def State.outboundStops (d : Deck) : List Pick → List Stop
  | [] => []
  | [k] => [loadStop (laneLevel k.place) k.place d k.position k.entry, s.exitUnload x d k.entry]
  | k :: j :: _ =>
    let one := loadStop (laneLevel k.place) k.place d k.position k.entry
    let two := loadStop (laneLevel j.place) j.place .rear j.position j.entry
    (if laneLevel k.place < laneLevel j.place then [two, one] else [one, two]) ++
      [s.exitUnload x d k.entry, s.exitUnload x .rear j.entry]

section
variable {free : List Deck} {d : Deck}

/-- Groups 1 and 2 of R99 as the planner numbers them. -/
theorem inboundStops_eq {inb : List (Nat × Nat)} (deck : inb ≠ [] → deckFor free 0 = d) (short : inb.length ≤ 2) :
    (numbered inb).map (fun p => loadStop 0 (entrySpur x) (deckFor free p.1) p.1 (.card p.2.1)) ++
      (inboundOrder (numbered inb)).map (fun p => unloadStop (laneLevel p.2.2) p.2.2 (deckFor free p.1) (.card p.2.1) false) =
    inboundStops x d inb := by
  match inb with
  | [] => rfl
  | [(n, p)] => rw [← deck (by simp)]; rfl
  | [(n, p), (m, q)] =>
    rw [← deck (by simp)]
    by_cases lower : laneLevel q < laneLevel p <;> simp [numbered, inboundOrder, inboundStops, lower, deckFor]
  | _ :: _ :: _ :: _ => simp at short

theorem State.outboundStops_eq {picks : List Pick} (deck : picks ≠ [] → deckFor free 0 = d) (short : picks.length ≤ 2) :
    (outboundOrder (numbered picks)).map (fun p =>
        loadStop (laneLevel p.2.place) p.2.place (deckFor free p.1) p.2.position p.2.entry) ++
      (numbered picks).map (fun p => s.exitUnload x (deckFor free p.1) p.2.entry) = s.outboundStops x d picks := by
  match picks with
  | [] => rfl
  | [k] => rw [← deck (by simp)]; rfl
  | [k, j] =>
    rw [← deck (by simp)]
    by_cases lower : laneLevel k.place < laneLevel j.place <;>
      simp [numbered, outboundOrder, State.outboundStops, lower, deckFor]
  | _ :: _ :: _ :: _ => simp at short

end

theorem State.normalStops_eq {d : Deck} {picks : List Pick} {inb : List (Nat × Nat)}
    (deck : picks ≠ [] ∨ inb ≠ [] → deckFor (s.freeDecks x) 0 = d) (few : picks.length ≤ 2) (few' : inb.length ≤ 2) :
    s.normalStops x picks inb =
      inboundStops x d inb ++ s.outboundStops x d picks ++ (s.heldOut x picks).map (fun p => s.exitUnload x p.1 p.2) := by
  rw [← inboundStops_eq x (fun h => deck (.inr h)) few', ← s.outboundStops_eq x (fun h => deck (.inl h)) few]
  simp only [State.normalStops, List.append_assoc]

theorem State.outboundChoice_le_two : (s.outboundChoice x).length ≤ 2 := by
  obtain ⟨-, short, -⟩ := s.outboundChoice_spec x
  have decks : s.most x ≤ (s.freeDecks x).length := Nat.min_le_left _ _
  have two : (s.freeDecks x).length ≤ 2 := List.length_filter_le _ [Deck.front, Deck.rear]
  omega

theorem State.inboundCandidates_le_two : (s.inboundCandidates x).length ≤ 2 := by
  rcases s.inboundCandidates_cases x with eq | ⟨n, p, -, eq⟩ | ⟨n, p, m, q, -, -, eq⟩ <;> rw [eq] <;> simp

/-- What is chosen is chosen for a free deck, the front one where that is free. -/
theorem State.deckFor_first {d : Deck} (first : if d = .front then s.deck x .front = none else ¬s.deck x .front = none)
    (some' : s.outboundChoice x ≠ [] ∨ s.inboundCandidates x ≠ []) : deckFor (s.freeDecks x) 0 = d := by
  cases d with
  | front =>
    obtain ⟨more, decks⟩ := s.head_freeDecks x (d := .front) first (by simp)
    rw [decks]
    rfl
  | rear =>
    have taken : ¬s.deck x .front = none := first
    have free : s.deck x .rear = none := by
      refine Classical.byContradiction fun full => ?_
      have none : s.freeDecks x = [] := s.freeDecks_nil x fun d => by cases d with | front => exact taken | rear => exact full
      rcases some' with picks | inbound
      · obtain ⟨-, short, -⟩ := s.outboundChoice_spec x
        have decks : s.most x ≤ (s.freeDecks x).length := Nat.min_le_left _ _
        rw [none, List.length_nil] at decks
        exact picks (List.eq_nil_of_length_eq_zero (by omega))
      · refine inbound (s.inboundCandidates_none x fun n p own => ?_)
        obtain ⟨⟨d, deck⟩, -⟩ := own
        cases d with
        | front => exact taken deck
        | rear => exact full deck
    obtain ⟨more, decks⟩ := s.head_freeDecks x free fun _ => taken
    rw [decks]
    rfl

/-- The lists of inbound totes the planner compares are starts of the candidates. -/
theorem State.start_of_candidates (picks : List Pick) {i : List (Nat × Nat)}
    (one : i ∈ [s.inboundSet x picks (s.inboundCandidates x), s.inboundCandidates x, (s.inboundCandidates x).take 1, []]) :
    ∃ k, i = (s.inboundCandidates x).take k := by
  simp only [List.mem_cons, List.not_mem_nil, or_false] at one
  rcases one with rfl | rfl | rfl | rfl
  · exact s.inboundSet_take x picks _
  · exact ⟨_, List.take_length.symm⟩
  · exact ⟨1, rfl⟩
  · exact ⟨0, rfl⟩

theorem State.normalStops_start {d : Deck} (first : if d = .front then s.deck x .front = none else ¬s.deck x .front = none) {i : List (Nat × Nat)}
    (start : ∃ k, i = (s.inboundCandidates x).take k) : s.normalStops x (s.outboundChoice x) i =
      inboundStops x d i ++ s.outboundStops x d (s.outboundChoice x) ++
        (s.heldOut x (s.outboundChoice x)).map (fun p => s.exitUnload x p.1 p.2) := by
  obtain ⟨k, rfl⟩ := start
  refine s.normalStops_eq x (fun some' => s.deckFor_first x first ?_) (s.outboundChoice_le_two x) ?_
  · exact some'.imp_right fun h none => h (by rw [none, List.take_nil])
  · have := s.inboundCandidates_le_two x
    rw [List.length_take]
    omega

/-! ### The parts of the statement -/

theorem State.firstRule (some' : s.carried x ≠ []) :
    (s.exitRoom x < (s.carried x).length → s.planFor x = none) ∧
    ((s.carried x).length ≤ s.exitRoom x →
      ((∃ m n, s.carried x = [(.front, .card m), (.rear, .card n)] ∧ s.sequenced m = true ∧ s.sequenced n = true ∧
          n ∈ s.aheadInBound x m) →
        s.planFor x = some (s.planOf .carryBack 0 ((s.carried x).reverse.map (fun p => s.exitUnload x p.1 p.2)))) ∧
      (¬(∃ m n, s.carried x = [(.front, .card m), (.rear, .card n)] ∧ s.sequenced m = true ∧ s.sequenced n = true ∧
          n ∈ s.aheadInBound x m) →
        s.planFor x = some (s.planOf .carryBack 0 ((s.carried x).map (fun p => s.exitUnload x p.1 p.2))))) := by
  rw [s.planFor_carried x some']
  refine ⟨s.carryBackPlan_roomless x, fun fits => ?_⟩
  rw [s.carryBackPlan_fits x fits]
  refine ⟨fun ⟨m, n, two, first, second, ahead⟩ => ?_, fun straight => ?_⟩
  · rw [s.carriedOrder_swapped x two first second ahead]
  · rw [s.carriedOrder_straight x straight]

/-- The head of the entry spur is to be turned back (R94). -/
def State.TurnsBack (e : Entry) : Prop := s.admitsDepartures (entrySpur x) = true ∧ s.head (entrySpur x) = some e ∧
  (e = .foreign ∨ ∃ n c, e = .card n ∧ s.ctx n = some c ∧ c.kind = .store ∧ c.phase = .inSpur ∧
    s.admitsArrivals (inLaneOf c.level x) = false)

theorem State.secondRule {e : Entry} (none : s.carried x = []) (back : s.TurnsBack x e) :
    (∀ d, s.exitRoom x ≠ 0 → s.deck x d = .none → (d = .rear → ¬s.deck x .front = .none) →
      s.planFor x = some (s.planOf .turnBack 0 [loadStop 0 (entrySpur x) d 0 e, s.exitUnload x d e])) ∧
    (s.exitRoom x = 0 ∨ (∀ d, ¬s.deck x d = .none) → s.planFor x = .none) := by
  rw [s.planFor_turnBack x none ((s.turnBackHead_iff x e).2 back)]
  exact ⟨fun d => s.turnBackPlan_fits x e, s.turnBackPlan_roomless x e⟩

theorem State.thirdRule (none : s.carried x = []) (noBack : ∀ e, ¬s.TurnsBack x e) : s.planFor x = s.normalPlan x := by
  refine s.planFor_normal x none ?_
  cases back : s.turnBackHead x with
  | none => rfl
  | some e => exact absurd ((s.turnBackHead_iff x e).1 back) (noBack e)

/-- The sequenced picks with the first bound card that is due (R95, R96 step 1). -/
theorem State.sequencedRule {pre post : List Nat} {n room : Nat} (bound : s.release.bound.get x = pre ++ n :: post)
    (waiting : ∀ m ∈ pre, ¬(s.inPhase m .granted = true ∨ s.inPhase m .inLane = true))
    (ready : s.inPhase n .granted = true ∨ s.inPhase n .inLane = true) :
    (∀ p, s.Stands n p → s.Offered x p (.card n) →
      (∀ m q, post.head? = some m → s.Stands m q → s.Offered x q (.card m) →
        s.sequencedPicks x room = ([⟨p, 0, .card n⟩, ⟨q, 0, .card m⟩] : List Pick).take room) ∧
      (∀ m, post.head? = some m → s.Stands m p → ¬s.Offered x p (.card m) → s.BehindHead x p (.card m) →
        s.sequencedPicks x room = ([⟨p, 0, .card n⟩, ⟨p, 1, .card m⟩] : List Pick).take room) ∧
      ((∀ m q, post.head? = some m → s.Stands m q → ¬s.Offered x q (.card m) ∧ (q = p → ¬s.BehindHead x p (.card m))) →
        s.sequencedPicks x room = ([⟨p, 0, .card n⟩] : List Pick).take room)) ∧
    (∀ p h, s.Stands n p → s.Offered x p h → h ≠ .card n → (s.entries p)[1]? = some (.card n) → s.seqEntry h = false →
      s.sequencedPicks x room = ([⟨p, 0, h⟩, ⟨p, 1, .card n⟩] : List Pick).take room) ∧
    ((∀ p h, s.Stands n p → s.Offered x p h → h ≠ .card n ∧ ¬((s.entries p)[1]? = some (.card n) ∧ s.seqEntry h = false)) →
      s.sequencedPicks x room = []) := by
  have first := s.n1_eq x bound waiting ready
  rw [← s.nextBound_eq x bound waiting ready]
  exact ⟨fun p => s.sequencedPicks_standing x first, fun p h => s.sequencedPicks_led x first,
    s.sequencedPicks_out_of_reach x first⟩

/-- The inbound set (R98), with the detour test as a comparison. -/
theorem State.detourRule {picks : List Pick} (some' : picks ≠ []) (inb : List (Nat × Nat)) :
    (s.estimate 0 (s.normalStops x picks inb) ≤ s.estimate 0 (s.normalStops x picks []) + s.detour →
      s.inboundSet x picks inb = inb) ∧
    (¬s.estimate 0 (s.normalStops x picks inb) ≤ s.estimate 0 (s.normalStops x picks []) + s.detour →
      s.estimate 0 (s.normalStops x picks (inb.take 1)) ≤ s.estimate 0 (s.normalStops x picks []) + s.detour →
      s.inboundSet x picks inb = inb.take 1) ∧
    (¬s.estimate 0 (s.normalStops x picks inb) ≤ s.estimate 0 (s.normalStops x picks []) + s.detour →
      ¬s.estimate 0 (s.normalStops x picks (inb.take 1)) ≤ s.estimate 0 (s.normalStops x picks []) + s.detour →
      s.inboundSet x picks inb = []) := by
  rw [← s.detourPasses_iff x picks inb, ← s.detourPasses_iff x picks (inb.take 1)]
  exact s.inboundSet_detour x some' inb

end

/-- Settles O55, rule by rule: the try and the first two rules, the outbound choice, the inbound set, and the stops. -/
theorem plannerRules : Obligations.PlannerRules := by
  intro s x
  refine ⟨s.tryPlan_eq_none x, s.mem_carried x, s.firstRule x, fun e => s.secondRule x, s.thirdRule x, ?_⟩
  obtain ⟨start, short, each, full⟩ := s.outboundChoice_spec x
  refine ⟨s.length_freeDecks x, fun n c => s.age_eq, s.claimed_idle x,
    fun none => s.sequencedPicks_unbound x (s.n1_none x none), fun pre n post => s.sequencedRule x, start, short,
    fun i k late at' => ?_, full, ?_⟩
  · obtain ⟨candidate, soonest⟩ := each i k late at'
    refine ⟨candidate, fun j other => ?_⟩
    have := soonest j other
    obtain ⟨place, position, entry⟩ := k
    obtain ⟨place', position', entry'⟩ := j
    cases entry <;> cases entry' <;> exact this
  · refine ⟨s.inboundCandidates_none x, fun n p => s.inboundCandidates_one x, fun n p m q => s.inboundCandidates_two x,
      fun none => s.inboundSet_free x none _, fun some' => s.detourRule x some' _,
      s.normalPlan_none x, s.normalPlan_some x, s.mem_heldOut x _, ?_⟩
    intro d first inbound outbound i start
    have outEq : outbound = s.outboundStops x d (s.outboundChoice x) := by
      simp only [outbound]
      rcases s.outboundChoice x with _ | ⟨k, _ | ⟨j, more⟩⟩ <;> rfl
    have inEq : inbound i = inboundStops x d i := by
      rcases i with _ | ⟨⟨n, p⟩, _ | ⟨⟨m, q⟩, more⟩⟩ <;> rfl
    rw [outEq, inEq]
    exact s.normalStops_start x first (s.start_of_candidates x _ start)

end Sys2Proof.Machine
end

section
/-! PROOF. UNBAR with option CLEAR (R16, R19; the statement UnbarClearExamined), and the cards that end in one event. -/

namespace Sys2Proof.Machine

/-! ### Cards that end one after another (R40) -/

section
variable {s : State} {m n : Nat}

theorem State.finishOrder_of_none (none : s.ctx n = none) (final : Byte) (r : ReasonCode) (detail : Byte) (gives : Bool) :
    s.finishOrder n final r detail gives = s.setHeld (s.handover.held.filter (fun h => !h.ofCard n)) := by
  have kept : (s.setHeld (s.handover.held.filter (fun h => !h.ofCard n))).ctx n = .none := none
  have same : (s.setHeld (s.handover.held.filter (fun h => !h.ofCard n))).giveUp n false =
      s.setHeld (s.handover.held.filter (fun h => !h.ofCard n)) := by
    rw [State.giveUp, kept]
  simp only [State.finishOrder, same, ite_self, kept]

/-- The end of an order leaves every other card alone. -/
theorem State.finishOrder_other (slot : m < 128) (other : m ≠ n) (final : Byte) (r : ReasonCode) (detail : Byte) (gives : Bool) :
    (s.finishOrder n final r detail gives).ctx m = s.ctx m ∧
    ∀ i, i < 64 → (s.finishOrder n final r detail gives).cardByte m i = s.cardByte m i := by
  cases hc : s.ctx n with
  | none =>
    rw [State.finishOrder_of_none hc]
    exact ⟨rfl, fun i _ => rfl⟩
  | some c =>
    obtain ⟨-, -, -, -, -, -, -, ctx, -, -, -, -, -, -, -, -, bytes⟩ :=
      Machine.finishOrder s n c final r detail gives (State.ctx_lt _ _ _ hc) hc
    refine ⟨ctx m other, fun i small => bytes _ ?_ ?_⟩ <;> simp only [cardAddr] <;> omega

/-- Card `m` has ended with a reason and a detail and without an order (R161). -/
def State.Ended (t : State) (m : Nat) (r : ReasonCode) (detail : Byte) : Prop :=
  t.ctx m = none ∧ t.cardState m = cardFailed ∧ t.cardByte m 32 = reasonByte r ∧ t.cardByte m 33 = detail

theorem State.Ended.congr {t : State} {r : ReasonCode} {detail : Byte} (h : s.Ended m r detail) (ctx : t.ctx m = s.ctx m)
    (bytes : ∀ i, i < 64 → t.cardByte m i = s.cardByte m i) : t.Ended m r detail := by
  obtain ⟨gone, state, reason, det⟩ := h
  exact ⟨ctx.trans gone, (bytes 0 (by decide)).trans state, (bytes 32 (by decide)).trans reason, (bytes 33 (by decide)).trans det⟩

theorem State.finishOrder_ended {c : Context} (hc : s.ctx m = some c) (r : ReasonCode) (detail : Byte) (gives : Bool) :
    (s.finishOrder m cardFailed r detail gives).Ended m r detail := by
  obtain ⟨-, -, gone, outcome, -⟩ := Machine.finishOrder s m c cardFailed r detail gives (State.ctx_lt _ _ _ hc) hc
  exact ⟨gone, outcome.state, outcome.reason, outcome.detail⟩

/-- An ended card stays as it ended whichever order ends next. -/
theorem State.Ended.finishOrder {r : ReasonCode} {detail : Byte} (slot : m < 128) (h : s.Ended m r detail) (n : Nat) (final : Byte)
    (r' : ReasonCode) (detail' : Byte) (gives : Bool) : (s.finishOrder n final r' detail' gives).Ended m r detail := by
  by_cases own : m = n
  · subst own
    rw [State.finishOrder_of_none h.1]
    exact h
  · obtain ⟨ctx, bytes⟩ := State.finishOrder_other (s := s) slot own final r' detail' gives
    exact h.congr ctx bytes

/-! ### The entries that go (R19) -/

@[simp] theorem State.loseEntry_frame (s : State) (p : Nat) (e : Entry) :
    (State.loseEntry p s e).sent = s.sent ∧ (State.loseEntry p s e).mode = s.mode ∧
    (State.loseEntry p s e).places = s.places ∧ (State.loseEntry p s e).lifts = s.lifts ∧
    (State.loseEntry p s e).chain = s.chain := by
  cases e <;> simp [State.loseEntry]

theorem State.loseEntries_frame (p : Nat) (gone : List Entry) (s : State) :
    (gone.foldl (State.loseEntry p) s).places = s.places ∧ (gone.foldl (State.loseEntry p) s).lifts = s.lifts ∧
    (gone.foldl (State.loseEntry p) s).chain = s.chain := by
  induction gone generalizing s with
  | nil => exact ⟨rfl, rfl, rfl⟩
  | cons e es ih =>
    obtain ⟨places, lifts, chain⟩ := ih (State.loseEntry p s e)
    exact ⟨by rw [List.foldl_cons, places]; simp, by rw [List.foldl_cons, lifts]; simp, by rw [List.foldl_cons, chain]; simp⟩

theorem State.Ended.loseEntry {p : Nat} (slot : m < 128) (h : s.Ended m .lost (byteOf p)) (e : Entry) :
    (State.loseEntry p s e).Ended m .lost (byteOf p) := by
  cases e with
  | foreign => exact h
  | card n => exact h.finishOrder slot n cardFailed .lost (byteOf p) true

theorem State.Ended.loseEntries {p : Nat} (slot : m < 128) (gone : List Entry) {s : State} (h : s.Ended m .lost (byteOf p)) :
    (gone.foldl (State.loseEntry p) s).Ended m .lost (byteOf p) := by
  induction gone generalizing s with
  | nil => exact h
  | cons e es ih => exact ih (h.loseEntry slot e)

/-- Every open order whose entry goes fails LOST (R19). -/
theorem State.loseEntries_ended {p : Nat} (slot : m < 128) (gone : List Entry) {s : State} (member : Entry.card m ∈ gone)
    (order : s.ctx m ≠ none) : (gone.foldl (State.loseEntry p) s).Ended m .lost (byteOf p) := by
  induction gone generalizing s with
  | nil => cases member
  | cons e es ih =>
    rw [List.foldl_cons]
    by_cases own : e = .card m
    · subst own
      obtain ⟨c, hc⟩ := Option.ne_none_iff_exists'.1 order
      exact State.Ended.loseEntries slot es (State.finishOrder_ended hc .lost (byteOf p) true)
    · refine ih ((List.mem_cons.1 member).resolve_left (Ne.symm own)) ?_
      cases e with
      | foreign => exact order
      | card n =>
        have other : m ≠ n := fun same => own (by rw [same])
        rw [State.loseEntry, (State.finishOrder_other slot other _ _ _ _).1]
        exact order

end

/-! ### UNBAR CLEAR (R19) -/

section
variable (s : State) (p : Nat)

/-- The state in which the sensors are believed afresh: the claims have ended and the entries have gone. -/
def State.lost (s : State) (p : Nat) : State := (s.entries p).foldl (State.loseEntry p) ((s.endClaims p).setEntries p [])

theorem State.unbarClear_eq : s.unbarClear p =
    ((s.lost p).setPlace p ((s.lost p).believed p)).tellAll (s.toldCleared p ((s.lost p).believed p)) := rfl

theorem State.endClaims_eq : s.endClaims p = { s with lifts := (s.endClaims p).lifts } := by
  unfold State.endClaims
  split <;> rfl

/-- The claim of a load at place `p` ends (R19). -/
def Stop.unclaimed (st : Stop) (p : Nat) : Stop := if st.place = p ∧ st.action = .load then { st with claim := none } else st

theorem State.endClaims_lift (sided : (isLane p || isSpur p) = true) : (s.endClaims p).lift (placeSide p) =
    (s.lift (placeSide p)).mapStops (fun st => st.unclaimed p) := by
  rw [State.endClaims, if_pos sided, State.lift_updateLift_self]
  rfl

theorem State.endClaims_lift_other : (s.endClaims p).lift (otherSide (placeSide p)) = s.lift (otherSide (placeSide p)) := by
  unfold State.endClaims
  split
  · exact State.lift_updateLift_other _ _ _
  · rfl

theorem State.lost_lifts : (s.lost p).lifts = (s.endClaims p).lifts := by
  rw [State.lost, (State.loseEntries_frame p _ _).2.1]
  simp [State.setEntries]

theorem State.lost_chain : (s.lost p).chain = s.chain := by
  rw [State.lost, (State.loseEntries_frame p _ _).2.2, s.endClaims_eq]
  simp [State.setEntries]

theorem State.lost_place (slot : p < 169) : (s.lost p).place p = (s.endClaims p).retimed p { s.place p with entries := [] } := by
  rw [State.lost, State.place_eq_of_places (State.loseEntries_frame p _ _).1, State.setEntries, State.place_setPlace_self _ _ slot]
  have same : (s.endClaims p).place p = s.place p := by rw [s.endClaims_eq]; rfl
  rw [same]

theorem State.unbarClear_place (slot : p < 169) :
    (s.unbarClear p).place p = (s.lost p).retimed p ((s.lost p).believed p) := by
  rw [State.unbarClear_eq, State.place_tellAll, State.place_setPlace_self _ _ slot]

theorem State.unbarClear_lifts : (s.unbarClear p).lifts = (s.endClaims p).lifts := by
  rw [State.unbarClear_eq]
  simp [s.lost_lifts p]

/-- The record that stands after UNBAR CLEAR (R19, steps 2 and 3). -/
theorem State.unbarClear_status (slot : p < 169) : ((s.unbarClear p).place p).barred = false ∧
    ((s.unbarClear p).place p).frozen = none ∧ ((s.unbarClear p).place p).res = (s.place p).res := by
  have res : ((s.lost p).place p).res = (s.place p).res := by rw [s.lost_place p slot]; simp
  rw [s.unbarClear_place p slot]
  unfold State.believed
  dsimp only
  split <;> simp [res]

theorem State.believed_dead (dead : isLane p = true ∧ s.alive (laneLevel p) = false) : s.believed p =
    { s.place p with entries := [], barred := false, frozen := none, awaiting := true, sensed := none } := by
  rw [State.believed, dead.1, dead.2]
  rfl

theorem State.believed_alive (alive : isLane p = false ∨ s.alive (laneLevel p) = true) : s.believed p =
    { s.place p with
      entries := List.replicate (min ((s.place p).sensed.getD 0) (capacity p - (s.place p).res)) .foreign
      barred := false, frozen := none } := by
  refine if_neg ?_
  rcases alive with h | h <;> simp [h]

theorem State.lost_alive (level : Nat) : (s.lost p).alive level = s.alive level := by
  simp only [State.alive, State.node, s.lost_chain p]

/-- A lane whose level is not ALIVE stands empty and awaits rebuild (R19, step 3). -/
theorem State.unbarClear_dead (slot : p < 169) (lane : isLane p = true) (dead : s.alive (laneLevel p) = false) :
    (s.unbarClear p).entries p = [] ∧ ((s.unbarClear p).place p).awaiting = true ∧ ((s.unbarClear p).place p).sensed = none := by
  rw [State.entries, s.unbarClear_place p slot, State.believed_dead _ _ ⟨lane, by rw [s.lost_alive, dead]⟩]
  simp

/-- Everywhere else the sensor's count is believed, as far as the reservations leave room (R19, step 2). -/
theorem State.unbarClear_alive (slot : p < 169) (alive : isLane p = false ∨ s.alive (laneLevel p) = true) :
    (s.unbarClear p).entries p = List.replicate (min ((s.place p).sensed.getD 0) (capacity p - (s.place p).res)) .foreign := by
  rw [State.entries, s.unbarClear_place p slot, State.believed_alive _ _ (alive.imp_right (s.lost_alive p _).trans), s.lost_place p slot]
  simp

theorem State.cardByte_setPlace {m i : Nat} (hm : m < 128) (hi : i < 64) (q : Place) (hp : p < 169) :
    (s.setPlace p q).cardByte m i = s.cardByte m i := by
  refine State.read_setPlace_outside s q ?_
  simp only [cardAddr]
  omega

theorem State.unbarClear_ended {m : Nat} (slot : p < 169) (hm : m < 128) (member : Entry.card m ∈ s.entries p)
    (order : s.ctx m ≠ none) : (s.unbarClear p).Ended m .lost (byteOf p) := by
  have before : ((s.endClaims p).setEntries p []).ctx m ≠ none := by
    rw [s.endClaims_eq]
    simpa [State.setEntries, State.ctx] using order
  have ended : (s.lost p).Ended m .lost (byteOf p) := State.loseEntries_ended hm _ member before
  rw [State.unbarClear_eq]
  refine ended.congr ?_ fun i small => ?_
  · simp [State.ctx]
  · rw [State.tellAll_eq]
    exact State.cardByte_setPlace _ p hm small _ slot

end

/-- An UNBAR names a lane or a spur (R16). -/
theorem State.namedPlace_lt {s : State} {n k p : Nat} (inv : Inv s) (h : s.namedPlace n k false = some p) : p < 164 := by
  have levels : s.levels ≤ 40 := State.levels_le inv.store
  rcases (Machine.namedPlace s n k false p inv).1 h with ⟨small, low, high, rfl, -⟩ | ⟨four, eight, -, rfl, -⟩ <;> omega

theorem sided_of_lt {p : Nat} (h : p < 164) : (isLane p || isSpur p) = true := by simp [isLane, isSpur]; omega

theorem State.examineUnbarClear_unnamed {s : State} {n : Nat} (none : s.namedPlace n (s.cardSelector n - 0x80) false = none) :
    s.examineUnbarClear n = s.refuse n .badField 0 := by
  unfold State.examineUnbarClear
  split
  · rfl
  · next p some' => cases none.symm.trans some'

theorem State.examineUnbarClear_named {s : State} {n p : Nat} (names : s.namedPlace n (s.cardSelector n - 0x80) false = some p) :
    s.examineUnbarClear n =
      if isLane p && (s.place p).lock != .none then s.refuse n .placeBusy 0 else (s.unbarClear p).done n 0x00 := by
  unfold State.examineUnbarClear
  split
  · next none => cases names.symm.trans none
  · next q some' =>
    cases Option.some.inj (names.symm.trans some')
    rfl

section
variable {s : State} {n : Nat} {rest : List Nat} (head : Head s kindUnbar n rest) (option : s.clearOption n = true)
include head option

theorem Head.unbarClear_own : (s.isKind kindUnbar n && s.clearOption n) = true := by rw [head.isKind, option]; rfl

theorem Head.unbarClear_refuses {r : ReasonCode} {detail : Byte}
    (does : (s.examining rest).examineUnbarClear n = (s.examining rest).refuse n r detail) :
    ∃ t, exec .unbarClear s = .next t ∧ FinishedAs (s.examining rest) t n cardRefused r detail s.stamp := by
  have refused := head.refuses (c := .unbarClear) (row := fun s n => s.isKind kindUnbar n && s.clearOption n)
    (f := fun n t => t.examineUnbarClear n) rfl (head.unbarClear_own option) (r := r) (detail := detail)
  exact refused does

theorem Head.unbarClear_leads {v : State} (does : (s.examining rest).examineUnbarClear n = v) : Leads .unbarClear s v := by
  have leads := head.leads (c := .unbarClear) (row := fun s n => s.isKind kindUnbar n && s.clearOption n)
    (f := fun n t => t.examineUnbarClear n) rfl (head.unbarClear_own option) (v := v)
  exact leads does

end

/-- Settles O31: the refusals, and the place, the claims and the cards of the one that acts. -/
theorem unbarClearExamined : Obligations.UnbarClearExamined := by
  have names {s : State} {n : Nat} {rest : List Nat} (head : Head s kindUnbar n rest) :
      (s.examining rest).namedPlace n ((s.examining rest).cardSelector n - 0x80) false =
        s.namedPlace n (s.cardSelector n - 0x80) false := by
    have selector : (s.examining rest).cardSelector n = s.cardSelector n := by rw [head.examining_eq]; rfl
    have same (k : Nat) : (s.examining rest).namedPlace n k false = s.namedPlace n k false := by rw [head.examining_eq]; rfl
    rw [selector, same]
  refine ⟨fun s n rest head option none => ?_, fun s n rest p inv head option named => ?_⟩
  · exact head.unbarClear_refuses option (State.examineUnbarClear_unnamed ((names head).trans none))
  · intro u unclaimed
    have range := State.namedPlace_lt inv named
    have slot : p < 169 := by omega
    have sided := sided_of_lt range
    have view : u.places = s.places ∧ u.lifts = s.lifts ∧ u.chain = s.chain ∧ u.contexts = s.contexts := by
      simp only [u, head.examining_eq, and_self]
    obtain ⟨places, lifts, chain, contexts⟩ := view
    have place : u.place p = s.place p := State.place_eq_of_places places p
    have alive : u.alive (laneLevel p) = s.alive (laneLevel p) := by simp only [State.alive, State.node, chain]
    have named' := (names head).trans named
    refine ⟨fun lane locked => ?_, fun idle => ⟨?_, ?_⟩⟩
    · refine head.unbarClear_refuses option ?_
      rw [State.examineUnbarClear_named named']
      exact if_pos (by rw [place, lane]; simpa using locked)
    · refine head.unbarClear_leads option ?_
      rw [State.examineUnbarClear_named named']
      refine if_neg ?_
      rw [place]
      rcases idle with h | h <;> simp [h]
    · obtain ⟨barred, frozen, res⟩ := u.unbarClear_status p slot
      refine ⟨barred, frozen, res.trans (by rw [place]), ?_, ?_, fun lane dead => ?_, fun live => ?_, fun m hm member order => ?_⟩
      · intro l
        rw [State.lift_congr (u.unbarClear_lifts p), u.endClaims_lift p sided, State.lift_congr lifts]
        rfl
      · rw [State.lift_congr (u.unbarClear_lifts p), u.endClaims_lift_other p, State.lift_congr lifts]
      · exact u.unbarClear_dead p slot lane (alive.trans dead)
      · rw [u.unbarClear_alive p slot (live.imp_right alive.trans), place]
      · refine u.unbarClear_ended p slot hm ?_ ?_
        · rw [State.entries, place]; exact member
        · rw [State.ctx, contexts]; exact order

end Sys2Proof.Machine
end

section
/-! PROOF. FLUSH (R46, R47; the statement FlushExamined): the test of the zone, the cards that end one after another, and the
places rebuilt. -/

namespace Sys2Proof.Machine

/-! ### The zone (R46) -/

section
variable (s : State)

theorem State.anyGrant_iff : s.handover.grants.toList.any (·.isSome) = true ↔ ∃ k, s.grant k ≠ none := by
  rw [List.any_eq_true]
  constructor
  · rintro ⟨g, member, open'⟩
    obtain ⟨i, hi⟩ := List.mem_iff_getElem?.1 member
    refine ⟨i + 1, ?_⟩
    have at' : s.handover.grants[i]? = some g := by rw [← Vector.getElem?_toList]; exact hi
    rw [State.grant, at']
    exact Option.isSome_iff_ne_none.1 open'
  · rintro ⟨k, open'⟩
    cases k with
    | zero => exact absurd rfl open'
    | succ i =>
      cases at' : s.handover.grants[i]? with
      | none => rw [State.grant, at'] at open'; exact absurd rfl open'
      | some g =>
        rw [State.grant, at'] at open'
        exact ⟨g, List.mem_iff_getElem?.2 ⟨i, by rw [Vector.getElem?_toList]; exact at'⟩, Option.isSome_iff_ne_none.2 open'⟩

theorem State.anyLocked_iff : (List.range 160).any (fun p => (s.place p).lock != .none) = true ↔
    ∃ p, p < 160 ∧ (s.place p).lock ≠ .none := by simp

theorem State.zoneBusy_iff : s.zoneBusy = true ↔ (∃ p, p < 160 ∧ (s.place p).lock ≠ .none) ∨ (∃ k, s.grant k ≠ none) ∨
    (∃ x, (s.lift x).trip ≠ none ∨ (s.lift x).pending ≠ none) ∨ s.entry.motion ≠ .idle ∨ s.release.merge ≠ .idle := by
  have sides : (∃ x, (s.lift x).trip ≠ none ∨ (s.lift x).pending ≠ none) ↔
      ((s.lift .a).trip ≠ none ∨ (s.lift .a).pending ≠ none) ∨ (s.lift .b).trip ≠ none ∨ (s.lift .b).pending ≠ none :=
    ⟨fun ⟨x, h⟩ => by cases x with | a => exact .inl h | b => exact .inr h, fun h => h.elim (⟨.a, ·⟩) (⟨.b, ·⟩)⟩
  rw [sides, ← s.anyGrant_iff, ← s.anyLocked_iff]
  simp only [State.zoneBusy, Bool.or_eq_true, Option.isSome_iff_ne_none, bne_iff_ne, or_assoc]

end

/-! ### One card after another (R47, step 1) -/

/-- A place but for what its entries are, and its mismatch timer. -/
def Place.blank (q : Place) : Place := { q with entries := q.entries.map Entry.toForeign, mismatch := none }

/-- Card `m` has a held drop ask at level `k`'s node (R47). -/
def State.asksAt (s : State) (k m : Nat) : Bool :=
  (s.ctx m).any (fun c => c.level == k) && s.handover.held.any (fun h => h.ofCard m)

/-- The node of a level after `n` refusals have been queued for it (8.5). -/
def Node.refusing (nd : Node) (n : Nat) : Node := { nd with
  queue := nd.queue ++ (if nd.state = .alive ∨ nd.state = .seeking then List.replicate n (.dropRefuse .cancelled) else []) }

/-- FLUSH has ended the cards `done` of `s`, which gave `t`. -/
structure Flushing (s t : State) (done : List Nat) : Prop where
  quiet : t.wake = s.wake
  mode : t.mode = s.mode
  lines : t.lines = s.lines
  conditions : t.conditions = s.conditions
  entry : t.entry = s.entry
  store : t.store = s.store
  release : t.release = s.release
  queue : t.board.postQueue = s.board.postQueue
  held : t.handover.held = s.handover.held.filter (fun h => !done.any h.ofCard)
  node : ∀ k, t.node k = (s.node k).refusing (done.filter (s.asksAt k)).length
  ctx : ∀ m, t.ctx m = if m ∈ done then none else s.ctx m
  place : ∀ p, (t.place p).blank = (s.place p).blank
  ended : ∀ m ∈ done, m < 128 → t.Ended m .flushed 0x00 ∧ m ∈ t.board.finishList

theorem Flushing.start (s : State) : Flushing s s [] where
  quiet := rfl
  mode := rfl
  lines := rfl
  conditions := rfl
  entry := rfl
  store := rfl
  release := rfl
  queue := rfl
  held := by simp
  node k := by simp [Node.refusing]
  ctx m := by simp
  place p := rfl
  ended m member := by cases member

section
variable (s : State)

/-- The entry of a card becomes FOREIGN where its context says it stands (R2). -/
def State.disowned (m : Nat) (c : Context) : State :=
  match c.place with
  | none => s
  | some p => s.makeForeign m p

/-- The level is told that the card's held ask is refused (R47). -/
def State.refusedAsk (s : State) (m : Nat) (c : Context) (asks : Bool) : State :=
  if asks then (s.disowned m c).queueNode c.level (.dropRefuse .cancelled) else s.disowned m c

theorem State.flushCard_eq {m : Nat} {c : Context} (hc : s.ctx m = some c) : s.flushCard m =
    (s.refusedAsk m c (s.handover.held.any (fun h => h.ofCard m))).finishOrder m cardFailed .flushed 0x00 (gives := false) := by
  rw [State.flushCard, hc]
  rfl

theorem State.makeForeign_blank (m p q : Nat) : ((s.makeForeign m p).place q).blank = (s.place q).blank := by
  rw [State.makeForeign, State.setEntries, State.place_setPlace]
  split
  · next own =>
    obtain ⟨rfl, -⟩ := own
    simp [Place.blank, State.entries, Entry.toForeign]
  · rfl

@[simp] theorem State.disowned_frame (m : Nat) (c : Context) :
    (s.disowned m c).wake = s.wake ∧ (s.disowned m c).mode = s.mode ∧ (s.disowned m c).lines = s.lines ∧
    (s.disowned m c).conditions = s.conditions ∧ (s.disowned m c).entry = s.entry ∧ (s.disowned m c).store = s.store ∧
    (s.disowned m c).release = s.release ∧ (s.disowned m c).board.postQueue = s.board.postQueue ∧
    (s.disowned m c).board.finishList = s.board.finishList ∧ (s.disowned m c).handover = s.handover ∧
    (s.disowned m c).chain = s.chain ∧ (s.disowned m c).contexts = s.contexts := by
  unfold State.disowned
  split
  · simp
  · simp [State.makeForeign]

theorem State.disowned_blank (m : Nat) (c : Context) (q : Nat) : ((s.disowned m c).place q).blank = (s.place q).blank := by
  unfold State.disowned
  split
  · rfl
  · exact s.makeForeign_blank m _ q

theorem State.disowned_cardByte (m : Nat) (c : Context) {n i : Nat} (hn : n < 128) (hi : i < 64) :
    (s.disowned m c).cardByte n i = s.cardByte n i := by
  unfold State.disowned
  split
  · rfl
  · refine State.read_setPlace_outside s _ ?_
    simp only [cardAddr]
    omega

@[simp] theorem State.refusedAsk_frame (m : Nat) (c : Context) (asks : Bool) :
    (s.refusedAsk m c asks).wake = s.wake ∧ (s.refusedAsk m c asks).mode = s.mode ∧ (s.refusedAsk m c asks).lines = s.lines ∧
    (s.refusedAsk m c asks).conditions = s.conditions ∧ (s.refusedAsk m c asks).entry = s.entry ∧
    (s.refusedAsk m c asks).store = s.store ∧ (s.refusedAsk m c asks).release = s.release ∧
    (s.refusedAsk m c asks).board.postQueue = s.board.postQueue ∧ (s.refusedAsk m c asks).board.finishList = s.board.finishList ∧
    (s.refusedAsk m c asks).handover = s.handover ∧ (s.refusedAsk m c asks).contexts = s.contexts ∧
    (s.refusedAsk m c asks).places = (s.disowned m c).places ∧ (s.refusedAsk m c asks).board.mem = (s.disowned m c).board.mem := by
  unfold State.refusedAsk
  cases asks <;> simp

theorem State.node_queueNode (level k : Nat) (cmd : ChainCmd) : (s.queueNode level cmd).node k =
    if level = k ∧ ((s.node k).state = .alive ∨ (s.node k).state = .seeking) then { s.node k with queue := (s.node k).queue ++ [cmd] }
    else s.node k := by
  by_cases own : level = k
  · subst own
    by_cases served : (s.node level).state = .alive ∨ (s.node level).state = .seeking
    · rw [if_pos ⟨rfl, served⟩, State.node_queueNode_self _ served]
    · rw [if_neg fun h => served h.2, State.queueNode, if_neg served]
  · rw [if_neg fun h => own h.1, State.node_queueNode_ne _ _ (Ne.symm own)]

theorem State.node_refusedAsk (m : Nat) (c : Context) (asks : Bool) (k : Nat) : (s.refusedAsk m c asks).node k =
    (s.node k).refusing (if c.level == k && asks then 1 else 0) := by
  have same : (s.disowned m c).node k = s.node k := by simp only [State.node, (s.disowned_frame m c).2.2.2.2.2.2.2.2.2.2.1]
  unfold State.refusedAsk
  cases asks with
  | false => simp [same, Node.refusing]
  | true =>
    rw [if_pos rfl, State.node_queueNode, same]
    by_cases own : c.level = k
    · subst own
      by_cases served : (s.node c.level).state = .alive ∨ (s.node c.level).state = .seeking <;> simp [Node.refusing, served]
    · simp [own, Node.refusing]

end

theorem Node.refusing_refusing (nd : Node) (a b : Nat) : (nd.refusing a).refusing b = nd.refusing (a + b) := by
  by_cases served : nd.state = .alive ∨ nd.state = .seeking
  · simp only [Node.refusing, if_pos served, List.append_assoc, List.replicate_append_replicate]
  · simp only [Node.refusing, if_neg served, List.append_nil]

/-- A card that has not ended yet still has the asks it had. -/
theorem anyOfCard_filter {done : List Nat} {m : Nat} (fresh : m ∉ done) (held : List HeldAsk) :
    (held.filter (fun h => !done.any h.ofCard)).any (fun h => h.ofCard m) = held.any (fun h => h.ofCard m) := by
  rw [List.any_filter]
  congr 1
  funext h
  cases own : h.ofCard m with
  | false => simp
  | true =>
    have none : done.any h.ofCard = false := by
      cases h with
      | take _ _ => cases own
      | drop k w t =>
        have same : w = m := by simpa [HeldAsk.ofCard] using own
        subst same
        simpa [HeldAsk.ofCard, List.any_eq_false] using fun d member (same : w = d) => fresh (same ▸ member)
    simp [none]

/-- FLUSH ends one more card (R47, step 1). -/
theorem Flushing.step {s t : State} {done : List Nat} (h : Flushing s t done) {m : Nat} (fresh : m ∉ done) (order : s.ctx m ≠ none) :
    Flushing s (t.flushCard m) (done ++ [m]) := by
  obtain ⟨c, hc⟩ := Option.ne_none_iff_exists'.1 order
  have own : t.ctx m = some c := by rw [h.ctx, if_neg fresh, hc]
  rw [t.flushCard_eq own, h.held, anyOfCard_filter fresh]
  generalize hu : t.refusedAsk m c (s.handover.held.any (fun h => h.ofCard m)) = u
  obtain ⟨uWake, uMode, uLines, uConditions, uEntry, uStore, uRelease, uQueue, uList, uHandover, uContexts, uPlaces, uMem⟩ :=
    (show _ from hu ▸ t.refusedAsk_frame m c (s.handover.held.any (fun h => h.ofCard m)))
  have uOwn : u.ctx m = some c := by rw [State.ctx, uContexts]; exact own
  have slot := State.ctx_lt _ _ _ own
  obtain ⟨-, release, gone, outcome, list, -, -, others, places, -, chain, entry, store, conditions, mode, -, bytes⟩ :=
    Machine.finishOrder u m c cardFailed .flushed 0x00 false slot uOwn
  have eq := State.finishOrder_eq uOwn cardFailed .flushed 0x00 false
  constructor
  case quiet => exact (by rw [eq]; rfl : _ = u.wake).trans (uWake.trans h.quiet)
  case mode => exact mode.trans (uMode.trans h.mode)
  case lines => exact (State.finishOrder_frame u m _ _ _ _).2.2.2.1.trans (uLines.trans h.lines)
  case conditions => exact conditions.trans (uConditions.trans h.conditions)
  case entry => exact entry.trans (uEntry.trans h.entry)
  case store => exact store.trans (uStore.trans h.store)
  case release => exact (release (.inl rfl)).trans (uRelease.trans h.release)
  case queue => exact (State.finishOrder_frame u m _ _ _ _).2.2.2.2.1.trans (uQueue.trans h.queue)
  case held =>
    have ends : (u.finishOrder m cardFailed .flushed 0x00 false).handover.held = u.handover.held.filter (fun h => !h.ofCard m) := by
      rw [eq]; rfl
    rw [ends, uHandover, h.held, List.filter_filter]
    congr 1
    funext a
    simp [Bool.and_comm]
  case node =>
    intro k
    rw [show (u.finishOrder m cardFailed .flushed 0x00 false).node k = u.node k by simp only [State.node, chain], ← hu,
      t.node_refusedAsk, h.node, Node.refusing_refusing, List.filter_append, List.length_append]
    have one : ([m].filter (s.asksAt k)).length = if s.asksAt k m then 1 else 0 := by
      rw [List.filter_singleton]; cases s.asksAt k m <;> rfl
    have asks : s.asksAt k m = (c.level == k && s.handover.held.any (fun h => h.ofCard m)) := by simp [State.asksAt, hc]
    rw [one, asks]
  case ctx =>
    intro w
    by_cases same : w = m
    · subst same; rw [gone, if_pos (by simp)]
    · rw [others w same, show u.ctx w = t.ctx w by rw [State.ctx, uContexts]; rfl, h.ctx]
      simp [same]
  case place =>
    intro p
    rw [State.place_eq_of_places (places.trans uPlaces), t.disowned_blank, h.place]
  case ended =>
    intro w member small
    rcases List.mem_append.1 member with old | new
    · obtain ⟨ended, listed⟩ := h.ended w old small
      refine ⟨State.Ended.finishOrder small (ended.congr ?_ fun i hi => ?_) m _ _ _ _, ?_⟩
      · rw [State.ctx, uContexts]; rfl
      · exact (congrArg (fun b => Memory.read b (cardAddr w i)) uMem).trans (t.disowned_cardByte m c small hi)
      · rw [list, uList]; exact List.mem_append_left _ listed
    · cases List.mem_singleton.1 new
      exact ⟨State.finishOrder_ended uOwn _ _ _, by rw [list]; simp⟩

theorem Flushing.fold {s : State} (l : List Nat) {t : State} {done : List Nat} (h : Flushing s t done)
    (fresh : ∀ m ∈ l, m ∉ done) (distinct : l.Nodup) (orders : ∀ m ∈ l, s.ctx m ≠ none) :
    Flushing s (l.foldl State.flushCard t) (done ++ l) := by
  induction l generalizing t done with
  | nil => simpa using h
  | cons m l ih =>
    obtain ⟨other, distinct⟩ := List.nodup_cons.1 distinct
    have next := ih (h.step (fresh m List.mem_cons_self) (orders m List.mem_cons_self)) (fun w member => ?_) distinct
      fun w member => orders w (List.mem_cons_of_mem m member)
    · simpa using next
    · rw [List.mem_append, List.mem_singleton]
      rintro (old | rfl)
      · exact fresh w (List.mem_cons_of_mem m member) old
      · exact other member

/-! ### The places and the end (R14, R15, R47) -/

/-- What place `p` holds after FLUSH (R15). -/
def State.Flushed (s t : State) (p : Nat) : Prop :=
  (p < 160 → s.alive (laneLevel p) = true → (s.place p).awaiting = false →
    t.entries p = List.replicate ((s.place p).sensed.getD 0) .foreign ∧ (t.place p).res = 0 ∧ (t.place p).lock = .none ∧
      (t.place p).frozen = none ∧ (t.place p).awaiting = false) ∧
  (p < 160 → s.alive (laneLevel p) = false ∨ (s.place p).awaiting = true →
    t.entries p = [] ∧ (t.place p).res = 0 ∧ (t.place p).lock = .none ∧ (t.place p).sensed = none ∧ (t.place p).awaiting = true) ∧
  (160 ≤ p → p < 164 →
    t.entries p = List.replicate (s.spurSensed p) .foreign ∧ (t.place p).res = 0 ∧ (t.place p).frozen = none ∧
      (t.place p).sensed = some (s.spurSensed p)) ∧
  (164 ≤ p → p < 169 → t.entries p = (s.entries p).map (fun _ => .foreign))

theorem State.flushPlaces_place (s : State) {p : Nat} (hp : p < 169) : s.flushPlaces.place p = s.flushedPlace p (s.place p) := by
  rw [State.flushPlaces, State.place_writeMirrors, State.place_mapPlaces _ _ hp]

theorem State.flushed_of_flushPlaces {s t u : State} (alive : ∀ k, t.alive k = s.alive k) (lines : t.lines = s.lines) {p : Nat}
    (blank : (t.place p).blank = (s.place p).blank) (hp : p < 169) (place : u.place p = t.flushedPlace p (t.place p)) :
    s.Flushed u p := by
  have spur : t.spurSensed p = s.spurSensed p := by rw [State.spurSensed, lines]; rfl
  have awaiting : (t.place p).awaiting = (s.place p).awaiting := by have same := congrArg Place.awaiting blank; exact same
  have sensed : (t.place p).sensed = (s.place p).sensed := by have same := congrArg Place.sensed blank; exact same
  have entries : (t.entries p).map Entry.toForeign = (s.entries p).map Entry.toForeign := by
    have same := congrArg Place.entries blank
    exact same
  unfold State.Flushed
  rw [State.entries, place]
  unfold State.flushedPlace
  by_cases lane : p < 160
  · have isLane : isLane p = true := by simp [isLane, lane]
    rw [if_pos isLane, alive, awaiting, sensed]
    refine ⟨fun _ live known => ?_, fun _ blind => ?_, fun high => absurd high (by omega), fun high => absurd high (by omega)⟩
    · rw [live, known]
      exact ⟨rfl, rfl, rfl, rfl, awaiting.trans known⟩
    · rw [if_neg (by rcases blind with h | h <;> simp [h])]
      exact ⟨rfl, rfl, rfl, rfl, rfl⟩
  · have noLane : ¬isLane p = true := by simp [isLane]; omega
    rw [if_neg noLane]
    by_cases isSpur' : p < 164
    · rw [if_pos (show isSpur p = true by simp [isSpur]; omega), State.rebuiltSpur, spur]
      refine ⟨fun low => absurd low lane, fun low => absurd low lane, fun _ _ => ?_, fun high => absurd high (by omega)⟩
      simp only [Place.rebuilt, and_self]
    · rw [if_neg (show ¬isSpur p = true by simp [isSpur]; omega)]
      exact ⟨fun low => absurd low lane, fun low => absurd low lane, fun _ high => absurd high isSpur', fun _ _ => entries⟩

section
variable (s : State)

theorem State.mem_openWhere_all (m : Nat) : m ∈ s.openWhere (fun _ => true) ↔ s.ctx m ≠ none := by
  rw [State.openWhere, List.mem_filter, List.mem_range]
  cases hc : s.ctx m with
  | none => simp
  | some c => simpa using State.ctx_lt s m c hc

theorem State.openWhere_all : s.openWhere (fun _ => true) = (List.range 128).filter (fun m => (s.ctx m).isSome) := by
  refine List.filter_congr fun m _ => ?_
  cases s.ctx m <;> rfl

theorem State.flushCards_flushing : Flushing s s.flushCards (s.openWhere (fun _ => true)) := by
  have all := (Flushing.start s).fold (s.openWhere (fun _ => true)) (fun m _ => List.not_mem_nil) (List.nodup_range.filter _)
    fun m member => (s.mem_openWhere_all m).1 member
  rwa [List.nil_append] at all

/-- The state in which a FLUSH card finishes (R47). -/
def State.swept (s : State) : State :=
  (s.flushCards.setRelease { s.flushCards.release with voids := [], bound := ⟨[], []⟩, stall := none }).flushPlaces

theorem State.flush_eq (n : Nat) : s.flush n = s.swept.done n (byteOf (s.openWhere (fun _ => true)).length) := rfl

theorem State.swept_cardByte {m i : Nat} (hm : m < 128) (hi : i < 64) : s.swept.cardByte m i = s.flushCards.cardByte m i := by
  refine State.read_writeMirrors_outside _ (.inl ?_)
  simp only [cardAddr]
  omega

theorem State.swept_flushed {p : Nat} (hp : p < 169) : s.Flushed s.swept p := by
  have cards := s.flushCards_flushing
  generalize ht : s.flushCards.setRelease { s.flushCards.release with voids := [], bound := ⟨[], []⟩, stall := none } = t
  have place : t.place p = s.flushCards.place p := by subst ht; rfl
  refine State.flushed_of_flushPlaces (t := t) (fun k => ?_) (by subst ht; exact cards.lines) (place ▸ cards.place p) hp ?_
  · have node : t.node k = s.flushCards.node k := by subst ht; rfl
    rw [State.alive, node, cards.node]
    rfl
  · rw [State.swept, ht, t.flushPlaces_place hp]

theorem State.swept_ctx (m : Nat) : s.swept.ctx m = none := by
  have ctx := s.flushCards_flushing.ctx m
  have same : s.swept.ctx m = s.flushCards.ctx m := rfl
  rw [same, ctx]
  split
  · rfl
  · next closed => exact Classical.byContradiction fun order => closed ((s.mem_openWhere_all m).2 order)

theorem State.swept_ended {m : Nat} (order : s.ctx m ≠ none) : s.swept.Ended m .flushed 0x00 ∧ m ∈ s.swept.board.finishList := by
  obtain ⟨c, hc⟩ := Option.ne_none_iff_exists'.1 order
  have small := State.ctx_lt s m c hc
  obtain ⟨ended, listed⟩ := s.flushCards_flushing.ended m ((s.mem_openWhere_all m).2 order) small
  exact ⟨ended.congr rfl fun i hi => s.swept_cardByte small hi, listed⟩

theorem State.swept_mirrored {p : Nat} (hp : p < 169) : s.swept.Mirrored p :=
  State.writeMirrors_mirrored _ (Nat.zero_le p) (by omega) hp

end

/-! ### The examination (R46, R47) -/

section
variable (s : State)

theorem State.wake_swept : s.swept.wake = s.wake := s.flushCards_flushing.quiet

/-- The asks of cards that are no longer open are the ones that stay (R47). -/
theorem State.held_swept : s.swept.handover.held = s.handover.held.filter
    (fun h => match h with | .drop _ m _ => (s.ctx m).isNone | .take _ _ => true) := by
  have held : s.swept.handover.held = s.flushCards.handover.held := rfl
  rw [held, s.flushCards_flushing.held]
  refine List.filter_congr fun h _ => ?_
  cases h with
  | take k x => simp [HeldAsk.ofCard]
  | drop k m w =>
    have open' : (s.openWhere (fun _ => true)).any (HeldAsk.drop k m w).ofCard = (s.ctx m).isSome := by
      rw [Bool.eq_iff_iff, List.any_eq_true, Option.isSome_iff_ne_none, ← s.mem_openWhere_all]
      refine ⟨fun ⟨d, listed, same⟩ => ?_, fun listed => ⟨m, listed, by simp [HeldAsk.ofCard]⟩⟩
      have own : m = d := by simpa [HeldAsk.ofCard] using same
      rwa [own]
    rw [open']
    change (!(s.ctx m).isSome) = (s.ctx m).isNone
    cases s.ctx m <;> rfl

/-- The cards whose held asks are refused at a level (R47). -/
theorem State.asking_eq (k : Nat) : (s.openWhere (fun _ => true)).filter (s.asksAt k) =
    (List.range 128).filter (fun m => (s.ctx m).any (fun c => c.level == k) && s.handover.held.any (fun h => h.ofCard m)) := by
  rw [s.openWhere_all, List.filter_filter]
  refine List.filter_congr fun m _ => ?_
  unfold State.asksAt
  cases s.ctx m <;> simp

theorem State.node_swept (k : Nat) : s.swept.node k = (s.node k).refusing ((List.range 128).filter (fun m =>
    (s.ctx m).any (fun c => c.level == k) && s.handover.held.any (fun h => h.ofCard m))).length := by
  have node : s.swept.node k = s.flushCards.node k := rfl
  rw [node, s.flushCards_flushing.node, s.asking_eq]

/-- The FLUSH card finishes DONE with the number of orders it has ended (R47). -/
theorem State.flush_finished {n : Nat} (hn : n < 128) : FinishedAs s.swept (s.flush n) n cardDone .none
    (byteOf ((List.range 128).filter (fun m => (s.ctx m).isSome)).length) s.swept.stamp := by
  rw [s.flush_eq, s.openWhere_all]
  exact Machine.finishCard s.swept n cardDone .none _ s.swept.stamp hn

end

section
variable {u t : State} {n : Nat} {final : Byte} {r : ReasonCode} {detail : Byte} {examined : Word}
  (h : FinishedAs u t n final r detail examined)
include h

/-- The finish of a card without an order leaves all but the board. -/
theorem FinishedAs.rest : t = { u with board := t.board } := by
  have same := h.2.rest
  rw [← same]

theorem FinishedAs.place (p : Nat) : t.place p = u.place p := by rw [h.rest]; rfl

theorem FinishedAs.mirrored {p : Nat} (hn : n < 128) (shown : u.Mirrored p) : t.Mirrored p := by
  intro i hi
  have record : t.mirrorRecord p = u.mirrorRecord p :=
    State.mirrorRecord_congr (by rw [h.rest]) (by rw [h.rest]) p
  rw [record, h.2.memory _ (by simp only [cardAddr]; omega) (.inr (by simp only [cardAddr]; omega))]
  exact shown i hi

theorem FinishedAs.cardByte {m i : Nat} (other : m ≠ n) (hi : i < 64) : t.cardByte m i = u.cardByte m i :=
  h.2.memory _ (by simp only [cardAddr]; omega) (by simp only [cardAddr]; omega)

end

theorem Head.examineFlush {s : State} {n : Nat} {rest : List Nat} (head : Head s kindFlush n rest) :
    (s.examining rest).examineFlush n = if s.mode = .run then (s.examining rest).refuse n .wrongMode 0
      else if s.zoneBusy then (s.examining rest).refuse n .zoneBusy 0 else (s.examining rest).flush n := by
  have busy : (s.examining rest).zoneBusy = s.zoneBusy := by rw [head.examining_eq]; rfl
  have mode : (s.examining rest).mode = s.mode := by rw [head.examining_eq]
  have live := head.awake.mode
  have which : (s.mode ≠ .config ∧ s.mode ≠ .hold) ↔ s.mode = .run := by cases m : s.mode <;> simp_all
  simp only [State.examineFlush, busy, mode, which]

section
variable {s : State} {n : Nat} {rest : List Nat} (head : Head s kindFlush n rest) (mode : s.mode ≠ .run) (idle : s.zoneBusy = false)
include head mode idle

theorem Head.flush_does : (s.examining rest).examineFlush n = (s.examining rest).flush n :=
  head.examineFlush.trans ((if_neg mode).trans (if_neg (by rw [idle]; decide)))

theorem Head.flush_leads : Leads .flush s ((s.examining rest).flush n) :=
  head.leads (row := fun s => s.isKind kindFlush) (f := fun n t => t.examineFlush n) rfl head.isKind (head.flush_does mode idle)

/-- Nobody is told of a FLUSH (R47). -/
theorem Head.exec_flush : exec .flush s = .next ((s.examining rest).flush n) := by
  have finished := (s.examining rest).flush_finished head.slot
  have quiet : ((s.examining rest).flush n).wake = [] := by
    rw [finished.rest]
    exact (s.examining rest).wake_swept.trans head.quiet
  have leads := head.flush_leads mode idle
  rwa [Leads, State.resolved_quiet quiet] at leads

end

section
variable (u : State) {n : Nat} (hn : n < 128)
include hn

/-- The held asks that FLUSH takes away, and the refusals it queues for them (R47). -/
theorem State.flush_asks : (u.flush n).handover.held = u.handover.held.filter
      (fun h => match h with | .drop _ m _ => (u.ctx m).isNone | .take _ _ => true) ∧
    ∀ k, (u.flush n).node k = (u.node k).refusing ((List.range 128).filter (fun m =>
      (u.ctx m).any (fun c => c.level == k) && u.handover.held.any (fun h => h.ofCard m))).length := by
  rw [(u.flush_finished hn).rest]
  exact ⟨u.held_swept, u.node_swept⟩

/-- What FLUSH leaves of everything but the cards and the places (R47). -/
theorem State.flush_leaves : (∀ m, (u.flush n).ctx m = none) ∧ (u.flush n).release.voids = [] ∧ (u.flush n).release.bound = ⟨[], []⟩ ∧
    (u.flush n).release.stall = none ∧ (u.flush n).release.n = u.release.n ∧ (u.flush n).mode = u.mode ∧
    (u.flush n).conditions = u.conditions ∧ (u.flush n).store = u.store ∧ (u.flush n).entry = u.entry ∧
    (u.flush n).board.postQueue = u.board.postQueue := by
  have finished := u.flush_finished hn
  have cards := u.flushCards_flushing
  have queue : (u.flush n).board.postQueue = u.swept.board.postQueue := by
    have same := congrArg Board.postQueue finished.2.board
    exact same
  have number : u.flushCards.release.n = u.release.n := by rw [cards.release]
  rw [queue, finished.rest]
  exact ⟨u.swept_ctx, rfl, rfl, rfl, number, cards.mode, cards.conditions, cards.store, cards.entry, cards.queue⟩

/-- The cards that FLUSH has ended (R47). -/
theorem State.flush_ended {m : Nat} (other : m ≠ n) (order : u.ctx m ≠ none) :
    (u.flush n).Ended m .flushed 0x00 ∧ m ∈ (u.flush n).board.finishList := by
  have finished := u.flush_finished hn
  obtain ⟨ended, listed⟩ := u.swept_ended order
  have ctx : (u.flush n).ctx m = u.swept.ctx m := by rw [finished.rest]; rfl
  refine ⟨ended.congr ctx fun i hi => finished.cardByte other hi, ?_⟩
  rw [finished.2.list]
  exact List.mem_append_left _ listed

theorem State.flush_places {p : Nat} (hp : p < 169) : u.Flushed (u.flush n) p ∧ (u.flush n).Mirrored p := by
  have finished := u.flush_finished hn
  refine ⟨?_, finished.mirrored hn (u.swept_mirrored hp)⟩
  have flushed := u.swept_flushed hp
  unfold State.Flushed State.entries at *
  rw [finished.place p]
  exact flushed

end

/-- Settles O27: the zone's test, the refusals, the asks refused, and the state FLUSH leaves. -/
theorem flushExamined : Obligations.FlushExamined := by
  intro s n rest head
  refine ⟨s.zoneBusy_iff, fun run => ?_, fun mode busy => ?_, fun mode idle => ⟨_, head.flush_leads mode idle, ?_⟩,
    fun mode idle => ⟨_, head.exec_flush mode idle, ?_⟩⟩
  · exact head.refuses (row := fun s => s.isKind kindFlush) (f := fun n t => t.examineFlush n) rfl head.isKind
      (head.examineFlush.trans (if_pos run))
  · exact head.refuses (row := fun s => s.isKind kindFlush) (f := fun n t => t.examineFlush n) rfl head.isKind
      (head.examineFlush.trans ((if_neg mode).trans (if_pos busy)))
  · rw [head.examining_eq]
    obtain ⟨held, node⟩ := State.flush_asks { s with sent := [], board := { s.board with postQueue := rest } } head.slot
    refine ⟨held, fun k => ?_⟩
    intro asking
    have queue := congrArg Node.queue (node k)
    exact queue
  · rw [head.examining_eq]
    generalize hu : ({ s with sent := [], board := { s.board with postQueue := rest } } : State) = u
    obtain ⟨ctx, voids, bound, stall, number, mode', conditions, store, entry, queue⟩ := u.flush_leaves head.slot
    obtain ⟨⟨state, reason, detail, -⟩, -⟩ := u.flush_finished head.slot
    have view : u.ctx = s.ctx ∧ u.place = s.place ∧ u.alive = s.alive ∧ u.spurSensed = s.spurSensed := by subst hu; exact ⟨rfl, rfl, rfl, rfl⟩
    obtain ⟨uCtx, uPlace, uAlive, uSensed⟩ := view
    have place (p : Nat) (hp : p < 169) : s.Flushed (u.flush n) p ∧ (u.flush n).Mirrored p := by
      obtain ⟨flushed, shown⟩ := u.flush_places head.slot hp
      refine ⟨?_, shown⟩
      unfold State.Flushed State.entries at *
      rwa [uPlace, uAlive, uSensed] at flushed
    refine ⟨ctx, voids, bound, stall, number.trans (by subst hu; rfl), mode'.trans (by subst hu; rfl),
      conditions.trans (by subst hu; rfl), store.trans (by subst hu; rfl), entry.trans (by subst hu; rfl), queue.trans (by subst hu; rfl),
      state, reason, detail.trans (by rw [uCtx]), fun m other order => ?_, fun p hp live known => ?_, fun p hp blind => ?_,
      fun p low high => ?_, fun p low high => ?_⟩
    · obtain ⟨⟨-, state, reason, detail⟩, listed⟩ := u.flush_ended head.slot other (by rw [uCtx]; exact order)
      exact ⟨state, reason, detail, listed⟩
    · obtain ⟨⟨lane, -⟩, shown⟩ := place p (by omega)
      obtain ⟨entries, res, lock, frozen, awaiting⟩ := lane hp live known
      exact ⟨entries, res, lock, frozen, awaiting, shown⟩
    · obtain ⟨⟨-, lane, -⟩, shown⟩ := place p (by omega)
      obtain ⟨entries, res, lock, sensed, awaiting⟩ := lane hp blind
      exact ⟨entries, res, lock, sensed, awaiting, shown⟩
    · obtain ⟨⟨-, -, spur, -⟩, shown⟩ := place p (by omega)
      intro count
      obtain ⟨entries, res, frozen, sensed⟩ := spur low high
      exact ⟨entries, res, frozen, sensed, shown⟩
    · obtain ⟨⟨-, -, -, other⟩, shown⟩ := place p (by omega)
      exact ⟨other low high, shown⟩

end Sys2Proof.Machine
end

section
/-! PROOF. The end of INIT, and NO_PROFILE that is due after it (R171, R178; the statement InitEnd). -/

namespace Sys2Proof.Machine

/-! ### A NO_PROFILE that is due -/

/-- What a command does depends on how its event starts (R171). -/
theorem exec_congr {s u : State} (same : s.begin = u.begin) (c : Instr) : exec c s = exec c u := by
  have mem : s.board.mem = u.board.mem := by
    have boards := congrArg State.board same
    simpa using congrArg Board.mem boards
  have bytes : s.cardByte = u.cardByte := by
    funext n i
    simp only [State.cardByte, mem]
  have kind : s.isKind = u.isKind := by
    unfold State.isKind State.cardKind
    rw [bytes]
  have option : s.clearOption = u.clearOption := by
    unfold State.clearOption State.cardSelector
    rw [bytes]
  have kinds : s.cardKind = u.cardKind := by
    unfold State.cardKind
    rw [bytes]
  cases c <;> dsimp only [exec]
  case badKind | retrieve | store | cancel | flush | skip | renumber | bar | unbarKeep | unbarClear | retire | commit | erase =>
    dsimp only [execBadKind, execRetrieve, execStore, execCancel, execFlush, execSkip, execRenumber, execBar, execUnbarKeep,
      execUnbarClear, execRetire, execCommit, execErase, State.examine, State.live, State.event]
    simp only [same, kind, option, kinds]
  all_goals
    dsimp only [execPowerOn, execReset, execInitEnd, execEStopAssert, execEStopRelease, execEntryArrive, execEntryArriveDeassert,
      execRejectFullChange, execSpurCountChange, execExitReadyChange,
      execStatus, execArrived, execStopDone, execTripEnd, execReady, execParkedAck, execState, execFault,
      execUnknownKindFrame, State.liftFrameIn, execNoProfile, execExchangeWrite, execPostedWrite, execFreeWrite, execAcknowledge, execClearEntry,
      execRequestConfig, execRequestRun, execRequestHold, execCauseWrite, execCauseEnableWrite, execRegisterWrite, execCommitEnd,
      execEraseEnd, execRetireEnd, execDropAsk, execDropDone, execDropAbort, execTakeAsk, execTakeDone, execTakeAbort,
      execGrantTimerExpiry, execLaneCount, execNothing, execOverflow, execRestarted, execResyncReport, execAck, execVisit,
      execExchangeUnanswered, execHello, execCheckError, execRelayedFrame, execLiftFrameDiscard, execSilenceTimerExpiry,
      execCommandResend, execStateAskRepeat, execParkTimerExpiry, execWakeTimerExpiry, execDeadlineExpiry, execEntryReaderResult,
      execDivertDone, execMismatchTimerExpiry, execExitReaderResult, execPass, execOverdueTimerExpiry, execStallTimerExpiry,
      State.live, State.event]
    rw [same]

/-- The state in which a NO_PROFILE that is due has been raised (R171). -/
def State.dueRaised (s : State) : State := { s with
  store := { s.store with noProfileDue := false }
  conditions := s.conditions.setIfInBounds srcStore ((s.cond srcStore).raised .noProfile 0x00 0x00 s.stamp) }

theorem State.begin_of_due {s : State} (live : s.mode ≠ .init) (due : s.store.noProfileDue = true) :
    s.begin = { s.dueRaised with sent := [] } := by
  rw [State.begin, State.raiseDue, if_pos ⟨live, due⟩]
  rfl

theorem State.begin_dueRaised (s : State) : s.dueRaised.begin = { s.dueRaised with sent := [] } :=
  State.begin_of_reported rfl

/-- The first event after INIT without a valid profile raises NO_PROFILE, whatever that event is (R171). -/
theorem exec_of_due {s : State} (live : s.mode ≠ .init) (due : s.store.noProfileDue = true) (c : Instr) :
    exec c s = exec c s.dueRaised :=
  exec_congr ((State.begin_of_due live due).trans s.begin_dueRaised.symm) c

theorem exec_noProfile {s : State} (awake : Awake s) : exec .noProfile s = .next { s with sent := [] } := by
  rw [exec_of_awake awake (c := .noProfile) (f := fun t => t) rfl]
  exact congrArg _ (State.resolved_quiet awake.quiet)

/-! ### The chain while no level is ALIVE -/

/-- No level is ALIVE. -/
def State.Deaf (s : State) : Prop := ∀ k, s.alive k = false

section
variable {s : State}

theorem State.Deaf.of_chain {t : State} (h : s.Deaf) (chain : t.chain = s.chain) : t.Deaf := fun k => by
  have same : t.alive k = s.alive k := by simp only [State.alive, State.node, chain]
  rw [same, h k]

section
variable (h : s.Deaf)
include h

theorem State.chain_unreserve (p : Nat) : (s.unreserve p).chain = s.chain := by
  have deaf : ((s.setPlace p { s.place p with res := (s.place p).res - 1 }).tellAll (toldRoom p)).Deaf := h.of_chain (by simp)
  have none : (s.unreserve p) = (s.setPlace p { s.place p with res := (s.place p).res - 1 }).tellAll (toldRoom p) := by
    rw [State.unreserve, State.afterReservation, deaf (laneLevel p), Bool.and_false]
    rfl
  rw [none]
  simp

theorem State.chain_released (st : Stop) : (s.released st).chain = s.chain := by
  unfold State.released
  split
  · exact State.chain_unreserve h _
  · rfl

theorem State.chain_passHoldings (x : Side) (st : Stop) : (s.passHoldings x st).chain = s.chain := by
  rcases st.load_or_unload with load | unload
  · simp only [State.passHoldings, load]
  · rw [State.passHoldings_eq _ _ _ unload]
    split
    · exact State.chain_released h st
    · split
      · simp [State.chain_released h st]
      · exact State.chain_released h st

theorem State.chain_passStop (x : Side) (i : Nat) (st : Stop) : (s.passStop x i st).chain = s.chain := by
  have holdings := State.chain_passHoldings h x st
  simpa [State.passStop, State.passQuiet, State.endStop] using holdings

theorem State.chain_retest (still : s.mode ≠ .run) (x : Side) (w : Prompt) (t : State) (e : s.retest x w = some t) :
    t.chain = s.chain := by
  have taken (i : Nat) (st : Stop) : (s.takeDecision x i st (s.decideStop x st)).chain = s.chain := by
    rcases State.decideStop_of_not_run still x st with d | d <;> rw [d]
    · exact State.chain_passStop h x i st
    · simp [State.takeDecision]
  unfold State.retest at e
  (repeat' split at e) <;> first | (cases e; done) | (cases e; exact taken _ _)

end

theorem State.chain_divertChoice (still : s.mode ≠ .run) (t : State) (e : s.divertChoice = some t) : t.chain = s.chain := by
  have none (x : Side) : s.spurTakes x = false := by simp [State.spurTakes, still]
  unfold State.divertChoice at e
  split at e
  · split at e
    · cases e
    · split at e
      · cases e; simp [State.closeDivert, State.setDivert]
      · simp only [none, List.filter_false] at e
        cases e
  · cases e

theorem State.chain_runRetry (h : s.Deaf) (still : s.mode ≠ .run) (r : Retry) (t : State) (e : s.runRetry r = some t) :
    t.chain = s.chain := by
  cases r with
  | walk => simp [State.runRetry, State.walk, still] at e
  | merge => simp [State.runRetry, State.tryMerge_of_not_run still] at e
  | plan x => simp [State.runRetry, State.tryPlan, still] at e
  | stop x w => exact State.chain_retest h still x w t e
  | send x => exact absurd e (by rw [State.runRetry, State.trySend_of_not_run still]; nofun)
  | divert => exact State.chain_divertChoice still t e
  | reject => simp [State.runRetry, State.tryReject_of_not_run still] at e

theorem State.chain_act (h : s.Deaf) (still : s.mode ≠ .run) (r : Retry) : (s.act r).chain = s.chain := by
  unfold State.act
  dsimp only
  cases e : State.runRetry { s with wake := s.wake.filter (fun q => q != r) } r with
  | none => rfl
  | some t =>
    have deaf : State.Deaf { s with wake := s.wake.filter (fun q => q != r) } := h.of_chain rfl
    exact State.chain_runRetry (s := { s with wake := s.wake.filter (fun q => q != r) }) deaf still r t e

theorem State.chain_settle (k : Nat) (h : s.Deaf) (still : s.mode ≠ .run) : (State.settle k s).chain = s.chain := by
  induction k generalizing s with
  | zero => rfl
  | succ k ih =>
    have acts (u : State) (mode : u.mode = s.mode) (chain : u.chain = s.chain) (r : Retry) :
        (State.settle k (u.act r)).chain = s.chain := by
      have stays : u.mode ≠ .run := by rw [mode]; exact still
      have acted := (State.chain_act (h.of_chain chain) stays r).trans chain
      have mode' : (u.act r).mode = u.mode := congrArg Calm.mode (State.act_calm (s := u) r)
      exact (ih (h.of_chain acted) (by rw [mode']; exact stays)).trans acted
    unfold State.settle
    split
    · rfl
    · next r _ => exact acts s rfl rfl r
    · next r q rs _ => exact acts { s with freeCount := s.freeCount + 1 } rfl rfl _

/-- Outside RUN and with no level ALIVE, what the neighbours do leaves the chain. -/
theorem State.chain_resolved (h : s.Deaf) (still : s.mode ≠ .run) : s.resolved.chain = s.chain :=
  State.chain_settle settleBound h still

end

/-! ### The inputs taken again (R15, R129, R178) -/

/-- What a spur or the divert holds by its inputs. -/
def Lines.seen (l : Lines) (p : Nat) : Place :=
  if isSpur p then
    { entries := List.replicate (min 3 ((l.spurCounts[p - 160]?).getD 0)) .foreign
      sensed := some (min 3 ((l.spurCounts[p - 160]?).getD 0)) }
  else { entries := if l.entryArrive then [.foreign] else [] }

/-- The places that INIT takes from their inputs. -/
def fromInputs (p : Nat) : Prop := isSpur p = true ∨ p = divert

theorem not_isLane_of_fromInputs {p : Nat} (h : fromInputs p) : isLane p = false := by
  simp only [fromInputs, isSpur, isLane, divert, Bool.and_eq_true, decide_eq_true_eq, decide_eq_false_iff_not] at *
  omega

section
variable (s : State)

theorem State.initPlace_seen {p : Nat} (input : fromInputs p) : s.initPlace p = s.lines.seen p := by
  have lane := not_isLane_of_fromInputs input
  unfold State.initPlace Lines.seen
  rw [if_neg (by simp [lane])]
  by_cases spur : isSpur p = true
  · rw [if_pos spur, if_pos spur]
    simp only [State.rebuiltSpur, Place.rebuilt, State.spurSensed]
  · rw [if_neg spur, if_neg spur, if_pos (input.resolve_left spur)]

/-- A place that shows what its sensors show has no mismatch timer (R11). -/
theorem State.retimed_seen {p : Nat} (input : fromInputs p) : s.retimed p (s.lines.seen p) = s.lines.seen p := by
  have lane := not_isLane_of_fromInputs input
  have none : s.mismatchEligible p (s.lines.seen p) = false := by
    unfold State.mismatchEligible Lines.seen
    by_cases spur : isSpur p = true
    · rw [if_pos spur]
      simp
    · simp [lane, spur]
  have untimed : (s.lines.seen p).mismatch = .none := by
    unfold Lines.seen
    split <;> rfl
  have keeps (q : Place) (h : q.mismatch = .none) : ({ q with mismatch := .none } : Place) = q := by rw [← h]
  rw [State.retimed, none]
  exact keeps _ untimed

theorem State.place_setPlace_seen {p : Nat} (input : fromInputs p) (hp : p < 169) :
    (s.setPlace p (s.initPlace p)).place p = s.lines.seen p := by
  rw [State.place_setPlace_self _ _ hp, s.initPlace_seen input, s.retimed_seen input]

/-- One input taken again. -/
def State.rereadPlace (s : State) (k : Nat) : State :=
  if isSpur (160 + k) ∨ 160 + k = divert then s.setPlace (160 + k) (s.initPlace (160 + k)) else s

theorem State.rereadInputs_eq : s.rereadInputs = (List.range 9).foldl State.rereadPlace s := rfl

@[simp] theorem State.rereadPlace_frame (k : Nat) :
    (s.rereadPlace k).pending = s.pending ∧ (s.rereadPlace k).wake = s.wake ∧ (s.rereadPlace k).sent = s.sent ∧
    (s.rereadPlace k).lines = s.lines ∧ (s.rereadPlace k).board.clock = s.board.clock ∧
    (s.rereadPlace k).conditions = s.conditions ∧ (s.rereadPlace k).chain = s.chain ∧ (s.rereadPlace k).store = s.store := by
  unfold State.rereadPlace
  split <;> simp

@[simp] theorem State.rereadInputs_frame :
    s.rereadInputs.pending = s.pending ∧ s.rereadInputs.wake = s.wake ∧ s.rereadInputs.sent = s.sent ∧
    s.rereadInputs.lines = s.lines ∧ s.rereadInputs.board.clock = s.board.clock ∧
    s.rereadInputs.conditions = s.conditions ∧ s.rereadInputs.chain = s.chain ∧ s.rereadInputs.store = s.store := by
  rw [State.rereadInputs_eq]
  simpa only [Prod.mk.injEq] using foldl_view (fun t : State =>
    (t.pending, t.wake, t.sent, t.lines, t.board.clock, t.conditions, t.chain, t.store)) (fun t k => by simp) (List.range 9) s

/-- After INIT's end a spur or the divert shows its inputs. -/
theorem State.place_rereadInputs {p : Nat} (input : fromInputs p) (low : 160 ≤ p) (high : p < 169) :
    s.rereadInputs.place p = s.lines.seen p := by
  have folds (l : List Nat) (t : State) (lines : t.lines = s.lines) (shown : p - 160 ∈ l ∨ t.place p = s.lines.seen p) :
      (l.foldl State.rereadPlace t).place p = s.lines.seen p := by
    induction l generalizing t with
    | nil => exact shown.resolve_left List.not_mem_nil
    | cons k l ih =>
      refine ih (t.rereadPlace k) (by simp [lines]) ?_
      by_cases own : 160 + k = p
      · refine .inr ?_
        have input' : fromInputs (160 + k) := by rw [own]; exact input
        rw [State.rereadPlace, if_pos (show isSpur (160 + k) = true ∨ 160 + k = divert from input'), ← lines, ← own]
        exact t.place_setPlace_seen input' (by omega)
      · have same : (t.rereadPlace k).place p = t.place p := by
          unfold State.rereadPlace
          split
          · exact t.place_setPlace_ne _ own
          · rfl
        rw [same]
        refine shown.imp_left fun member => ?_
        exact (List.mem_cons.1 member).resolve_left (by omega)
  rw [State.rereadInputs_eq]
  exact folds (List.range 9) s rfl (.inl (List.mem_range.2 (by omega)))

end

/-! ### The end of INIT (R178) -/

/-- The state at the end of INIT, before the chain starts. -/
def State.configured (s : State) : State :=
  let u := s.rereadInputs
  { u with
    mode := .config
    board := { u.board with latchMode := true, latchMisuse := false, latchRefused := false, enable := 0 } }

/-- The state that the end of INIT leads to (R141, R171). -/
def State.initEnded (s : State) : State :=
  if s.configured.hasProfile then s.configured.startChain
  else s.configured.setStore { s.configured.store with noProfileDue := true }

theorem leads_initEnd {s : State} (init : s.mode = .init) : Leads .initEnd s (State.initEnded { s with sent := [] }) := by
  have begun := State.begin_of_init init
  rw [Leads]
  dsimp only [exec, execInitEnd, State.event]
  rw [begun, if_pos (show ({ s with sent := [] } : State).mode = .init from init)]
  unfold State.initEnded State.configured
  generalize State.rereadInputs _ = u
  rfl

section
variable (s : State)

theorem State.hasProfile_configured : s.configured.hasProfile = s.hasProfile := by
  simp [State.configured, State.hasProfile]

/-- No level is ALIVE when the chain has just started. -/
theorem State.deaf_startChain : s.startChain.Deaf := by
  intro k
  have off : (s.startChain.node k).state ≠ .alive := by
    by_cases range : 1 ≤ k ∧ k ≤ 40
    · rw [s.node_startChain range.1 range.2, State.startNode]
      split <;> simp
    · intro alive
      exact range (s.startChain.level_of_state (by rw [alive]; decide))
  rw [State.alive]
  exact beq_eq_false_iff_ne.2 off

/-- What the end of INIT does to all but the places, the chain and the frames sent (R171, R178). -/
theorem State.initEnded_frame : s.initEnded.mode = .config ∧ s.initEnded.board.latchMode = true ∧
    s.initEnded.board.latchMisuse = false ∧ s.initEnded.board.latchRefused = false ∧ s.initEnded.board.enable = 0 ∧
    s.initEnded.board.clock = s.board.clock ∧ s.initEnded.pending = s.pending ∧ s.initEnded.wake = s.wake ∧
    s.initEnded.lines = s.lines ∧ s.initEnded.conditions = s.conditions ∧
    s.initEnded.store = (if s.hasProfile then s.store else { s.store with noProfileDue := true }) := by
  rw [State.initEnded, s.hasProfile_configured]
  cases s.hasProfile <;> simp [State.configured, State.setStore, State.startChain, State.transmit]

theorem State.place_initEnded {p : Nat} (input : fromInputs p) (low : 160 ≤ p) (high : p < 169) :
    s.initEnded.place p = s.lines.seen p := by
  have same : s.initEnded.place p = s.rereadInputs.place p := by
    unfold State.initEnded State.configured
    generalize s.rereadInputs = u
    dsimp only
    split <;> rfl
  rw [same, s.place_rereadInputs input low high]

section
variable (profile : s.hasProfile = true)
include profile

theorem State.initEnded_of_profile : s.initEnded = s.configured.startChain :=
  if_pos (by rw [s.hasProfile_configured, profile])

/-- The chain starts where there is a profile (R141). -/
theorem State.node_initEnded {k : Nat} (low : 1 ≤ k) (high : k ≤ 40) : s.initEnded.node k = s.startNode k (s.node k) := by
  have node : s.configured.node k = s.node k := by simp [State.configured, State.node]
  have start : s.configured.startNode k = s.startNode k := by
    have store : s.configured.store = s.store := by simp [State.configured]
    have levels : s.configured.levels = s.levels := by simp only [State.levels, State.profileByte, store]
    have split : s.configured.split = s.split := by simp only [State.split, State.profileByte, store]
    funext nd
    simp only [State.startNode, State.profileSide, levels, split]
  rw [s.initEnded_of_profile profile, State.node_startChain _ low high, node, start]

theorem State.sent_initEnded : s.initEnded.sent = s.sent ++ [faceAll .bottom, faceAll .top] := by
  rw [s.initEnded_of_profile profile]
  simp [State.startChain, State.transmit, State.configured]

end

theorem State.sent_initEnded_of_none (none : s.hasProfile = false) : s.initEnded.sent = s.sent := by
  rw [State.initEnded, if_neg (by rw [s.hasProfile_configured, none]; decide)]
  simp [State.configured, State.setStore]

end

/-- The neighbours leave the mode, the latches, the time, the line inputs and the store (R7). -/
theorem State.resolved_parts (v : State) : v.resolved.mode = v.mode ∧ v.resolved.board.latchMode = v.board.latchMode ∧
    v.resolved.board.latchMisuse = v.board.latchMisuse ∧ v.resolved.board.latchRefused = v.board.latchRefused ∧
    v.resolved.board.enable = v.board.enable ∧ v.resolved.board.clock = v.board.clock ∧ v.resolved.pending = v.pending ∧
    v.resolved.lines = v.lines ∧ v.resolved.store = v.store := by
  have calm := State.resolved_calm (s := v)
  exact ⟨congrArg Calm.mode calm, congrArg Calm.latchMode calm, congrArg Calm.latchMisuse calm, congrArg Calm.latchRefused calm,
    congrArg Calm.enable calm, congrArg Calm.clock calm, congrArg Calm.pending calm, congrArg Calm.lines calm,
    congrArg Calm.store calm⟩

/-- Settles O10: the event that raises a due NO_PROFILE, NO_PROFILE itself, and the state at the end of INIT. -/
theorem initEnd : Obligations.InitEnd := by
  refine ⟨fun s live due => ⟨exec_of_due live due, fun quiet => ?_⟩, fun s => exec_noProfile, fun s init => ?_⟩
  · rw [exec_of_due live due]
    exact exec_noProfile ⟨live, quiet, rfl⟩
  · refine ⟨_, leads_initEnd init, ?_⟩
    generalize hz : ({ s with sent := [] } : State) = z
    have view : z.hasProfile = s.hasProfile ∧ z.board.clock = s.board.clock ∧ z.pending = s.pending ∧ z.wake = s.wake ∧ z.lines = s.lines ∧
        z.conditions = s.conditions ∧ z.store = s.store ∧ z.sent = [] ∧ z.node = s.node := by subst hz; exact ⟨rfl, rfl, rfl, rfl, rfl, rfl, rfl, rfl, rfl⟩
    obtain ⟨has, zClock, zPending, zWake, zLines, zConditions, zStore, zSent, zNode⟩ := view
    obtain ⟨mode, latchMode, misuse, refused, enable, clock, pending, wake, lines, conditions, store⟩ := z.initEnded_frame
    rw [has, zStore] at store
    obtain ⟨rMode, rLatchMode, rMisuse, rRefused, rEnable, rClock, rPending, rLines, rStore⟩ := z.initEnded.resolved_parts
    have stays := rEnable.trans enable
    have stored := rStore.trans store
    have quiet (h : s.wake = []) : z.initEnded.resolved = z.initEnded := State.resolved_quiet (wake.trans (zWake.trans h))
    refine ⟨rMode.trans mode, rLatchMode.trans latchMode, rMisuse.trans misuse, rRefused.trans refused, stays,
      by simp [State.interruptLine, stays], rClock.trans (clock.trans zClock), rPending.trans (pending.trans zPending),
      rLines.trans (lines.trans zLines),
      by rw [stored]; split <;> rfl, by rw [stored]; split <;> rfl, by rw [stored]; split <;> rfl,
      fun h => by rw [quiet h, conditions, zConditions], fun profile k low high => ?_, fun none => by rw [stored, none]; rfl,
      fun h => ?_, fun h p low high => ?_, fun h => ?_⟩
    · have profile' : z.hasProfile = true := has.trans profile
      have deaf : z.initEnded.Deaf := by rw [z.initEnded_of_profile profile']; exact z.configured.deaf_startChain
      have chain := State.chain_resolved deaf (by rw [mode]; decide)
      have node : z.initEnded.resolved.node k = s.startNode k (s.node k) := by
        have same : z.initEnded.resolved.node k = z.initEnded.node k := by simp only [State.node, chain]
        rw [same, z.node_initEnded profile' low high, zNode, ← hz]
        rfl
      rw [node, State.startNode]
      split
      · rfl
      · exact ⟨rfl, rfl⟩
    · rw [quiet h]
      cases profile : s.hasProfile with
      | true =>
        rw [z.sent_initEnded (has.trans profile), zSent]
        rfl
      | false =>
        rw [z.sent_initEnded_of_none (has.trans profile), zSent]
        rfl
    · intro count
      have spur : isSpur p = true := by simp [isSpur]; omega
      rw [quiet h, z.place_initEnded (.inl spur) low (by omega), zLines, Lines.seen, if_pos spur]
    · rw [quiet h, z.place_initEnded (p := divert) (.inr rfl) (by decide) (by decide), zLines, Lines.seen, if_neg (by decide)]

end Sys2Proof.Machine
end

section
/-! PROOF. Power-on and RESET (R171, R178; the statement PowerOnAndReset): what INIT begins with, part by part. -/

namespace Sys2Proof.Machine

/-! ### The store when INIT begins (R170, R171) -/

/-- An erased record fails at its check word. -/
theorem checkRecord_erasedRecord : checkRecord erasedRecord = some 1 := by decide +kernel

theorem cutProfile_none (k : Nat) : checkRecord (cutProfile k none) = some 1 := by
  unfold cutProfile
  dsimp only
  split
  · next fails => simpa using fails
  · exact checkRecord_erasedRecord

theorem cutProfile_some (k : Nat) (copy : List Byte) :
    checkRecord (cutProfile k (some copy)) = some 1 ∨ cutProfile k (some copy) = copy := by
  unfold cutProfile
  dsimp only
  split
  · next either => simpa using either
  · exact .inl checkRecord_erasedRecord

theorem slotIsSpoiled_spoiled (x : Slot) : slotIsSpoiled (spoiled x) = true := by
  unfold spoiled
  split
  · next own => exact own
  · decide

section
variable (st : Store) (k : Nat)

theorem Store.cut_of_none (none : st.op = none) : st.cut k = st := by rw [Store.cut, none]

theorem Store.cut_of_some {o : StoreOp} (op : st.op = some o) : st.cut k = match o.work with
    | .commit copy => { st with profile := cutProfile k (some copy), op := none }
    | .erase => { st with profile := cutProfile k none, slots := Vector.ofFn (fun j => cutSlot k j.val), op := none }
    | .retire _ j => { st with slots := st.slots.setIfInBounds j (spoiled (cutSlot k j)), op := none } := by
  rw [Store.cut, op] <;> rfl

/-- What a store operation that was cut short leaves (R171). -/
theorem Store.cut_spec {o : StoreOp} (op : st.op = some o) : match o.work with
    | .commit copy => (st.cut k).slots = st.slots ∧
        (checkRecord (st.cut k).profile = some 1 ∨ (st.cut k).profile = copy)
    | .erase => checkRecord (st.cut k).profile = some 1
    | .retire _ j => (st.cut k).profile = st.profile ∧ ∀ i (h : i < 32),
        if i = j then slotIsSpoiled (st.cut k).slots[i] = true else (st.cut k).slots[i] = st.slots[i] := by
  rw [st.cut_of_some k op]
  cases o.work with
  | commit copy => exact ⟨rfl, cutProfile_some k copy⟩
  | erase => exact cutProfile_none k
  | retire p j =>
    refine ⟨rfl, fun i h => ?_⟩
    dsimp only
    rw [Vector.getElem_setIfInBounds]
    by_cases own : j = i
    · rw [if_pos own.symm, if_pos own]
      exact slotIsSpoiled_spoiled _
    · rw [if_neg (Ne.symm own), if_neg own]

theorem Store.cut_failed : (st.cut k).failed = st.failed := by
  unfold Store.cut
  split
  · rfl
  · split <;> rfl

end

theorem State.store_begin (s : State) : s.begin.store = { s.store with noProfileDue := s.begin.store.noProfileDue } := by
  unfold State.begin State.raiseDue
  split <;> rfl

/-! ### What INIT begins with (R178) -/

section
variable (s : State) (aisle : BitVec 6) (kept : List Host.Cell)

/-- The state in which INIT writes the place map. -/
def State.cleared : State :=
  { State.reset with
    pending := s.pending
    freeCount := if s.store.op.isSome then s.freeCount + 1 else s.freeCount
    lines := s.lines
    board := { State.reset.board with aisle := aisle, mem := kept }
    store := (s.store.cut s.freeCount).loaded }

theorem State.initialise_eq : s.initialise aisle kept = (s.cleared aisle kept).initPlaces := rfl

theorem State.place_initialise {p : Nat} (hp : p < 169) :
    (s.initialise aisle kept).place p = (s.cleared aisle kept).initPlace p := by
  rw [State.initialise_eq, State.initPlaces, State.place_writeMirrors, State.place_mapPlaces _ _ hp]

theorem State.mirrored_initialise {p : Nat} (hp : p < 169) : (s.initialise aisle kept).Mirrored p :=
  State.writeMirrors_mirrored _ (Nat.zero_le p) (by omega) hp

theorem State.read_initialise {a : Nat} (outside : a < 0x3000 ∨ 0x3548 ≤ a) :
    Memory.read (s.initialise aisle kept).board.mem a = Memory.read kept a :=
  State.read_writeMirrors_outside _ (by omega)

theorem Memory.read_kept (high : ∀ c ∈ kept, 0x4000 ≤ c.1) {a : Nat} (low : a < 0x4000) : Memory.read kept a = Memory.blank a :=
  Memory.read_of_not_mem _ _ fun c hc => by have := high c hc; omega

theorem Memory.blank_outside {a : Nat} (outside : a < 0x3000 ∨ 0x3548 ≤ a) : Memory.blank a = 0x00 := if_neg (by omega)

/-- Below 4000h what INIT has not written reads 00h (R155, R178). -/
theorem State.cleared_initialise (high : ∀ c ∈ kept, 0x4000 ≤ c.1) {a : Nat} (low : a < 0x4000) (outside : a < 0x3000 ∨ 0x3548 ≤ a) :
    Memory.read (s.initialise aisle kept).board.mem a = 0x00 := by
  rw [s.read_initialise aisle kept outside, Memory.read_kept kept high low, Memory.blank_outside outside]

end

/-! ### The registers and records of State.reset -/

theorem State.cond_reset (src : Nat) : State.reset.cond src = {} := by
  simp only [State.cond, State.reset, Vector.getElem?_replicate]
  split <;> rfl

theorem State.node_reset (k : Nat) : State.reset.node k = {} := by
  cases k with
  | zero => rfl
  | succ k =>
    simp only [State.node, State.reset, Vector.getElem?_replicate]
    split <;> rfl

theorem CondEntry.byte_default {i : Nat} (h : i < 16) : ({} : CondEntry).byte i = 0x00 := by
  interval_cases i <;> rfl

theorem exec_initialise {s : State} {aisle : BitVec 6} {c : Instr} (which : c = .powerOn aisle ∨ c = .reset aisle) :
    ∃ kept, exec c s = .next (s.begin.initialise aisle kept) ∧ (∀ a ∈ kept, 0x4000 ≤ a.1) ∧
      ∀ a, 0x4000 ≤ a → Memory.read kept a = if c = .reset aisle then Memory.read s.board.mem a else 0x00 := by
  have quiet (kept : List Host.Cell) : (s.begin.initialise aisle kept).wake = [] := rfl
  rcases which with rfl | rfl
  · refine ⟨[], ?_, nofun, fun a high => ?_⟩
    · dsimp only [exec, execPowerOn, State.event]
      rw [State.resolved_quiet (quiet [])]
    · rw [if_neg nofun]
      exact Memory.blank_outside (.inr (by omega))
  · refine ⟨s.board.mem.filter (fun c => decide (0x4000 ≤ c.1)), ?_, fun a member => by simpa using (List.mem_filter.1 member).2,
      fun a high => ?_⟩
    · have resolved := State.resolved_quiet (quiet (s.begin.board.mem.filter (fun c => decide (0x4000 ≤ c.1))))
      rw [State.board_begin] at resolved
      dsimp only [exec, execReset, State.event]
      rw [State.board_begin, resolved]
    · rw [if_pos rfl]
      exact Memory.read_filter _ _ _ fun c own => by rw [own]; simpa using high

/-! ### The exchange memory after INIT (R155, R178) -/

section
variable (s : State) (aisle : BitVec 6) (kept : List Host.Cell)

theorem State.exchangeByte_initialise (high : ∀ c ∈ kept, 0x4000 ≤ c.1) :
    (∀ a, a < 0x0040 → (s.initialise aisle kept).exchangeByte a = 0x00) ∧
    (∀ a, 0x0040 ≤ a → a < 0x00C0 → (s.initialise aisle kept).exchangeByte a = 0xFF) ∧
    (∀ a, 0x00C0 ≤ a → a < 0x0A00 → (s.initialise aisle kept).exchangeByte a = 0x00) ∧
    (∀ a, 0x0C80 ≤ a → a < 0x3000 → (s.initialise aisle kept).exchangeByte a = 0x00) ∧
    (∀ p i, p < 169 → i < 8 → (s.initialise aisle kept).exchangeByte (0x3000 + 8 * p + i) =
      ((s.initialise aisle kept).mirrorRecord p).getD i 0x00) ∧
    (∀ a, 0x3548 ≤ a → a < 0x4000 → (s.initialise aisle kept).exchangeByte a = 0x00) ∧
    (∀ a, 0x4000 ≤ a → (s.initialise aisle kept).exchangeByte a = Memory.read kept a) := by
  have memory {a : Nat} (own : (0x00C0 ≤ a ∧ a < 0x0100) ∨ (0x0400 ≤ a ∧ a < 0x0A00) ∨ 0x0C80 ≤ a) :
      (s.initialise aisle kept).exchangeByte a = Memory.read (s.initialise aisle kept).board.mem a :=
    State.exchangeByte_memory _ (by omega)
  have zero {a : Nat} (own : (0x00C0 ≤ a ∧ a < 0x0100) ∨ (0x0400 ≤ a ∧ a < 0x0A00) ∨ 0x0C80 ≤ a) (low : a < 0x4000)
      (outside : a < 0x3000 ∨ 0x3548 ≤ a) : (s.initialise aisle kept).exchangeByte a = 0x00 := by
    rw [memory own, s.cleared_initialise aisle kept high low outside]
  refine ⟨fun a h => ?_, fun a h h' => ?_, fun a h h' => ?_, fun a h h' => zero (by omega) (by omega) (by omega), fun p i hp hi => ?_,
    fun a h h' => zero (by omega) (by omega) (by omega), fun a h => ?_⟩
  · rw [State.exchangeByte_header _ h]
    match a with
    | 0 | 2 | 3 | 4 | 6 => rfl
    | 1 | 5 => exact (by decide : (0 : Half).extractLsb' 8 8 = 0x00)
    | a + 7 => rfl
  · obtain ⟨i, rfl⟩ := Nat.exists_eq_add_of_le h
    rw [State.exchangeByte_finish _ (by omega)]
    rfl
  · by_cases table : 0x0100 ≤ a ∧ a < 0x0400
    · have byte := State.exchangeByte_condition (s.initialise aisle kept) (k := (a - 0x0100) / 16) (i := (a - 0x0100) % 16)
        (by omega) (by omega)
      rw [show 0x0100 + 16 * ((a - 0x0100) / 16) + (a - 0x0100) % 16 = a by omega] at byte
      rw [byte]
      exact (congrArg (fun e : CondEntry => e.byte _) (State.cond_reset _)).trans (CondEntry.byte_default (by omega))
    · exact zero (by omega) (by omega) (by omega)
  · rw [memory (by omega)]
    exact s.mirrored_initialise aisle kept hp i hi
  · rw [memory (by omega), s.read_initialise aisle kept (by omega)]

theorem State.cardState_initialise (high : ∀ c ∈ kept, 0x4000 ≤ c.1) {n : Nat} (hn : n < 128) :
    (s.initialise aisle kept).cardState n = cardFree :=
  s.cleared_initialise aisle kept high (by simp only [cardAddr]; omega) (.inl (by simp only [cardAddr]; omega))

/-! ### The places after INIT (R1, R15, R129) -/

theorem State.initPlace_lane {p : Nat} (hp : p < 160) : s.initPlace p =
    { fitted := s.fits p, retired := s.hasProfile && slotsRetire s.store.judged s.levels p, awaiting := true } :=
  if_pos (by simp [isLane, hp])

theorem State.initPlace_deck {p : Nat} (low : 164 ≤ p) (high : p < 168) : s.initPlace p = {} := by
  rw [State.initPlace, if_neg (by simp [isLane]; omega), if_neg (by simp [isSpur]; omega), if_neg (by simp [divert]; omega)]

theorem State.placesFromInputs_initialise :
    (∀ p, 160 ≤ p → p < 164 → (s.initialise aisle kept).place p =
      { entries := List.replicate (min 3 ((s.lines.spurCounts[p - 160]?).getD 0)) .foreign
        sensed := some (min 3 ((s.lines.spurCounts[p - 160]?).getD 0)) }) ∧
    (∀ p, 164 ≤ p → p < 168 → (s.initialise aisle kept).place p = {}) ∧
    (s.initialise aisle kept).place divert = { entries := if s.lines.entryArrive then [.foreign] else [] } := by
  refine ⟨fun p low high => ?_, fun p low high => ?_, ?_⟩
  · have spur : isSpur p = true := by simp [isSpur]; omega
    rw [s.place_initialise aisle kept (by omega), State.initPlace_seen _ (.inl spur), Lines.seen, if_pos spur]
    rfl
  · rw [s.place_initialise aisle kept (by omega), State.initPlace_deck _ low high]
  · rw [s.place_initialise aisle kept (by decide), State.initPlace_seen _ (.inr rfl), Lines.seen, if_neg (by decide)]
    rfl

end

/-! ### Power-on of the machine as it is at power-on (logs 6, 7) -/

theorem Memory.cells_blank (a : Nat) (bs : List Byte) (h : ∀ i (hi : i < bs.length), bs[i] = Memory.blank (a + i)) :
    Memory.cells a bs = [] := by
  induction bs generalizing a with
  | nil => rfl
  | cons b bs ih =>
    have first : b = Memory.blank a := h 0 (Nat.zero_lt_succ _)
    rw [Memory.cells, if_neg fun own => own.2 first]
    refine ih (a + 1) fun i hi => ?_
    have later := h (i + 1) (Nat.succ_lt_succ hi)
    rw [Nat.add_assoc, Nat.add_comm 1 i]
    exact later

theorem State.cleared_reset : State.reset.cleared 0 [] = State.reset := by
  have invalid : checkRecord State.reset.store.profile = some 1 := checkRecord_erasedRecord
  have store : (State.reset.store.cut 0).loaded = State.reset.store := by
    rw [Store.cut_of_none _ _ rfl, Store.loaded, invalid]
    rfl
  exact congrArg (fun st => { State.reset with store := st }) store

/-- The place map of State.reset is the one INIT writes. -/
theorem State.initPlace_reset : ∀ p : Fin 169, State.reset.initPlace p = State.reset.place p := by decide +kernel

/-- What an unlisted address of the place mirror reads as is the record of State.reset (R22). -/
theorem State.mirrorRecord_reset : ∀ p : Fin 169,
    State.reset.mirrorRecord p = (List.range 8).map (fun i => Memory.blank (0x3000 + 8 * p + i)) := by decide +kernel

theorem State.mapPlaces_reset : State.reset.mapPlaces (fun p _ => State.reset.initPlace p) = State.reset := by
  have places : State.reset.places.mapIdx (fun p _ => State.reset.initPlace p) = State.reset.places := by
    refine Vector.ext fun p hp => ?_
    have own := State.initPlace_reset ⟨p, hp⟩
    rw [Vector.getElem_mapIdx, own, State.place, Vector.getElem?_eq_getElem hp]
    rfl
  exact congrArg (fun v => { State.reset with places := v }) places

theorem State.writeMirrors_reset : State.reset.writeMirrors 0 169 = State.reset := by
  have blank : Memory.cells (0x3000 + 8 * 0) (State.reset.mirrorBlock 0 169) = [] := by
    refine Memory.cells_blank _ _ fun i hi => ?_
    have small : i < 8 * 169 := by rw [State.length_mirrorBlock] at hi; exact hi
    have byte := State.reset.mirrorBlock_getElem? 0 169 (k := i / 8) (i := i % 8) (by omega) (Nat.mod_lt _ (by decide))
    rw [Nat.div_add_mod, Nat.zero_add, State.mirrorRecord_reset ⟨i / 8, by omega⟩, List.getElem?_eq_getElem hi, List.getElem?_map,
      List.getElem?_range (Nat.mod_lt _ (by decide))] at byte
    rw [Option.some.inj byte]
    exact congrArg Memory.blank (show 0x3000 + 8 * (i / 8) + i % 8 = 0x3000 + 8 * 0 + i by omega)
  have mem : Memory.write State.reset.board.mem (0x3000 + 8 * 0) (State.reset.mirrorBlock 0 169) = [] := by
    rw [Memory.write, blank]
    rfl
  rw [State.writeMirrors, mem]
  rfl

theorem exec_powerOn_reset : exec (.powerOn 0) State.reset = .next State.reset := by
  have done : State.reset.initialise 0 [] = State.reset := by
    rw [State.initialise_eq, State.cleared_reset, State.initPlaces, State.mapPlaces_reset, State.writeMirrors_reset]
  have begun : State.reset.begin = State.reset := State.begin_of_init rfl
  dsimp only [exec, execPowerOn, State.event]
  rw [begun, done, State.resolved_quiet rfl]

/-! ### The statement -/

section
variable (s : State) (aisle : BitVec 6) (kept : List Host.Cell)

theorem State.store_initialise : (s.initialise aisle kept).store = (s.store.cut s.freeCount).loaded := rfl

/-- A lane is fitted and retired by the profile and the slots that INIT has loaded (R1, R171). -/
theorem State.lane_initialise {p : Nat} (hp : p < 160) : (s.initialise aisle kept).place p =
    { fitted := (s.initialise aisle kept).fits p
      retired := (s.initialise aisle kept).hasProfile &&
        slotsRetire (s.initialise aisle kept).store.judged (s.initialise aisle kept).levels p
      awaiting := true } := by
  rw [s.place_initialise aisle kept (by omega), State.initPlace_lane _ hp]
  rfl

theorem Store.loaded_active (st : Store) : st.loaded.active = if checkRecord st.profile = none then some st.profile else none := by
  unfold Store.loaded
  cases checkRecord st.profile <;> simp

end

/-- The store after INIT, from the store of the event's own state (R170, R171). -/
theorem State.store_begin_initialise (s : State) (aisle : BitVec 6) (kept : List Host.Cell) :
    let st := (s.begin.initialise aisle kept).store
    st.op = none ∧ st.noProfileDue = false ∧ (s.store.op = none → st.profile = s.store.profile ∧ st.slots = s.store.slots) ∧
    (∀ o, s.store.op = some o → match o.work with
      | .commit copy => st.slots = s.store.slots ∧ (checkRecord st.profile = some 1 ∨ st.profile = copy)
      | .erase => checkRecord st.profile = some 1
      | .retire _ j => st.profile = s.store.profile ∧ ∀ i (h : i < 32),
          if i = j then slotIsSpoiled st.slots[i] = true else st.slots[i] = s.store.slots[i]) ∧
    st.failed = s.store.failed ∧ st.active = (if checkRecord st.profile = none then some st.profile else none) := by
  intro st
  have begun := s.store_begin
  have eq : st = (s.begin.store.cut s.begin.freeCount).loaded := rfl
  generalize s.begin.store = w at begun eq
  generalize s.begin.freeCount = k at eq
  have parts : w.op = s.store.op ∧ w.profile = s.store.profile ∧ w.slots = s.store.slots ∧ w.failed = s.store.failed := by
    rw [begun]
    exact ⟨rfl, rfl, rfl, rfl⟩
  obtain ⟨op, profile, slots, failed⟩ := parts
  rw [eq]
  refine ⟨Store.cut_op w k, rfl, fun none => ?_, fun o some' => ?_, (Store.cut_failed w k).trans failed, Store.loaded_active _⟩
  · have stays := Store.cut_of_none w k (op.trans none)
    exact ⟨(congrArg Store.profile stays).trans profile, (congrArg Store.slots stays).trans slots⟩
  · have spec := Store.cut_spec w k (op.trans some')
    rw [profile, slots] at spec
    exact spec

theorem cause_of_init {t : State} (init : t.mode = .init) : t.cause = 0 := if_pos init

/-- Settles O9: the machine at power-on, and what INIT begins with whatever the state. -/
theorem powerOnAndReset : Obligations.PowerOnAndReset := by
  refine ⟨⟨rfl, rfl, rfl, by decide +kernel, by decide +kernel, exec_powerOn_reset⟩, fun aisle s c which => ?_⟩
  obtain ⟨kept, next, high, above⟩ := exec_initialise (s := s) which
  refine ⟨_, next, ?_⟩
  obtain ⟨op, due, idle, cut, failed, active⟩ := s.store_begin_initialise aisle kept
  obtain ⟨spurs, decks, atDivert⟩ := s.begin.placesFromInputs_initialise aisle kept
  obtain ⟨header, finish, table, cards, mirror, rest, kept'⟩ := s.begin.exchangeByte_initialise aisle kept high
  rw [State.lines_begin] at spurs atDivert
  have cause : (s.begin.initialise aisle kept).cause = 0 := cause_of_init rfl
  refine ⟨s.pending_begin, s.lines_begin, rfl, rfl, rfl, rfl, cause, by simp [State.interruptLine, cause], rfl, rfl, rfl, rfl, rfl, rfl, rfl,
    rfl, rfl, rfl, fun x => ⟨rfl, by cases x <;> rfl⟩, rfl, State.ctx_reset, fun n => State.cardState_initialise _ aisle kept high,
    State.grant_of_replicate rfl, rfl, State.cond_reset, fun x => by cases x <;> rfl, State.node_reset, rfl, rfl, op, due, idle, cut,
    failed, active, fun p => State.lane_initialise _ aisle kept, spurs, decks, atDivert, header, finish, table,
    fun i hi => State.exchangeByte_profile _ hi, fun j i hj hi => State.exchangeByte_slot _ hj hi, cards, mirror, rest, fun a h => ?_⟩
  rw [kept' a h, above a h]
  split
  · exact (State.exchangeByte_memory s (by omega)).symm
  · rfl

end Sys2Proof.Machine
end
